-- ==== Sys2Proof/Word.lean ====
section
/-!
DEFINITION. Sys2Proof/Word.lean: the words of the part, register fields as positions in a word, the row of a register
table, and maps from addresses to values held as sorted lists.
-/

namespace Sys2Proof

/-- A register word (R9). -/
abbrev Word := BitVec 32

/-- One byte. -/
abbrev Byte := BitVec 8

/-- A Tester Time value: bits 63:6 whole nanoseconds, bits 5:0 sixty-fourths (R39). -/
abbrev TT64 := BitVec 64

/-- A 48-bit local address (R970). -/
abbrev LocalAddr := BitVec 48

namespace Machine

/-- One field of one register: the register's local address and the field's highest and lowest bit. -/
structure Field where
  addr : Nat
  hi : Nat
  lo : Nat
deriving DecidableEq, Repr

/-- The access codes of R11. -/
inductive Acc where
  | rw | ro | wo | w1c | w1s | rc
deriving DecidableEq, Repr

/-- The Restored by values of R14; `none` is the dash of a field that no reset changes. -/
inductive Scope where
  | eng | rgn | fab | warm | cold | por | nv | none
deriving DecidableEq, Repr

/-- One line of a register table: bits, access, reset value, Restored by. [log 17 DEDUCED] -/
structure FieldSpec where
  hi : Nat
  lo : Nat
  acc : Acc
  reset : Nat
  scope : Scope
deriving DecidableEq, Repr

/-- One register of a table, with `n1` instances `s1` apart, each with `n2` words `s2` apart. -/
structure RegRow where
  base : Nat
  n1 : Nat
  s1 : Nat
  n2 : Nat
  s2 : Nat
  fields : List FieldSpec
deriving DecidableEq, Repr

end Machine

end Sys2Proof
end

