-- ==== Sys2Proof/Syntax.lean ====
section
/-!
DEFINITION. Sys2Proof/Syntax.lean: the commands of the part, one constructor for each row of the opcode table, and the
names their operands use.
-/

namespace Sys2Proof

namespace Machine

/-- The two partners that may own the register space (R6): the Service Port and the Filament. -/
inductive Partner where
  | svp | fil
deriving DecidableEq, Repr

/-- The two Filament ports (R104): upstream and downstream. -/
inductive Port where
  | us | ds
deriving DecidableEq, Repr

/-- Who asks for a register: a partner, user logic through a UART's hard registers, or a Backbone master by its number
(R17, R974). -/
inductive Requester where
  | partner (p : Partner)
  | uart (n : Nat)
  | master (m : Nat)
deriving DecidableEq, Repr

/-- The status codes of R115, R186, R696 and R780. -/
inductive Status where
  | ok | notOwner | accessErr | busErr | unmapped | badPacket | restricted | unreachable | noUnit | halted | timeout
  | denied | bankDown
deriving DecidableEq, Repr

end Machine

open Machine

/-- The commands, in the order of the opcode table. -/
inductive Instr where
  /-- REGISTER_WRITE (R11): A whole-word write to a register that has no row of its own sets its RW fields, clears
  its W1C bits and sets its W1S bits. -/
  | registerWrite (p : Requester) (addr : LocalAddr) (whole : Bool) (v : Word)
  /-- TT_NOW_LO_READ (R42): A read of TT_NOW_LO returns the low half of TT and latches the same sample into
  TT_NOW_HI. -/
  | ttNowLoRead (p : Partner)
  /-- TT_SOURCE_SELECT (R45): A write of TT_CTRL.SOURCE selects OFF, REF, CHAIN or FREE, and a first value other
  than OFF starts TT. -/
  | ttSourceSelect (p : Partner) (v : Word) (refKhz : Nat)
  /-- TT_SYNC_ARM (R47): A write of 1 to TT_SYNC_CTRL.ARM arms an epoch load for the next TT_SYNC rising edge. -/
  | ttSyncArm (p : Partner) (v : Word)
  /-- TT_SYNC_EDGE (R48): A TT_SYNC rising edge sampled on TT_REF either loads the epoch or is taken as a phase
  check. -/
  | ttSyncEdge
  /-- TT_REF_LOSS_OF_LOCK (R58): In REF mode the TT_REF multiplier loses lock, so the part enters holdover and
  raises event source 172. -/
  | ttRefLossOfLock
  /-- TT_REF_RELOCK (R980): The TT_REF multiplier locks again; with TT_SYNC_PERIOD at 0 the part leaves holdover at
  once with no correction. -/
  | ttRefRelock (refKhz : Nat)
  /-- SYNC_WORDS_MISSED (R59): A unit in CHAIN mode misses 8 consecutive sync words and enters holdover. -/
  | syncWordsMissed
  /-- TT_SLEW_START (R65): GO with MODE slew starts a slew of TT_ADJ_AMOUNT at RATE_PPM, or is refused with
  ADJ_REFUSED. -/
  | ttSlewStart (p : Partner) (rate : Byte)
  /-- TT_STEP_ARM (R68): GO with MODE step arms a step at TT_ADJ_AT, or is refused when TT_ADJ_AT is less than 4 µs
  ahead. -/
  | ttStepArm (p : Partner) (rate : Byte)
  /-- TT_ADJ_CANCEL (R979): CANCEL stops a slew or cancels a pending step, or is refused less than 4 µs before the
  step, and acts before any GO in the same write. -/
  | ttAdjCancel (p : Partner) (rate : Byte) (step go : Bool)
  /-- TT_SLEW_COMPLETE (R69): A requested slew has applied its whole offset, so ADJ_BUSY clears and event source 175
  is raised. -/
  | ttSlewComplete
  /-- TT_STEP_APPLY (R67): TT reaches TT_ADJ_AT and changes by TT_ADJ_AMOUNT; ADJ_BUSY clears and event source 175
  is raised. -/
  | ttStepApply
  /-- TT_WRAP (R41): TT wraps to zero after 2^58 ns, and the part treats the wrap as a backward step. -/
  | ttWrap
  /-- LSC_ENABLE (R79): TT_LSC_CTRL.EN going from 0 to 1 starts LSC from 0 on the anchor lane, frozen at 0 until the
  lock it needs is present. -/
  | lscEnable (p : Partner) (v : Word)
  /-- LSC_LO_READ (R95): A read of TT_LSC_LO returns LSC bits 31:0 and latches bits 47:32 into TT_LSC_HI. -/
  | lscLoRead (p : Partner)
  /-- PILOT_COMPARATOR_ENABLE (R986): A write of PLT_CMPn_CTRL arms a TT match comparator when EN goes to 1, and an
  analog comparator takes its output without producing an edge. -/
  | pilotComparatorEnable (p : Partner) (n : Fin 8) (v : Word)
  /-- PILOT_MATCH_VALUE_WRITE (R986): A write to PLT_TTMn_LO or PLT_TTMn_HI while EN is 1 re-arms the TT match
  comparator. -/
  | pilotMatchValueWrite (p : Partner) (n : Fin 4) (high : Bool) (v : Word)
  /-- PILOT_TT_MATCH (R986): An armed comparator fires once when TT reaches its match value, sets FIRED and raises
  its event source. -/
  | pilotTtMatch (n : Fin 4)
  /-- PILOT_ANALOG_CROSSING (R90): A sense voltage or the die temperature crosses a hysteresis point, and the
  comparator fires on the edges that EDGE names. -/
  | pilotAnalogCrossing (n : Fin 3) (level : Int)
  /-- PILOT_WAKE_EDGE (R87): An edge on PILOT_WAKE fires comparator 7 and raises event source 243. -/
  | pilotWakeEdge (level : Bool)
  /-- BAD_LINK_WORD (R107): A link word with a failed CRC-8 or an unknown type is discarded and counted in CRC_ERRS.
  -/
  | badLinkWord (port : Port) (bytes : List Byte)
  /-- TRAIN (R110): TRAIN words are received, and the link becomes Active after 16 consecutive READY words on both
  lanes. -/
  | train (port : Port) (lane : Fin 2) (ready : Bool) (sender : Byte) (credits : List Byte)
  /-- LINK_ACTIVE (R110): A link becomes Active: credits take their initial values, waiting packets and held EVENT
  messages are sent, and FIL_WAKE_N is released. -/
  | linkActive (port : Port)
  /-- LINK_SILENCE_TIMEOUT (R136): No valid block has arrived for 10 µs on an Active link, so the link retrains. -/
  | linkSilenceTimeout (port : Port)
  /-- RETRAIN_US (R190): A write of 1 to FIL_CTRL.RETRAIN_US retrains the upstream link. -/
  | retrainUs (p : Partner) (v : Word)
  /-- RETRAIN_DS (R190): A write of 1 to FIL_CTRL.RETRAIN_DS retrains the downstream link. -/
  | retrainDs (p : Partner) (v : Word)
  /-- LINK_TRAIN_TIMEOUT (R137): A link that has not reached Active within 1 ms of starting to train goes Down, and
  its unacknowledged packets are discarded. -/
  | linkTrainTimeout (port : Port)
  /-- PACKET_RECEIVE (R147): A packet with a good CRC-32 and the expected SEQ is accepted; any other packet is
  discarded and a NAK is sent. -/
  | packetReceive (port : Port) (vc : Fin 4) (seq : BitVec 12) (words : BitVec 6) (bytes : List Byte) (crc : Word)
  /-- PACKET_FORWARD_UPSTREAM (R120): A packet that arrives from downstream is forwarded to the upstream port
  unchanged. -/
  | packetForwardUpstream
  /-- PACKET_TRANSMIT (R144): The transmitter sends the next link word, replay or packet, in VC priority order, once
  it holds a credit for the packet's VC. -/
  | packetTransmit (port : Port)
  /-- ACK_SEND (R147): The receiver sends an ACK within 200 ns of acceptance, or after 16 accepted packets. -/
  | ackSend (port : Port)
  /-- ACK (R149): A received ACK frees the acknowledged packets from the replay buffer. -/
  | ack (port : Port) (seq : BitVec 12)
  /-- NAK (R149): A received NAK replays the unacknowledged packets from the SEQ it names, and retrains the link
  after 4 replays of one SEQ. -/
  | nak (port : Port) (seq : BitVec 12)
  /-- ACK_TIMEOUT (R150): Unacknowledged packets have waited 10 µs for an ACK, so the link retrains. -/
  | ackTimeout (port : Port)
  /-- CREDIT (R143): A received CREDIT word adds the returned credits for each VC. -/
  | credit (port : Port) (credits : List Byte)
  /-- CREDIT_SEND (R143): The receiver returns freed buffers in a CREDIT word within 200 ns. -/
  | creditSend (port : Port)
  /-- RD_REQ (R118): A read request is taken whole, and each 4-byte word becomes a register or Backbone read checked
  for ownership. -/
  | rdReq
  /-- RD_RSP (R113): Once the read data has arrived, the unit sends the response with the data and the first failing
  status. -/
  | rdRsp
  /-- WR_REQ (R118): A write request is taken whole, and each 4-byte word becomes a separate write checked for
  ownership. -/
  | wrReq
  /-- WR_RSP (R114): Once the writes of a WR_REQ have completed, the unit answers with WR_RSP. -/
  | wrRsp
  /-- BULK_WR (R176): A posted bulk write executes its words in arrival order, and a write that would open a 17th
  stream is answered BAD_PACKET. -/
  | bulkWr
  /-- BULK_RSP (R177): Once every word of a TAG that has received LAST has been committed, the unit sends BULK_RSP
  with the count and the first failure. -/
  | bulkRsp
  /-- BULK_RD (R179): A bulk read produces RD_RSP packets on VC3 in ascending address order, the last one with LAST
  set. -/
  | bulkRd
  /-- ENUM (R127): An unaddressed unit takes NEW_ADDR and answers ENUM_RSP, and an addressed unit adds 1 to HOPS and
  forwards the ENUM downstream. -/
  | enumPkt
  /-- ENUM_TIMEOUT (R130): The downstream link has not become Active within 1 ms of a forwarded ENUM, so the unit
  answers NO_UNIT itself. -/
  | enumTimeout
  /-- ENUM_WAIT (R132): The upstream link has been Active for 500 ms without an ENUM, so ENUM_WAIT sets and event
  source 224 is raised. -/
  | enumWait
  /-- OWN (R182): The Filament Take command moves the token to Filament upstream and is answered with OWN_RSP. -/
  | own
  /-- STAT_REQ (R183): A status request is answered with STAT_RSP giving the owner, the state flags and MOVE_COUNT.
  -/
  | statReq
  /-- RESET (R185): A chain RESET from the owning Filament is answered with RESET_RSP, and a Warm reset starts 1 µs
  after the response leaves. -/
  | chainReset
  /-- SYNC_PAIR_SEND (R155): After each 1.024 µs of TT, the unit sends SYNC_A and SYNC_B downstream, followed by a
  STEP triple when a step is pending or armed. -/
  | syncPairSend
  /-- SYNC_PAIR (R54): A received sync pair sets or slews TT in CHAIN mode, updates HOPS and may enter or leave
  holdover. -/
  | syncPair (hops : Byte) (flags : Byte) (tt : TT64)
  /-- STEP_TRIPLE (R159): A received STEP_A, STEP_H and STEP_L triple arms the announced step in a CHAIN unit. -/
  | stepTriple (amount : Word) (instant : TT64)
  /-- ECHO_MEASUREMENT (R53): At link training and every 1 ms after that, a CHAIN unit sends ECHO_REQ upstream. -/
  | echoMeasurement
  /-- ECHO_REQ (R157): A received ECHO_REQ is answered with ECHO_RSP carrying the measured turnaround. `reserved` are
  bytes 2 to 6 of the word, which R108 leaves Reserved. -/
  | echoReq (tag : Byte) (reserved : List Byte)
  /-- ECHO_RSP (R52): A received ECHO_RSP gives a hop-delay measurement, and TT_HOP_DELAY is updated to the mean of
  the last 16. -/
  | echoRsp (tag : Byte) (turnaround : Word)
  /-- DS_PM (R163): A write of FIL_CTRL.DS_PM sends DOZE_REQ or SLEEP_REQ on the downstream link. -/
  | dsPm (p : Partner) (v : Word)
  /-- DOZE_REQ (R164): A received DOZE_REQ is answered ACCEPT, and the link dozes, or REFUSE while packets are
  unacknowledged. -/
  | dozeReq
  /-- SLEEP_REQ (R164): A received SLEEP_REQ is answered ACCEPT, and the link sleeps, or REFUSE while packets are
  unacknowledged. -/
  | sleepReq
  /-- ACCEPT (R162): A received ACCEPT moves the link into Doze or Sleep. -/
  | accept
  /-- REFUSE (R164): A received REFUSE leaves the link Active. -/
  | refuse
  /-- FIL_WAKE_N_LOW (R168): While FIL_WAKE_N is low, every addressed unit returns its downstream link to Active. -/
  | filWakeNLow (low : Bool)
  /-- CORE_POR_RELEASE (R936): Core power-on reset releases 2 ms after the last monitored rail becomes valid, and
  bring-up begins. -/
  | corePorRelease
  /-- RESET_N_LOW (R209): RESET_N held low for 1 µs or more causes a Cold reset, possibly deferred by a Psiom pulse;
  a shorter pulse is ignored. -/
  | resetNLow (ns : Nat)
  /-- RESET_N_RISE (R210): The rising edge of RESET_N begins bring-up. -/
  | resetNRise
  /-- WARM_RESET (R195): The part fences every master, puts the memory into self-refresh and restarts bring-up after
  10 µs, keeping address, TT and memory. -/
  | warmReset
  /-- DEFERRED_RESET (R225): A reset deferred by a Psiom program or erase pulse is taken when that pulse ends. -/
  | deferredReset
  /-- START_TIMEOUT (R214): Configuration is not DONE when the start timeout expires; the failed-start counter
  rises, event 245 is raised and a Warm reset follows. -/
  | startTimeout
  /-- RST_ENGINE (R197): A write of GO fences the selected engine, discards its partial burst, releases its locks
  and resets it. -/
  | rstEngine (p : Partner) (v : Word)
  /-- ENGINE_RESET_COMPLETE (R199): An Engine reset completes; BUSY clears, event 247 is raised and any held enable
  is applied. -/
  | engineResetComplete
  /-- RST_CTRL (R250): A write with KEY 0xA5 and WARM set requests a Warm reset with cause SOFTWARE. -/
  | rstCtrl (p : Partner) (v : Word)
  /-- NL_EXIT (R224): A write with KEY 0xA5 and EXIT set clears the failed-start counter and causes a Warm reset. -/
  | nlExit (p : Partner) (v : Word)
  /-- RST_START_OK (R217): A write of 1 to OK clears the failed-start counter. -/
  | rstStartOk (p : Partner) (v : Word)
  /-- BROWNOUT_WARNING (R229): VCC_CORE falls below V_BOW; event 244 is raised, BOW sets, Psiom pulses stop starting
  and the Schedule Unit freezes. -/
  | brownoutWarning
  /-- BOW_SELF_REFRESH (R231): Once every snapshot started before the freeze has been committed, each memory
  controller retires its writes and enters self-refresh. -/
  | bowSelfRefresh
  /-- RETENTION_RECORD_WRITE (R607): After the started snapshots finish, the Unit writes the schedule record to
  retention bytes 0x00 to 0x3F, with the CRC-32 last. -/
  | retentionRecordWrite
  /-- BOW_RECOVER (R233): 1 ms after the warning with no brown-out, the part performs a Warm reset with cause
  BOW_RECOVER. -/
  | bowRecover
  /-- VCC_CORE_BROWNOUT (R232): VCC_CORE crosses V_BO, and the part performs a Cold reset whatever is in progress.
  -/
  | vccCoreBrownout
  /-- RAIL_FAILURE (R937): A monitored rail other than VCC_CORE leaves its range, and the part performs a Cold reset
  with cause CORE_POR. -/
  | railFailure
  /-- PILOT_POWER_FAIL (R938): VCC_PILOT falls below 1.62 V, causing a Pilot power-on reset and a Cold reset of the
  core. -/
  | pilotPowerFail
  /-- PILOT_POR_RELEASE (R938): The Pilot power-on reset releases 1 ms after VCC_PILOT rises above 1.66 V, with TT
  at 0 and stopped. -/
  | pilotPorRelease
  /-- STANDBY (R240): A write of STANDBY enters standby, or is refused with event 248 while any Lantern, Beacon or
  lane is enabled. -/
  | standby (p : Partner) (v : Word)
  /-- RUN (R242): A write of RUN ends standby. -/
  | run (p : Partner) (v : Word)
  /-- STANDBY_EXIT_COMPLETE (R242): The part is back in Run within 100 µs and raises event source 248. -/
  | standbyExitComplete
  /-- DEEP (R244): A write of DEEP from standby drives CORE_PWR_EN low to enter deep sleep, or is refused under
  R243. -/
  | deep (p : Partner) (v : Word)
  /-- DEEP_WAKE (R246): A wake comparator or RESET_N in deep sleep drives CORE_PWR_EN high and causes a Cold reset
  with cause DEEP_WAKE. -/
  | deepWake
  /-- RD (R270): A Service Port read frame fetches its words in order, after all earlier write frames have been
  committed. Its bytes are those of header word 0 and of words 1 and 2 (R263). -/
  | svpRd (header : List Byte) (address : List Byte)
  /-- SVP_READ_WORD_RETURN (R270): A fetched read word is returned with SVP_DS edges, and the read status word
  follows the last one. -/
  | svpReadWordReturn
  /-- SVP_READ_TIMEOUT (R272): A read word whose target has not answered within 1 ms is returned as zero with
  TIMEOUT. -/
  | svpReadTimeout
  /-- WR (R266): A Service Port write frame is held until SVP_CS_N rises, and is then accepted for commit.
  Its bytes are those of header word 0, and of words 1 and 2 with the data words (R263, R264). -/
  | svpWr (header : List Byte) (words : List Byte)
  /-- SVP_WRITE_WORD_COMMIT (R266): An accepted write word enters the register fabric or the Backbone in order, and
  a failure is recorded in WR_FAIL. -/
  | svpWriteWordCommit
  /-- STATUS (R278): A STATUS frame returns the status word, and clears the sticky fields afterwards when CLR is
  set. -/
  | svpStatus (header : List Byte)
  /-- TAKE (R280): The Service Port Take command moves the token to the Service Port and returns the owner and
  MOVE_COUNT. Header word 0 of a TAKE frame carries nothing but the opcode (R263). -/
  | svpTake
  /-- SVP_FRAME_REJECTED (R273): A frame with a bad length, opcode or count, or that arrives while the write queue
  is busy, is rejected whole; FRAME_ERR and ERR_CODE are set. Its bytes are those of header word 0 and
  what was sent behind them. -/
  | svpFrameRejected (header : List Byte) (words : List Byte) (byteCount : Nat)
  /-- BFP_ENABLE (R285): BFP_CTRL.EN going to 1 releases the Boot Flash Port and runs the start sequence on each
  populated select. -/
  | bfpEnable (p : Partner) (v : Word)
  /-- BFP_CMD (R288): A write with GO issues one flash command, or sets ERR for an odd 8D length, or sets REFUSED
  while busy. -/
  | bfpCmd (p : Partner) (v : Word)
  /-- BFP_COMMAND_COMPLETE (R288): A flash command ends, and BUSY clears. -/
  | bfpCommandComplete (data : List Byte)
  /-- BFP_READ_STROBE_TIMEOUT (R287): No BFP_DS edge arrives within 64 clock cycles after the dummy cycles, so the
  read ends and ERR sets. -/
  | bfpReadStrobeTimeout
  /-- CFG_GO (R335): A write of GO starts a load from SRC, or sets REFUSED while BUSY is 1. -/
  | cfgGo (p : Partner) (v : Word)
  /-- CFG_FIFO_WRITE (R339): A word written to CFG_FIFO appends to the running FIFO load, or fails with BUS_ERR when
  no FIFO load runs or the image is complete. -/
  | cfgFifoWrite (p : Partner) (v : Word)
  /-- CONFIG_BLOCK_CHECK (R302): A received 64 KiB block has its CRC-32 checked before any of its bytes is used. -/
  | configBlockCheck (flash : List Byte)
  /-- CONFIG_FRAME_WRITE (R320): The engine decodes Zenum-LZ tokens and writes each logic frame of a region in
  ascending order, and placed block RAM frames. -/
  | configFrameWrite
  /-- CONFIG_DIGEST_CHECK (R323): After the last frame the SHA-256 digest is checked, and the named regions start,
  or are held under HOLD, with DONE and event 249. -/
  | configDigestCheck
  /-- CONFIG_LOAD_ERROR (R343): A load stops at its first error, sets ERR and ERR_CODE, records the offset and
  raises event source 251. -/
  | configLoadError
  /-- CFG_ABORT (R341): A write of ABORT stops the load at the next frame boundary with error ABORTED. -/
  | cfgAbort (p : Partner) (v : Word)
  /-- CFG_RELEASE (R329): A write of RELEASE starts the regions of a load held under HOLD. -/
  | cfgRelease (p : Partner) (v : Word)
  /-- CONFIG_RELOAD_START (R342): A waiting region reload starts from CFG_RELOADn once the engine is free. -/
  | configReloadStart
  /-- CONFIG_LOCKUP (R347): The engine holds input but has made no progress for 50 ms, so a Warm reset with cause
  CFG_LOCKUP follows. -/
  | configLockup
  /-- READBACK_VERIFY_PASS (R349): Every INTERVAL_S seconds each Running region is read back and compared with its
  reference SHA-256. -/
  | readbackVerifyPass
  /-- UNLOAD (R372): UNLOAD takes a Running region through Isolating to Unloaded, or clears a held start. -/
  | unload (p : Partner) (n : Fin 24) (v : Word)
  /-- START (R372): START takes an Unloaded region with valid frames through Initializing to Running, is held during
  Isolating, or is REFUSED. -/
  | start (p : Partner) (n : Fin 24) (v : Word)
  /-- RESTART (R372): RESTART takes a Running region through Isolating and then Initializing when its frames are
  valid. -/
  | restart (p : Partner) (n : Fin 24) (v : Word)
  /-- BRAM_WRITE (R397): A block RAM port write is performed, losing to port A on a collision and merging as a read-
  modify-write when partial in ECC mode. -/
  | bramWrite (portB : Bool) (tile : Fin 3072) (width : Fin 7) (word : Nat) (data : BitVec 72) (be : BitVec 8)
  /-- BRAM_READ (R400): A block RAM read returns the old data on a collision, corrects single-bit errors and pulses
  ECC_CORR or ECC_UNCORR. -/
  | bramRead (portB : Bool) (tile : Fin 3072) (width : Fin 7) (word : Nat)
  /-- PLL_LOCK (R415): A fabric PLL locks within 100 µs of a stable reference, and its outputs start. -/
  | pllLock (n : Fin 16)
  /-- PLL_LOSS_OF_LOCK (R416): A locked PLL loses lock, holds its outputs low, sets LOL and raises event source 254.
  -/
  | pllLossOfLock (n : Fin 16)
  /-- RELOCK (R442): A write of RELOCK makes the PLL drop lock and lock again. -/
  | relock (p : Partner) (n : Fin 16) (v : Word)
  /-- URT_TX (R422): A write appends a character to the transmit FIFO, or is discarded with TX_OVF when the FIFO is
  full. -/
  | urtTx (n : Fin 4) (ch : Byte)
  /-- URT_RX (R422): A read removes and returns the next received character with its status, or returns VALID 0 when
  the FIFO is empty. -/
  | urtRx (n : Fin 4)
  /-- TX_FLUSH (R422): A write of 1 empties the UART transmit FIFO. -/
  | txFlush (n : Fin 4)
  /-- RX_FLUSH (R422): A write of 1 empties the UART receive FIFO. -/
  | rxFlush (n : Fin 4)
  /-- UART_CHAR_RECEIVED (R422): A received character enters the receive FIFO with its error flags, or sets RX_OVF
  when the FIFO is full. -/
  | uartCharReceived (n : Fin 4) (ch : Byte) (brk frameErr parityErr : Bool)
  /-- UART_CHAR_SENT (R422): The UART finishes shifting out a character and takes the next one from the transmit
  FIFO. -/
  | uartCharSent (n : Fin 4)
  /-- RX_IDLE (R422): No character has arrived for four character times while the receive FIFO is not empty, so
  RX_IDLE sets. -/
  | rxIdle (n : Fin 4)
  /-- EVT_LINE_RISE (R425): A rising edge on EVT[n] raises event source n. -/
  | evtLineRise (n : Fin 64)
  /-- FIRQ_ACK (R427): A pulse on FIRQ_ACK moves the named source from Pending to In service. -/
  | firqAck (m : Fin 16)
  /-- FIRQ_END (R427): A pulse on FIRQ_END moves the named source from In service to Idle when it is routed to that
  port. -/
  | firqEnd (m : Fin 16) (src : Byte)
  /-- FABRIC_SLAVE_ACCESS (R431): An access reaches fabric slave port p, or ends with UNMAPPED while the region is
  not Running. -/
  | fabricSlaveAccess (port : Fin 32) (data : List Byte)
  /-- FABRIC_SLAVE_TIMEOUT (R432): Fabric logic has not answered within 10 µs, so the access ends with BUS_ERR and
  TIMEOUT rises. -/
  | fabricSlaveTimeout (port : Fin 32)
  /-- LANE_ENABLE (R453): EN going to 1 starts a lane in Powering, or is refused under R454, or is held as pending
  during Stopping. -/
  | laneEnable (p : Partner) (n : Fin 64) (v : Word)
  /-- LANE_CALIBRATE_START (R453): 50 µs after the enable, the lane enters Calibrating. -/
  | laneCalibrateStart (n : Fin 64)
  /-- LANE_RUNNING (R453): The lane reaches Running within 1.55 ms and raises the lane event. -/
  | laneRunning (n : Fin 64)
  /-- LANE_DISABLE (R456): EN going to 0 stops the lane through Stopping, or abandons its power-up. -/
  | laneDisable (p : Partner) (n : Fin 64) (v : Word)
  /-- LANE_OFF (R456): The lane reaches Off within 20 µs, raises the lane event and applies any held enable. -/
  | laneOff (n : Fin 64)
  /-- LANE_CONFIG_WRITE (R458): A write to XCVn_CFG or XCVn_RATE while the lane is not Off has no effect and sets
  IGNORED. -/
  | laneConfigWrite (p : Partner) (n : Fin 64) (rate : Bool) (v : Word)
  /-- TX_SRC_CHANGE (R459): A change of TX_SRC while the lane is Running takes effect at the next fabric word
  boundary. -/
  | txSrcChange (p : Partner) (n : Fin 64) (v : Word)
  /-- CDR_LOCK (R455): The receiver reaches CDR lock within 1 ms of Running or of the signal's arrival. -/
  | cdrLock (n : Fin 64)
  /-- PCS_LOCK (R460): The PCS gains code-group, block or FEC lock under its lock rule. -/
  | pcsLock (n : Fin 64) (fec : Bool)
  /-- LANE_LOSS_OF_LOCK (R464): A lane loses CDR, PCS or FEC lock; LOL sets, the lane event is raised and the
  streams are marked. -/
  | laneLossOfLock (n : Fin 64) (which : Fin 3)
  /-- DESKEW_ALIGNED (R468): All members are locked and the markers agree, so the group sets ALIGNED. -/
  | deskewAligned (g : Fin 16)
  /-- FEC_UNCORRECTABLE (R463): An uncorrectable codeword sets the sync headers of its blocks to 0b11 and is counted
  in XCVn_FEC_UNCORR. -/
  | fecUncorrectable (n : Fin 64)
  /-- DESKEW_MASK_WRITE (R465): A MASK write sets the group members, or is refused with REFUSED when it breaks a
  rule or a lane is not Off. -/
  | deskewMaskWrite (p : Partner) (g : Fin 16) (v : Word)
  /-- PRBS_CHECKER_LOCK (R476): The checker locks after 128 consecutive matching bits. -/
  | prbsCheckerLock (n : Fin 64)
  /-- PRBS_CHECKER_LOSS (R476): 32 or more errors in a window of 1,024 bits unlock the checker and count in LOSSES.
  -/
  | prbsCheckerLoss (n : Fin 64)
  /-- CLR (R477): A write of CLR zeroes BITS and ERR at once. -/
  | prbsClr (p : Partner) (n : Fin 64) (v : Word)
  /-- PRBS_BITS_READ (R477): A read of BITS_LO latches BITS_HI and ERR from the same instant. -/
  | prbsBitsRead (p : Partner) (n : Fin 64)
  /-- EYE_SCAN_GO (R478): A write of GO starts an eye scan at the given offsets. -/
  | eyeScanGo (p : Partner) (n : Fin 64) (v : Word)
  /-- EYE_DONE (R478): The scan stops after 2^(16 + PRESCALE) comparisons and sets EYE_DONE. -/
  | eyeDone (n : Fin 64)
  /-- LANTERN_ENABLE (R538): EN going to 1 in Idle resets SEQ, TSC and the sequencer, writes a START record and
  enters Armed, or is refused under R539. -/
  | lanternEnable (p : Partner) (n : Fin 16) (v : Word)
  /-- LANTERN_DISABLE (R540): EN going to 0 truncates the frames in progress, closes loss episodes, writes STOP and
  PAD, and enters Stopping. -/
  | lanternDisable (p : Partner) (n : Fin 16) (v : Word)
  /-- LANTERN_STOP_COMPLETE (R540): Once everything has been committed and the PARTIAL index entry written, the
  Lantern enters Idle and raises its state event. -/
  | lanternStopComplete (n : Fin 16)
  /-- TAP_UNIT (R485): A tap delivers stream units, which drive framing, match units, counters, record building and
  the FIFO. -/
  | tapUnit (n : Fin 16) (tap : Fin 4) (bytes : List Byte) (bad : Bool)
  /-- SEQUENCER_TRANSITION (R492): Each core cycle the sequencer takes transition A or B, setting NEXT, clearing
  counters and applying CAPTURE, TRIG and EVT. -/
  | sequencerTransition (n : Fin 16)
  /-- LANTERN_FLUSH_TIMEOUT (R508): Closed records have waited FLUSH_US, so a PAD record is appended and they are
  written out. -/
  | lanternFlushTimeout (n : Fin 16)
  /-- LANTERN_BURST_ISSUE (R507): Closed records move from the FIFO to the ring in bursts of whole lines. -/
  | lanternBurstIssue (n : Fin 16)
  /-- LANTERN_BURST_COMMIT (R523): A committed ring burst advances WR_PTR, and a crossed 1 MiB boundary writes an
  index entry. -/
  | lanternBurstCommit (n : Fin 16)
  /-- LANTERN_INDEX_COMMIT (R530): Once an index entry and its records have been committed, the Lantern raises its
  chunk event. -/
  | lanternIndexCommit (n : Fin 16)
  /-- LANTERN_BURST_ERROR (R535): A ring burst gets an error response, WR_ERR sets and a WRITE_ERR episode is
  recorded; the fourth failure in a row stops the Lantern. -/
  | lanternBurstError (n : Fin 16)
  /-- LANTERN_RD_PTR_WRITE (R527): A write of RD_PTR frees ring space and ends a RING_FULL episode. -/
  | lanternRdPtrWrite (p : Partner) (n : Fin 16) (high : Bool) (v : Word)
  /-- PTR_RESET (R542): In Idle, a write of PTR_RESET sets WR_PTR, RD_PTR, WRAPS and IDX_PTR to 0. -/
  | ptrReset (p : Partner) (n : Fin 16) (v : Word)
  /-- LANTERN_BYTES_READ (R546): A read of LNTn_TAPt_BYTES_LO latches the high half. -/
  | lanternBytesRead (p : Partner) (n : Fin 16) (tap : Fin 4)
  /-- BEACON_ENABLE (R556): EN going to 1 in Idle enters Loading to copy and check the program, or is refused under
  R564. -/
  | beaconEnable (p : Partner) (n : Fin 16) (v : Word)
  /-- BEACON_READY (R556): The start segment is prefetched, so the Beacon enters Ready and applies any held start.
  -/
  | beaconReady (n : Fin 16)
  /-- BEACON_CMD_START (R557): CMD.START moves a Ready Beacon to Playing at START_SEG, or is held during Loading. -/
  | beaconCmdStart (p : Partner) (n : Fin 16)
  /-- BEACON_CMD_STOP (R561): CMD.STOP ends Playing at the next unit boundary, as at a program end. -/
  | beaconCmdStop (p : Partner) (n : Fin 16)
  /-- BEACON_DISABLE (R562): EN going to 0 enters Stopping, ending the program at the next unit boundary. -/
  | beaconDisable (p : Partner) (n : Fin 16) (v : Word)
  /-- BEACON_IDLE (R562): The Beacon is Idle within 2 µs and applies any held enable. -/
  | beaconIdle (n : Fin 16)
  /-- BEACON_PASS_END (R558): A pass ends; the loop count advances, the segment moves to NEXT, or the program ends.
  -/
  | beaconPassEnd (n : Fin 16)
  /-- BEACON_JUMP (R568): A set jump line is consumed at the qualifying unit boundary or pass end, and the segment
  goes to JUMP_TO. -/
  | beaconJump (n : Fin 16)
  /-- BCNN_JUMP (R567): A write of 1 to a bit of BCNn_JUMP sets that jump line. -/
  | bcnnJump (p : Partner) (n : Fin 16) (v : Word)
  /-- BCNN_JUMP_CLR (R567): A write to BCNn_JUMP_CLR clears the named jump lines. -/
  | bcnnJumpClr (p : Partner) (n : Fin 16) (v : Word)
  /-- BCN_JMP_EDGE (R567): A rising edge on BCN_JMP[n][k] sets jump line k. -/
  | bcnJmpEdge (n : Fin 16) (k : Fin 8)
  /-- BEACON_STREAM_BURST (R570): A streaming Beacon reserves buffer space and issues a 256-byte read burst with its
  deadline. -/
  | beaconStreamBurst (n : Fin 16)
  /-- BEACON_UNDERRUN (R573): A due unit has no data, so fill is sent, the unit is counted, UNDERRUN sets and event
  129 + 2n is raised. -/
  | beaconUnderrun (n : Fin 16)
  /-- BEACON_READ_ERROR (R574): A stream burst error response is treated as an underrun and sets RD_ERR; the fourth
  failure in a row stops the program. -/
  | beaconReadError (n : Fin 16)
  /-- BEACON_UNITS_READ (R611): A read of BCNn_UNITS_LO latches the high half. -/
  | beaconUnitsRead (p : Partner) (n : Fin 16)
  /-- SCH_ENTRY_COMMIT (R578): A write of word 2 commits the staged entry with RESULT PENDING, or commits it invalid
  with BAD_ENTRY. -/
  | schEntryCommit (p : Partner) (entry : Fin 2048) (v : Word)
  /-- LNT_START (R580): A due entry acts as a write of EN = 1 to each Lantern in its mask. -/
  | lntStart (entry : Fin 2048)
  /-- LNT_STOP (R580): A due entry acts as a write of EN = 0 to each Lantern in its mask. -/
  | lntStop (entry : Fin 2048)
  /-- BCN_START (R580): A due entry starts each Beacon in its mask, applying its late policy to a Beacon in Loading.
  -/
  | bcnStart (entry : Fin 2048)
  /-- BCN_STOP (R580): A due entry stops each Beacon in its mask. -/
  | bcnStop (entry : Fin 2048)
  /-- EVENT (R580): A due entry raises event source 160 + index and/or sets a Beacon jump line. -/
  | schEvent (entry : Fin 2048)
  /-- PIN (R582): A due entry sets, clears, toggles or pulses SCH_OUT[pin] at its exact time, cancelling any pending
  pulse end. -/
  | schPin (entry : Fin 2048)
  /-- SCH_PULSE_END (R582): ARG2 ns after a PULSE, the pin returns to its earlier level. -/
  | schPulseEnd (pin : Fin 16)
  /-- RELOAD (R586): A due entry requests a reload of its region from CFG_RELOADn. -/
  | schReload (entry : Fin 2048)
  /-- SNAP (R580): A due entry takes an extra snapshot of each group in its mask. -/
  | schSnap (entry : Fin 2048)
  /-- SCH_SWAP_ARM (R591): A write of ARM schedules a table swap at SWAP_AT, or at the next nanosecond with
  SWAP_LATE. -/
  | schSwapArm (p : Partner) (v : Word)
  /-- SCH_TABLE_SWAP (R591): The active table changes at SWAP_AT; ARM clears, ACTIVE toggles and event 169 is
  raised. -/
  | schTableSwap
  /-- SCH_SWAP_CANCEL (R596): A CANCEL before the swap clears ARM, and no swap happens. -/
  | schSwapCancel (p : Partner) (v : Word)
  /-- STATS_GROUP_ENABLE (R610): EN written 1 starts a statistics group, or sets BAD_ENTRY for a short interval or
  empty masks. -/
  | statsGroupEnable (p : Partner) (g : Fin 16) (v : Word)
  /-- STATS_SAMPLE (R597): An interval ends; the group samples its counters and starts a snapshot write, or counts
  MISSED while the previous one is still being written. -/
  | statsSample (g : Fin 16)
  /-- SNAPSHOT_COMMIT (R602): A snapshot record has been committed to its slot, and event 170 is raised. -/
  | snapshotCommit (g : Fin 16)
  /-- SNAPSHOT_WRITE_ERROR (R603): A snapshot write gets an error response; WR_ERR sets and event 171 is raised. -/
  | snapshotWriteError (g : Fin 16)
  /-- NOP (R635): The instruction does nothing. -/
  | taperNop (n : Fin 8)
  /-- HALT (R635): The core halts with cause HALT. -/
  | taperHalt (n : Fin 8)
  /-- BKPT (R635): The core halts with cause BKPT. -/
  | taperBkpt (n : Fin 8)
  /-- J (R635): When the condition holds, pc is set to TARGET. -/
  | taperJ (n : Fin 8)
  /-- CALL (R635): When the condition holds, pc + 1 is pushed and pc is set to TARGET, halting on a ninth push. -/
  | taperCall (n : Fin 8)
  /-- RET (R635): When the condition holds, pc is popped, halting on an empty stack. -/
  | taperRet (n : Fin 8)
  /-- JR (R635): pc is set to bits 13:0 of pk. -/
  | taperJr (n : Fin 8)
  /-- LOOP (R636): A loop entry with an immediate count is pushed, halting on a fifth push. -/
  | taperLoop (n : Fin 8)
  /-- LOOPR (R636): A loop entry is pushed with its count taken from a register. -/
  | taperLoopr (n : Fin 8)
  /-- LEAVE (R635): The innermost loop is popped, and execution continues after its end. -/
  | taperLeave (n : Fin 8)
  /-- WAITEV (R647): The core takes the lowest Pending routed source or the doorbell, or returns 0xFFFF, or waits.
  -/
  | taperWaitev (n : Fin 8)
  /-- EVEND (R648): The named In-service source routed to this core returns to Idle. -/
  | taperEvend (n : Fin 8)
  /-- SIGNAL (R635): TPRn_SIGNAL takes CODE, and source 176 + 2n is raised. -/
  | taperSignal (n : Fin 8)
  /-- WDOG (R653): The core watchdog restarts from zero. -/
  | taperWdog (n : Fin 8)
  /-- MODE (R635): The mode bits of sr[15:8] are updated under MASK. -/
  | taperMode (n : Fin 8)
  /-- DMA (R649): Channel CH reads its descriptor from Y RAM and starts, stalling while the channel is busy. -/
  | taperDma (n : Fin 8)
  /-- DMAW (R635): The core waits until channel CH is idle. -/
  | taperDmaw (n : Fin 8)
  /-- MOVI (R635): A register is loaded with an immediate. -/
  | taperMovi (n : Fin 8)
  /-- MOV (R635): One register is copied to another. -/
  | taperMov (n : Fin 8)
  /-- LD (R635): A register is loaded from X or Y RAM through a pointer with an address update. -/
  | taperLd (n : Fin 8)
  /-- ST (R635): A register is stored to X or Y RAM through a pointer. -/
  | taperSt (n : Fin 8)
  /-- LDI (R635): A register is loaded from an absolute X or Y address. -/
  | taperLdi (n : Fin 8)
  /-- STI (R635): A register is stored to an absolute X or Y address. -/
  | taperSti (n : Fin 8)
  /-- LDP (R635): A register pair is loaded from a P RAM word. -/
  | taperLdp (n : Fin 8)
  /-- STP (R643): A register pair is stored to P RAM in stage E, updating any cached copy. -/
  | taperStp (n : Fin 8)
  /-- LEA (R635): pk is updated by MODE without an access. -/
  | taperLea (n : Fin 8)
  /-- EXT (R619): A 16-bit field of an accumulator is extracted, clipped when CLIPX is 1. -/
  | taperExt (n : Fin 8)
  /-- PACK (R618): An accumulator is set to ds1:ds2, sign-extended. -/
  | taperPack (n : Fin 8)
  /-- GETG (R618): The guard bits of an accumulator are read, sign-extended. -/
  | taperGetg (n : Fin 8)
  /-- PUTG (R618): The guard bits of an accumulator are replaced. -/
  | taperPutg (n : Fin 8)
  /-- PAR (R633): Parallel X, Y and P loads are performed with no arithmetic. -/
  | taperPar (n : Fin 8)
  /-- MUL (R635): The accumulator takes the product, with parallel loads. -/
  | taperMul (n : Fin 8)
  /-- MAC (R635): The product is added to the accumulator, with parallel loads. -/
  | taperMac (n : Fin 8)
  /-- MSB (R635): The product is subtracted from the accumulator, with parallel loads. -/
  | taperMsb (n : Fin 8)
  /-- MACRN (R628): Multiply-accumulate, then round. -/
  | taperMacrn (n : Fin 8)
  /-- MACMX (R626): Multiply-accumulate with S1 signed and S2 unsigned. -/
  | taperMacmx (n : Fin 8)
  /-- ADDH (R635): S1 × 2^16 is added to the accumulator. -/
  | taperAddh (n : Fin 8)
  /-- SUBH (R635): S1 × 2^16 is subtracted from the accumulator. -/
  | taperSubh (n : Fin 8)
  /-- ADDA (R635): aS is added to aD. -/
  | taperAdda (n : Fin 8)
  /-- SUBA (R635): aS is subtracted from aD. -/
  | taperSuba (n : Fin 8)
  /-- ZERO (R635): The accumulator is cleared. -/
  | taperZero (n : Fin 8)
  /-- NEG (R635): The accumulator is negated. -/
  | taperNeg (n : Fin 8)
  /-- ABS (R635): The accumulator takes its absolute value. -/
  | taperAbs (n : Fin 8)
  /-- ROUND (R628): The accumulator is rounded at bit 16. -/
  | taperRound (n : Fin 8)
  /-- CLIP (R635): The accumulator is limited to the 32-bit range, setting CLIPPED. -/
  | taperClip (n : Fin 8)
  /-- SHA (R635): The accumulator is shifted arithmetically by an immediate. -/
  | taperSha (n : Fin 8)
  /-- SHAV (R635): The accumulator is shifted by a register amount. -/
  | taperShav (n : Fin 8)
  /-- NORM (R635): A d register takes the count of redundant sign bits. -/
  | taperNorm (n : Fin 8)
  /-- CMPA (R629): The flags are set from aD − aS. -/
  | taperCmpa (n : Fin 8)
  /-- MOVA (R635): One accumulator is copied to the other. -/
  | taperMova (n : Fin 8)
  /-- ADD (R635): Two d registers are added. -/
  | taperAdd (n : Fin 8)
  /-- SUB (R635): Two d registers are subtracted. -/
  | taperSub (n : Fin 8)
  /-- AND (R635): Bitwise AND of two d registers. -/
  | taperAnd (n : Fin 8)
  /-- OR (R635): Bitwise OR of two d registers. -/
  | taperOr (n : Fin 8)
  /-- XOR (R635): Bitwise XOR of two d registers. -/
  | taperXor (n : Fin 8)
  /-- SHL (R635): Logical shift left by N. -/
  | taperShl (n : Fin 8)
  /-- SHR (R635): Logical shift right by N. -/
  | taperShr (n : Fin 8)
  /-- SHRA (R635): Arithmetic shift right by N. -/
  | taperShra (n : Fin 8)
  /-- ADDI (R635): An immediate is added to a d register. -/
  | taperAddi (n : Fin 8)
  /-- CMP (R635): The flags are set from dDS1 − dDS2. -/
  | taperCmp (n : Fin 8)
  /-- BREV (R635): The low N + 1 bits of a d register are reversed. -/
  | taperBrev (n : Fin 8)
  /-- POPC (R635): The 1 bits of a d register are counted. -/
  | taperPopc (n : Fin 8)
  /-- ILLEGAL_INSTRUCTION (R630): Decoding an illegal instruction halts the core with cause ILLEGAL. -/
  | taperIllegal (n : Fin 8)
  /-- TAPER_RUN (R646): RUN starts a Halted core at TPRn_PC and restarts its watchdog. -/
  | taperRun (p : Partner) (n : Fin 8) (v : Word)
  /-- TAPER_HOST_HALT (R646): HALT stops the core at the next instruction boundary, abandoning a DMAW or WAITEV. -/
  | taperHostHalt (p : Partner) (n : Fin 8) (v : Word)
  /-- TAPER_STEP (R646): STEP executes one instruction of a Halted core and halts with cause STEP. -/
  | taperStep (p : Partner) (n : Fin 8) (v : Word)
  /-- TAPER_DOORBELL (R647): A write of 1 sets the mailbox doorbell, which a WAITEV later takes. -/
  | taperDoorbell (p : Partner) (n : Fin 8) (v : Word)
  /-- TAPER_STATE_WRITE (R664): A write to TPRn_PC, TPRn_REGr or TPRn_ACCk while the core is not Halted is ignored
  and sets IGNORED. -/
  | taperStateWrite (p : Partner) (n : Fin 8) (which : Fin 45) (v : Word)
  /-- TAPER_MEMORY_ACCESS (R615): A Backbone or DMA access to P, X or Y RAM is served in a free cycle, stalling the
  core for at most one cycle. -/
  | taperMemoryAccess (n : Fin 8)
  /-- DMA_DESCRIPTOR_COMPLETE (R652): Once every byte of a descriptor has been committed, the channel writes RESULT,
  raises source 177 + 2n and follows the chain. -/
  | dmaDescriptorComplete (n : Fin 8) (c : Fin 2)
  /-- TAPER_WATCHDOG_EXPIRY (R653): The core watchdog reaches LIMIT_US, so LOCKUP is set and the core is reset or
  halted and fenced. -/
  | taperWatchdogExpiry (n : Fin 8)
  /-- BACKBONE_REQUEST (R693): A request enters the Backbone with its class, deadline and panic, and is checked for
  ownership and against the access rules. -/
  | backboneRequest (m : Fin 128) (write : Bool) (addr : LocalAddr) (len : Nat) (data : List Byte) (be : List Bool)
  (deadline : Option TT64) (panic : Bool)
  /-- ARBITRATION_DECISION (R680): In the cycle before the last beat, the point chooses the next owner under class
  or deadline mode. -/
  | arbitrationDecision (k : Fin 21)
  /-- GRANT_REVOCATION (R682): At a beat boundary a panic or urgent challenger revokes the grant, and the displaced
  burst returns to pending with its count raised. -/
  | grantRevocation (k : Fin 21)
  /-- WRITE_COMMIT (R668): A whole write burst enters the target's write queue and is committed. -/
  | writeCommit (k : Fin 21)
  /-- ARBITRATION_WINDOW_EXPIRY (R675): WIN_NS has passed since the window began, so a new window starts and the
  quota masks clear. -/
  | arbitrationWindowExpiry (k : Fin 21)
  /-- POINT_CONFIG_WRITE (R681): A write to BB_PTk_CTRL or BB_PTk_QUOTA takes effect at the next decision and starts
  a new window. -/
  | pointConfigWrite (p : Partner) (k : Fin 21) (quota : Bool) (v : Word)
  /-- BACKBONE_LOCKUP (R690): A granted write burst presents no beat for CYCLES cycles, so the master is logged and
  fenced. -/
  | backboneLockup (k : Fin 21)
  /-- BB_RULE_COMMIT (R697): A write of GO copies the staged rules and ENFORCE into the active set and increments
  VERSION. -/
  | bbRuleCommit (p : Partner) (v : Word)
  /-- RULES_DRAINED (R700): The last access checked under an older rule version completes, and DRAINED sets. -/
  | rulesDrained
  /-- LOCK_ACQUIRE (R701): A read of BB_LOCKk acquires a free lock, or reports its holder, returning and then
  clearing ABANDONED. -/
  | lockAcquire (m : Fin 128) (k : Fin 64)
  /-- LOCK_RELEASE (R703): RELEASE by the owner frees the lock; from any other master it sets LOCK_ERR. -/
  | lockRelease (m : Fin 128) (k : Fin 64) (v : Word)
  /-- LOCK_FORCE (R704): FORCE with KEY 0xA5 frees a held lock, sets ABANDONED and raises event 250. -/
  | lockForce (m : Fin 128) (k : Fin 64) (v : Word)
  /-- MC_ENABLE (R724): EN going to 1 initialises Off or Failed subchannels, and exits self-refresh for kept ones,
  or is refused under R726. -/
  | mcEnable (p : Partner) (n : Fin 4) (v : Word)
  /-- MC_TRAINING_COMPLETE (R724): A subchannel finishes initialisation and training and enters Running. -/
  | mcTrainingComplete (sc : Fin 8)
  /-- MC_TRAINING_FAIL (R727): Training fails; the subchannel enters Failed, TRAIN_FAILj sets and event 195 + 4n is
  raised. -/
  | mcTrainingFail (sc : Fin 8)
  /-- MC_SELF_REFRESH_EXIT (R725): A subchannel leaves self-refresh with its kept training, retrains once and is
  Running within 1 ms. -/
  | mcSelfRefreshExit (sc : Fin 8)
  /-- MC_DISABLE (R728): EN going to 0 stops Running subchannels towards self-refresh, and abandons Init. -/
  | mcDisable (p : Partner) (n : Fin 4) (v : Word)
  /-- MC_SELF_REFRESH_ENTRY (R728): A Stopping subchannel has served its queues and enters Self-refresh, applying
  any held enable. -/
  | mcSelfRefreshEntry (sc : Fin 8)
  /-- MC_CONFIG_WRITE (R729): A write to MCn_CFG while a subchannel is not Off or Self-refresh has no effect and
  sets IGNORED. -/
  | mcConfigWrite (p : Partner) (n : Fin 4) (v : Word)
  /-- MC_RETRAIN_DUE (R733): INTERVAL_MS has elapsed, so a retraining is due, deferred while any panic is raised. -/
  | mcRetrainDue (sc : Fin 8)
  /-- MC_RETRAIN_START (R735): A deferred retraining begins at the first cycle with no panic, blocking its
  subchannel for at most 2 µs. -/
  | mcRetrainStart (sc : Fin 8)
  /-- MC_RETRAIN_DEFER_LONG (R736): A retraining has been deferred for 1 s, so DEFER_LONG sets and event 195 + 4n is
  raised. -/
  | mcRetrainDeferLong (sc : Fin 8)
  /-- MC_SCHEDULE_DECISION (R740): A subchannel chooses its next request: a full write queue first, then panic,
  turn, row hits and age. -/
  | mcScheduleDecision (sc : Fin 8)
  /-- RH_WINDOW_EXPIRY (R747): Every WINDOW_MS, every tracker entry is freed. -/
  | rhWindowExpiry (n : Fin 4)
  /-- THROTTLE_EXPIRY (R749): THROTTLE_US has passed since the crossing, and the master's throttle ends. -/
  | throttleExpiry (m : Fin 128)
  /-- MC_REFRESH_DUE (R742): TREFI_NS has passed, so a REFab is due; it is postponed under panic, or forced at
  POSTPONE_MAX. -/
  | mcRefreshDue (sc : Fin 8) (rank : Fin 2)
  /-- MC_POSTPONED_REFRESH (R744): With no panic queued, the postponed refreshes are issued back to back. -/
  | mcPostponedRefresh (sc : Fin 8) (rank : Fin 2)
  /-- MC_REFRESH_RATE_POLL (R718): Every 1 ms the refresh-rate indication is read, and a 2× report halves TREFI_NS.
  -/
  | mcRefreshRatePoll (n : Fin 4) (double : Bool)
  /-- MEMORY_LINE_READ (R753): A line read applies ECC, then Shade's tag check and decryption, returning data or
  BUS_ERR. -/
  | memoryLineRead (sc : Fin 8)
  /-- MEMORY_PARTIAL_WRITE (R755): A partial write reads, checks, merges and writes back the line, or writes poison
  over an uncorrectable line. -/
  | memoryPartialWrite (sc : Fin 8)
  /-- MEMORY_LINE_WRITE (R818): A whole-line write is encrypted, tagged and written with fresh check bits, clearing
  any poison. -/
  | memoryLineWrite (sc : Fin 8)
  /-- MC_PLL_LOSS_OF_LOCK (R928): A memory controller's PLL loses lock, and both its subchannels enter Failed. -/
  | mcPllLossOfLock (n : Fin 4)
  /-- STG_PORT_A_ACCESS (R766): A Backbone access reaches a Staging bank, winning collisions, or gets BANK_DOWN when
  the bank is not On. -/
  | stgPortAAccess (g : Fin 12)
  /-- STG_PORT_B_ACCESS (R764): A near-side access is served in round robin, and gets COLLIDED when port A writes
  the word in the same cycle. -/
  | stgPortBAccess (b : Fin 48)
  /-- STG_BIT_SET (R770): A write to the bit-set alias atomically sets the written 1 bits of each word. -/
  | stgBitSet (g : Fin 12)
  /-- STG_BIT_CLEAR (R770): A write to the bit-clear alias atomically clears the written 1 bits of each word. -/
  | stgBitClear (g : Fin 12)
  /-- STG_BANK_REQ (R778): A write of REQ starts a bank power transition, is held during one, or is refused under
  R779. -/
  | stgBankReq (p : Partner) (b : Fin 48) (v : Word)
  /-- STG_BANK_STATE_REACHED (R781): A bank reaches On, Retention or Off, raises event 231 and applies any held
  request. -/
  | stgBankStateReached (b : Fin 48)
  /-- STG_SCRUB_READ (R790): The scrubber reads the next word of an On bank and writes back a corrected word. -/
  | stgScrubRead
  /-- SHD_KEY_LOAD (R806): A write loads the named slots' valid copies into the staged key set, setting KEY_ERR for
  slots with none. -/
  | shdKeyLoad (p : Partner) (v : Word)
  /-- SHADE_KEY_LOAD_COMPLETE (R806): Every named slot has been loaded, and KEY_BUSY clears. -/
  | shadeKeyLoadComplete
  /-- SHD_COMMIT (R828): A write of GO copies the staged regions and keys into the active set of all engines, or is
  refused with REFUSE_CAUSE. -/
  | shdCommit (p : Partner) (v : Word)
  /-- SHADE_DRAINED (R830): The last line operation under an earlier set completes, and DRAINED sets. -/
  | shadeDrained
  /-- PROGRAM (R848): PSM_CMD PROGRAM programs UNITS erased units from PSM_BUF, or is refused. -/
  | psmProgram (p : Partner) (v : Word)
  /-- PSM_PROGRAM_PULSE_DONE (R849): A program pulse and its verify end; the next unit starts, or a failed verify
  stops the command with VERIFY_FAIL. -/
  | psmProgramPulseDone (ok : Bool)
  /-- ERASE (R850): PSM_CMD ERASE marks the sector as erasing and starts erase slices, or is refused. -/
  | psmErase (p : Partner) (v : Word)
  /-- PSM_ERASE_SLICE_END (R850): A slice's verify ends; the erase completes, continues, suspends, fails as BAD
  after 20 slices, or stops for a deferred reset. -/
  | psmEraseSliceEnd (ok : Bool)
  /-- SUSPEND (R852): SUSPEND during an erase takes effect at the end of the current slice, or is refused. -/
  | psmSuspend (p : Partner) (v : Word)
  /-- RESUME (R852): RESUME continues a suspended erase with a fresh slice, or is refused with NOT_SUSPENDED. -/
  | psmResume (p : Partner) (v : Word)
  /-- PSM_BAD_OP (R987): GO with an undefined OP issues nothing, sets ERR with BAD_OP and raises event 217. -/
  | psmBadOp (p : Partner) (key : Bool) (v : Word)
  /-- KEY_WRITE (R869): PSM_KEY_CMD WRITE erases the target copy and programs the key with the next GEN, then the
  commit unit last. -/
  | keyWrite (p : Partner) (v : Word)
  /-- KEY_ERASE (R871): PSM_KEY_CMD ERASE erases the slot's older copy, then its valid copy. -/
  | keyErase (p : Partner) (v : Word)
  /-- PSM_WINDOW_READ (R843): A read of the store window returns corrected data or BUS_ERR, zeros for the key area,
  and waits for any running pulse. -/
  | psmWindowRead
  /-- PSM_WINDOW_WRITE (R844): A write to the read window ends with BUS_ERR and changes nothing. -/
  | psmWindowWrite (m : Fin 128) (addr : BitVec 23)
  /-- SOURCE_EVENT (R884): A block raises a source: Idle becomes Pending, a Pending source merges, and an In-service
  source loses the event with LOST set. -/
  | sourceEvent (n : Fin 256)
  /-- MODERATION_TIMER_EXPIRY (R892): The moderation timer reaches DELAY_NS, and a host message is released. -/
  | moderationTimerExpiry
  /-- EVC_RAISE (R878): A write with GO raises the named source exactly as its owner would. -/
  | evcRaise (p : Partner) (v : Word)
  /-- EVC_SOURCE_CONFIG_WRITE (R881): A write of EVC_SRCn changes the target after the source next becomes Idle, EN
  = 0 returns a Pending source to Idle, and a Reserved target sets BAD_TARGET. -/
  | evcSourceConfigWrite (p : Partner) (n : Fin 256) (v : Word)
  /-- EVC_END (R888): A 1 written to a bit of EVC_ENDw ends the service of that In-service source. -/
  | evcEnd (p : Partner) (w : Fin 8) (v : Word)
  /-- RAS_INJECT_ARM (R909): A write of ARM arms one injection, or sets INJ_REFUSED for a missing key or a bad
  target. -/
  | rasInjectArm (p : Partner) (v : Word)
  /-- POP (R916): A write of 1 to RAS_LOG_POP removes the oldest log entry. -/
  | rasPop (p : Partner) (v : Word)
  /-- MC_SCRUB_READ (R918): The scrubber reads the next line of a Running subchannel and writes back a corrected
  line. -/
  | mcScrubRead
  /-- BRAM_SCRUB_READ (R920): The block RAM scrubber reads the next ECC word in a free cycle and writes back a
  correction when the word is not written in that cycle. -/
  | bramScrubRead
  /-- PSM_SCAN_READ (R921): The store scan reads the next programmed unit between pulses and counts corrected
  errors. -/
  | psmScanRead
  /-- CRITICAL_PARITY_ERROR (R923): A parity error in critical state causes a Warm reset with cause CRIT_PARITY,
  clearing the address for item 0. -/
  | criticalParityError (item : Fin 8)
  /-- SYSTEM_WATCHDOG_EXPIRY (R925): The system watchdog reaches LIMIT_MS and causes a Warm reset with cause
  WATCHDOG. -/
  | systemWatchdogExpiry
  /-- RAS_WDOG_KICK (R925): A write with KEY 0xA5 and KICK restarts the system watchdog. -/
  | rasWdogKick (p : Partner) (v : Word)
  /-- RAS_WDOG_LIMIT_WRITE (R926): A write to LIMIT_MS sets the limit and restarts the watchdog. -/
  | rasWdogLimitWrite (p : Partner) (v : Word)
  /-- CLOCK_FAILURE (R927): A monitored clock is missing or off by more than 5 % for 2 µs; this causes a Warm reset,
  or sets FAIL_400 or FAIL_100 with event 254. -/
  | clockFailure (c : Fin 4)
  /-- JTAG_DEBUG_REQUEST (R193): A JTAG debug request causes a Warm reset with cause DEBUG. -/
  | jtagDebugRequest
  /-- READ_BURST_COMPLETE (R671): The data of a granted Backbone read burst has all returned on the response channel
  to its master, filling a Beacon stream buffer or a Taper DMA destination. -/
  | readBurstComplete
  /-- MC_RETRAIN_COMPLETE (R734): A periodic retraining ends within 2 µs; the subchannel returns to Running, serves
  its waiting requests and raises event 195 + 4n. -/
  | mcRetrainComplete (sc : Fin 8)
  /-- DRAIN_US_EXPIRY (R365): DRAIN_US has passed since a region entered Isolating, so remaining grants are revoked,
  partial bursts discarded, locks released and the region clamped and stopped. -/
  | drainUsExpiry (n : Fin 24)
  /-- DESKEW_MARKER_DISAGREE (R468): The alignment markers of a deskew group's members disagree while every member
  stays locked, so ALIGNED clears and the post-PCS streams are marked unaligned. -/
  | deskewMarkerDisagree (g : Fin 16)
  /-- CTS_N_CHANGE (R422): CTS_N changes level; with FLOW set, a low level lets a waiting transmitter start its next
  character and CTS follows the ball. -/
  | ctsNChange (n : Fin 4) (high : Bool)
deriving DecidableEq, Repr

end Sys2Proof
end

