-- ==== Sys2Proof/Decode.lean ====
section
/-!
DEFINITION. Sys2Proof/Decode.lean: the command that a word spells by the opcode table's bits. No row of the table gives
bits, because the part takes commands at its ports and not as encoded words, so no word spells a command.
-/

namespace Sys2Proof

/-- No row of the opcode table gives bits. [log 3 DESIGN CHOICE] -/
def decodeTableWord (_nbits _w : Nat) : Option Instr := none

end Sys2Proof
end

