-- ==== Sys2Proof/Config.lean ====
section
/-!
DEFINITION. Sys2Proof/Config.lean: what one part fixes for itself (its revision, its serial number, its latencies), what an
image means beyond the spec's text, and the free values. None of these has a body: a statement holds for every value.
-/

namespace Sys2Proof.Machine

/-- The free values, drawn one after another (log 2). [log 2 DESIGN CHOICE] -/
opaque Config.freeValue : Nat → Nat

/-- The byte at a local address of memory whose contents have been lost so many times, until it is written (R194, R776).
[log 9 DESIGN CHOICE] -/
opaque Config.lostByte : Nat → Nat → Byte

/-- The check bits of a word or line whose contents have been lost so many times, until it is written (R194, R776).
[log 9 DESIGN CHOICE] -/
opaque Config.lostCheck : Nat → Nat → Nat

/-- The silicon revision (R977). -/
opaque Config.revision : Byte

/-- The serial number, low word first (R977). -/
opaque Config.serial : Nat → Word

/-- XCVn_LAT of lane `n` once it runs, before any deskew, by its XCVn_CFG and XCVn_RATE (R474). [log 57 DESIGN CHOICE] -/
opaque Config.laneLatency : Nat → Word → Word → Nat

/-- The receive latency, from the pins to the pre-PCS tap, of lane `n`, by its XCVn_CFG and XCVn_RATE, in 1/64 ns (R18).
[log 57 DESIGN CHOICE] -/
opaque Config.preLatency : Nat → Word → Word → Nat

/-- The delay that deskew gives lane `n` when its group aligns at a nanosecond, in 1/64 ns; its use keeps it within 200 ns (R467,
R469). [log 57 DESIGN CHOICE] -/
opaque Config.deskewDelay : Nat → Nat → Nat

/-! ### What comes in on the probe lanes -/

/-- How many symbols lane `n` receives in a nanosecond (R450). [log 28 DESIGN CHOICE] -/
opaque Config.rxCount : Nat → Nat → Nat

/-- Symbol `i` that lane `n` receives in a nanosecond. [log 57 DESIGN CHOICE] -/
opaque Config.rxSymbol : Nat → Nat → Nat → Nat

/-- Bit `i` of the blocks that lane `n` decodes from its RS-FEC codewords at a nanosecond (R462). [log 57 DESIGN CHOICE] -/
opaque Config.fecBit : Nat → Nat → Nat → Bool

/-- The next bit of a PRBS pattern code that names none, after the bits so far (R475, R481). [log 57 DESIGN CHOICE] -/
opaque Config.noPattern : Nat → BitVec 31 → Bool

/-- The 10 bits sent for a control code group that Clause 36 has not (R461). [log 57 DESIGN CHOICE] -/
opaque Config.noControl : Byte → Nat

/-- The octet and K flag that 10 bits decode to which are no code group of Clause 36 (R460). [log 57 DESIGN CHOICE] -/
opaque Config.noGroup : Nat → Nat

/-- The TMS and TDI of a cycle of TCK that falls in a nanosecond (R239, R954), where one does. [log 125 PRESUMED] -/
opaque Config.tapEdge : Nat → Option (Bool × Bool)

/-- The length of the JTAG instruction register (R239). [log 125 PRESUMED] -/
opaque Config.tapIrLength : Nat

/-- Bit i of what the JTAG instruction register captures, its two lowest bits aside (R239). [log 125 PRESUMED] -/
opaque Config.tapIrCapture : Nat → Bool

/-- An instruction selects the boundary register (R954). [log 125 PRESUMED] -/
opaque Config.tapBoundary : List Bool → Bool

/-- The length of the boundary register (R954). [log 125 PRESUMED] -/
opaque Config.tapBoundaryLength : Nat

/-- Where a trip point of an analog Pilot comparator lies (R90); its use keeps it within the accuracy the spec gives.
[log 122 DESIGN CHOICE] -/
opaque Config.tripError : Nat → Int

/-- The PLL settings that the logic frames carry for fabric PLL `n` (R439, R440): CLK_PLLn_CFG, and CLK_PLLn_DIV times 2^32.
[log 18 DESIGN CHOICE] -/
opaque Config.imagePll : List Host.Cell → Nat → Nat

/-- The logic frames put block RAM tile `t` in ECC mode (R396). [log 18 DESIGN CHOICE] -/
opaque Config.imageTileEcc : List Host.Cell → Nat → Bool

/-- The logic frames enable UART `n` (R422). [log 18 DESIGN CHOICE] -/
opaque Config.imageUart : List Host.Cell → Nat → Bool

/-- The period in nanoseconds of the fabric clock that the logic frames give UART `n` (R422). [log 18 DESIGN CHOICE] -/
opaque Config.imageUartClockNs : List Host.Cell → Nat → Nat

/-- The logic frames enable I2C port `n` (R423). [log 18 DESIGN CHOICE] -/
opaque Config.imageI2c : List Host.Cell → Nat → Bool

/-- The logic frames enable SPI port `n` (R423). [log 18 DESIGN CHOICE] -/
opaque Config.imageSpi : List Host.Cell → Nat → Bool

/-! ### The logic that an image describes (R296, R357, R392, R393, R406) -/

/-- What an input of a region's logic is joined to. Only `fromRegion` and `fromStatic` lead from one region to another, and only
between the static region and another one (R357). -/
inductive Net where
  | const (v : Bool)
  /-- Flip-flop `second` of a cell. -/
  | flop (cell : Nat) (second : Bool)
  /-- A LUT's output: of the whole 6-input LUT, or of one of the two 5-input ones. -/
  | lut (cell : Nat) (second : Bool)
  /-- The output of a cell's carry stage. -/
  | carry (cell : Nat)
  /-- A bit of a Pewter slice's accumulator. -/
  | acc (slice bit : Nat)
  /-- In a region, a signal that enters it from the static region. -/
  | fromStatic (signal : Nat)
  /-- In the static region, a boundary signal of a region. -/
  | fromRegion (region signal : Nat)
  /-- In the static region, a bit of the TT read port. -/
  | ttPort (bit : Nat)
  /-- In the static region, a bit of a lane's fabric receive port. -/
  | laneRx (lane bit : Nat)
  /-- A signal of a hard block or of a ball. -/
  | outside (signal : Nat)
deriving DecidableEq, Repr, Inhabited

/-- A flip-flop as the image sets it: its data, clock enable and set or reset input, whether that input sets, whether it acts
asynchronously, the initial value, and the fabric PLL its clock comes from, if one (R393, R410). -/
structure FlopCfg where
  d : Net
  ce : Net
  sr : Net
  sets : Bool
  async : Bool
  init : Bool
  pll : Option Nat
deriving DecidableEq, Repr, Inhabited

/-- A logic cell as the image sets it: its LUT's contents, whether the LUT is split, its six inputs, its carry input, and its
flip-flops (R392). -/
structure CellCfg where
  lut : BitVec 64
  split : Bool
  ins : List Net
  carryIn : Net
  flop0 : FlopCfg
  flop1 : FlopCfg
deriving DecidableEq, Repr, Inhabited

/-- A Pewter slice as the image sets it: the pre-adder's operands, the second of which may be left out, the multiplier's other
operand, whether the accumulator subtracts or loads, whether it adds to the slice below instead of itself, and which pipeline
registers are used (R406, R407). -/
structure PewterCfg where
  a : List Net
  d : Option (List Net)
  b : List Net
  subtract : Net
  load : Net
  cascade : Bool
  preReg : Bool
  mulReg : Bool
  accReg : Bool
  pll : Option Nat
deriving DecidableEq, Repr, Inhabited

/-- Cell `c` of region `r`, 24 being the static region (R392, R393). [log 18 DESIGN CHOICE] -/
opaque Config.imageCell : List Host.Cell → Nat → Nat → CellCfg

/-- Slice `k` of region `r` (R406). [log 18 DESIGN CHOICE] -/
opaque Config.imagePewter : List Host.Cell → Nat → Nat → PewterCfg

/-- The boundary signals of region `r`: the net each comes from, and its clamp code (R358). [log 18 DESIGN CHOICE] -/
opaque Config.imageBoundary : List Host.Cell → Nat → List (Net × Nat)

/-- Which boundary signal of region `r` is the PANIC input of its fabric master port (R357, R674). [log 18 DESIGN CHOICE] -/
opaque Config.imagePanic : List Host.Cell → Nat → Nat

/-- The net of the static region that enters region `r` as a signal (R360). [log 18 DESIGN CHOICE] -/
opaque Config.imageEnter : List Host.Cell → Nat → Nat → Net

/-- A clock of region `r` has an edge in a nanosecond: of a flip-flop (kind 0, twice the cell, one more for the second), of a
slice (kind 1), of the TT read port (kind 2). [log 18 DESIGN CHOICE] -/
opaque Config.imageEdge : List Host.Cell → Nat → Nat → Nat → Nat → Bool

/-- The nets of the static region that drive a lane's fabric transmit port, bit 0 first (R472). [log 18 DESIGN CHOICE] -/
opaque Config.imageLaneTx : List Host.Cell → Nat → List Net

/-- The level of a signal of a hard block or of a ball at a nanosecond. [log 126 DESIGN CHOICE] -/
opaque Config.outsideNet : Nat → Nat → Bool

/-- What a net carries that waits for itself through logic alone (R392). [log 126 DESIGN CHOICE] -/
opaque Config.loopNet : Net → Bool

/-- A synchronous set or reset waits for the clock enable (R393). [log 126 DESIGN CHOICE] -/
opaque Config.syncWaits : Bool

/-- The multiplier's 24-bit operand for a pre-adder sum that it cannot hold (R406). [log 126 DESIGN CHOICE] -/
opaque Config.preWide : BitVec 25 → BitVec 24

/-- The accumulator for a result that it cannot hold (R406). [log 126 DESIGN CHOICE] -/
opaque Config.accWide : Int → BitVec 56

/-- How far a sample of the TT read port lags TT, in 1/64 ns; its use keeps it within 1 ns (R419). [log 126 DESIGN CHOICE] -/
opaque Config.ttPortLag : Nat → Nat

end Sys2Proof.Machine
end

