-- ==== Sys2Proof/Machine/Sparse.lean ====
section
/-!
DEFINITION. Sys2Proof/Machine/Sparse.lean: maps from addresses to values held as sorted lists (registers and memories),
reads and writes of fixed rows of like things, and the bit-field operations of register words.
-/

namespace Sys2Proof.Machine

/-! ### Sorted lists as maps -/

/-- What address `a` reads as: its listed value, or the default of `a`. -/
def sget {α : Type} (d : Nat → α) : List (Nat × α) → Nat → α
  | [], a => d a
  | (k, v) :: m, a => if k = a then v else sget d m a

/-- Insert a pair before the first larger key. -/
def sinsert {α : Type} (a : Nat) (v : α) : List (Nat × α) → List (Nat × α)
  | [] => [(a, v)]
  | (k, w) :: m => if a < k then (a, v) :: (k, w) :: m else (k, w) :: sinsert a v m

/-- Remove every pair of key `a`. -/
def sremove {α : Type} (a : Nat) : List (Nat × α) → List (Nat × α)
  | [] => []
  | (k, w) :: m => if k = a then sremove a m else (k, w) :: sremove a m

/-- Write `v` at `a`: an entry equal to the default is not listed. -/
def sset {α : Type} [DecidableEq α] (d : Nat → α) (m : List (Nat × α)) (a : Nat) (v : α) : List (Nat × α) :=
  if v = d a then sremove a m else sinsert a v (sremove a m)

/-- The canonical form: keys strictly rising above `lo`, no entry equal to its default. -/
def swfFrom {α : Type} [DecidableEq α] (d : Nat → α) : Nat → List (Nat × α) → Bool
  | _, [] => true
  | lo, (k, v) :: m => decide (lo ≤ k) && !decide (v = d k) && swfFrom d (k + 1) m

/-- The canonical form of a map. -/
def swf {α : Type} [DecidableEq α] (d : Nat → α) (m : List (Nat × α)) : Bool := swfFrom d 0 m

/-! ### Bytes and words in byte memories -/

/-- Bytes of a memory from address `a`, `n` of them. -/
def mget (d : Nat → Byte) (m : List Host.Cell) (a n : Nat) : List Byte :=
  (List.range n).map fun i => sget d m (a + i)

/-- Store bytes from address `a` on. -/
def mput (d : Nat → Byte) (m : List Host.Cell) (a : Nat) : List Byte → List Host.Cell
  | [] => m
  | b :: bs => mput d (sset d m a b) (a + 1) bs

/-- The value of bytes, byte 0 lowest (R8). -/
def leNat : List Byte → Nat
  | [] => 0
  | b :: bs => b.toNat + 256 * leNat bs

/-- The `n` bytes of a value, byte 0 lowest (R8). -/
def leBytes : Nat → Nat → List Byte
  | 0, _ => []
  | n + 1, v => BitVec.ofNat 8 v :: leBytes n (v / 256)

/-- The byte of a list at a position, zero past its end. -/
def byteAt (l : List Byte) (i : Nat) : Byte := l.getD i 0

/-- The value of `n` bytes of a list from position `i`. -/
def leAt (l : List Byte) (i n : Nat) : Nat := leNat ((l.drop i).take n)

/-- A list cut or padded with zeros to `n` bytes. -/
def padTo (n : Nat) (l : List Byte) : List Byte := (l ++ List.replicate n 0).take n

/-- Replace the bytes of `l` from position `i` by `bs`. -/
def splice (l : List Byte) (i : Nat) (bs : List Byte) : List Byte :=
  l.take i ++ bs ++ l.drop (i + bs.length)

/-! ### Fixed rows -/

/-- One of a fixed number of like things. -/
def vget {α : Type} {n : Nat} (v : Vector α n) (i : Fin n) : α := v[i.val]'i.isLt

/-- Replace one of a fixed number of like things. -/
def vset {α : Type} {n : Nat} (v : Vector α n) (i : Fin n) (x : α) : Vector α n := v.set i.val x i.isLt

/-! ### Fields of words -/

/-- A word whose low `n` bits are one. -/
def ones (n : Nat) : Word := BitVec.ofNat 32 (2 ^ n - 1)

/-- Bits hi..lo as a mask in place. -/
def maskOf (hi lo : Nat) : Word := ones (hi + 1 - lo) <<< lo

/-- Read bits hi..lo of a word. -/
def fieldGet (w : Word) (hi lo : Nat) : Word := (w >>> lo) &&& ones (hi + 1 - lo)

/-- Write bits hi..lo of a word. -/
def fieldSet (w : Word) (hi lo : Nat) (v : Word) : Word :=
  (w &&& ~~~ maskOf hi lo) ||| ((v <<< lo) &&& maskOf hi lo)

/-- A flag as a number. -/
def b2n (b : Bool) : Nat := if b then 1 else 0

/-- Bit `i` of a number. -/
def bitOf (n i : Nat) : Bool := n / 2 ^ i % 2 == 1

/-- Bits hi..lo of a number. -/
def bitsOf (n hi lo : Nat) : Nat := n / 2 ^ lo % 2 ^ (hi + 1 - lo)

/-- Add one without passing `top`. -/
def satInc (n top : Nat) : Nat := if n < top then n + 1 else top

/-- The signed value of the low `w` bits of a number. -/
def signedOf (w n : Nat) : Int :=
  let v := n % 2 ^ w
  if v < 2 ^ (w - 1) then (v : Int) else (v : Int) - (2 ^ w : Nat)

/-! ### Register rows -/

/-- The row lists local address `a` as one of its registers. -/
def RegRow.covers (r : RegRow) (a : Nat) : Bool :=
  Nat.ble r.base a &&
    (let d := a - r.base
     let i := if Nat.ble r.s2 r.s1 then d / r.s1 else d % r.s2 / r.s1
     let j := if Nat.ble r.s2 r.s1 then d % r.s1 / r.s2 else d / r.s2
     Nat.blt i r.n1 && Nat.blt j r.n2 && Nat.beq d (i * r.s1 + j * r.s2))

/-- The word of the reset values of a row's fields. -/
def RegRow.resetWord (r : RegRow) : Word :=
  BitVec.ofNat 32 (r.fields.foldl (fun acc f => acc + f.reset * 2 ^ f.lo) 0)

/-- The mask of the fields of a row that satisfy a test. -/
def RegRow.mask (r : RegRow) (p : FieldSpec → Bool) : Word :=
  r.fields.foldl (fun acc f => if p f then acc ||| maskOf f.hi f.lo else acc) 0

end Sys2Proof.Machine
end

