-- ==== Sys2Proof/Machine/RegTable.lean ====
section
/-!
DEFINITION. Sys2Proof/Machine/RegTable.lean: the register tables of the spec as data: every register page (R972),
each register with its offset, its instances, and for each field its bits, its access code (R11), its reset value and
its Restored by scope (R14). Bits that no field lists are Reserved (R12, R978).
-/

namespace Sys2Proof.Machine


/-! ### Registers of the TT page -/

/-- R96. -/
def R.TT_CTRL : Nat := 0xF000000000
def F.TT_CTRL_RELOCK_US : Field := ⟨R.TT_CTRL, 15, 4⟩
def F.TT_CTRL_AUTO_STEP : Field := ⟨R.TT_CTRL, 2, 2⟩
def F.TT_CTRL_SOURCE : Field := ⟨R.TT_CTRL, 1, 0⟩
/-- R97. -/
def R.TT_STATUS : Nat := 0xF000000004
def F.TT_STATUS_HOPS : Field := ⟨R.TT_STATUS, 23, 16⟩
def F.TT_STATUS_REF_BAD : Field := ⟨R.TT_STATUS, 7, 7⟩
def F.TT_STATUS_ADJ_REFUSED : Field := ⟨R.TT_STATUS, 6, 6⟩
def F.TT_STATUS_SYNC_ERR : Field := ⟨R.TT_STATUS, 5, 5⟩
def F.TT_STATUS_ADJ_BUSY : Field := ⟨R.TT_STATUS, 4, 4⟩
def F.TT_STATUS_EPOCH_VALID : Field := ⟨R.TT_STATUS, 3, 3⟩
def F.TT_STATUS_HOLDOVER : Field := ⟨R.TT_STATUS, 2, 2⟩
def F.TT_STATUS_LOCKED : Field := ⟨R.TT_STATUS, 1, 1⟩
def F.TT_STATUS_RUNNING : Field := ⟨R.TT_STATUS, 0, 0⟩
/-- R95. -/
def R.TT_NOW_LO : Nat := 0xF000000008
def F.TT_NOW_LO_TT : Field := ⟨R.TT_NOW_LO, 31, 0⟩
/-- R95. -/
def R.TT_NOW_HI : Nat := 0xF00000000C
def F.TT_NOW_HI_TT : Field := ⟨R.TT_NOW_HI, 31, 0⟩
/-- R95. -/
def R.TT_EPOCH_LO : Nat := 0xF000000010
def F.TT_EPOCH_LO_TT : Field := ⟨R.TT_EPOCH_LO, 31, 0⟩
/-- R95. -/
def R.TT_EPOCH_HI : Nat := 0xF000000014
def F.TT_EPOCH_HI_TT : Field := ⟨R.TT_EPOCH_HI, 31, 0⟩
/-- R95. -/
def R.TT_SYNC_PERIOD : Nat := 0xF000000018
def F.TT_SYNC_PERIOD_NS : Field := ⟨R.TT_SYNC_PERIOD, 31, 0⟩
/-- R95. -/
def R.TT_SYNC_CTRL : Nat := 0xF00000001C
def F.TT_SYNC_CTRL_EPOCH_LOADED : Field := ⟨R.TT_SYNC_CTRL, 1, 1⟩
def F.TT_SYNC_CTRL_ARM : Field := ⟨R.TT_SYNC_CTRL, 0, 0⟩
/-- R95. -/
def R.TT_REF_CTRL : Nat := 0xF000000020
def F.TT_REF_CTRL_REF_DELAY : Field := ⟨R.TT_REF_CTRL, 30, 19⟩
def F.TT_REF_CTRL_REF_KHZ : Field := ⟨R.TT_REF_CTRL, 18, 0⟩
/-- R95. -/
def R.TT_ADJ_AMOUNT : Nat := 0xF000000024
def F.TT_ADJ_AMOUNT_AMOUNT : Field := ⟨R.TT_ADJ_AMOUNT, 31, 0⟩
/-- R95. -/
def R.TT_ADJ_AT_LO : Nat := 0xF000000028
def F.TT_ADJ_AT_LO_TT : Field := ⟨R.TT_ADJ_AT_LO, 31, 0⟩
/-- R95. -/
def R.TT_ADJ_AT_HI : Nat := 0xF00000002C
def F.TT_ADJ_AT_HI_TT : Field := ⟨R.TT_ADJ_AT_HI, 31, 0⟩
/-- R98. -/
def R.TT_ADJ_CTRL : Nat := 0xF000000030
def F.TT_ADJ_CTRL_RATE_PPM : Field := ⟨R.TT_ADJ_CTRL, 15, 8⟩
def F.TT_ADJ_CTRL_CANCEL : Field := ⟨R.TT_ADJ_CTRL, 2, 2⟩
def F.TT_ADJ_CTRL_MODE : Field := ⟨R.TT_ADJ_CTRL, 1, 1⟩
def F.TT_ADJ_CTRL_GO : Field := ⟨R.TT_ADJ_CTRL, 0, 0⟩
/-- R95. -/
def R.TT_HOP_DELAY : Nat := 0xF000000034
def F.TT_HOP_DELAY_DELAY : Field := ⟨R.TT_HOP_DELAY, 31, 0⟩
/-- R95. -/
def R.TT_SYNC_ERROR : Nat := 0xF000000038
def F.TT_SYNC_ERROR_ERROR : Field := ⟨R.TT_SYNC_ERROR, 31, 0⟩
/-- R99. -/
def R.TT_LSC_CTRL : Nat := 0xF000000040
def F.TT_LSC_CTRL_LANE : Field := ⟨R.TT_LSC_CTRL, 13, 8⟩
def F.TT_LSC_CTRL_UNIT : Field := ⟨R.TT_LSC_CTRL, 1, 1⟩
def F.TT_LSC_CTRL_EN : Field := ⟨R.TT_LSC_CTRL, 0, 0⟩
/-- R95. -/
def R.TT_LSC_LO : Nat := 0xF000000044
def F.TT_LSC_LO_LSC : Field := ⟨R.TT_LSC_LO, 31, 0⟩
/-- R95. -/
def R.TT_LSC_HI : Nat := 0xF000000048
def F.TT_LSC_HI_LSC : Field := ⟨R.TT_LSC_HI, 15, 0⟩
/-- R95. -/
def R.TT_LSC_STATUS : Nat := 0xF00000004C
def F.TT_LSC_STATUS_FROZE : Field := ⟨R.TT_LSC_STATUS, 1, 1⟩
def F.TT_LSC_STATUS_FROZEN : Field := ⟨R.TT_LSC_STATUS, 0, 0⟩
/-- R100. -/
def R.PLT_CMP_CTRL (n : Nat) : Nat := 0xF000000800 + 0x4 * n
def F.PLT_CMP_CTRL_FIRED (n : Nat) : Field := ⟨R.PLT_CMP_CTRL n, 16, 16⟩
def F.PLT_CMP_CTRL_THRESHOLD (n : Nat) : Field := ⟨R.PLT_CMP_CTRL n, 15, 8⟩
def F.PLT_CMP_CTRL_EDGE (n : Nat) : Field := ⟨R.PLT_CMP_CTRL n, 3, 2⟩
def F.PLT_CMP_CTRL_WAKE (n : Nat) : Field := ⟨R.PLT_CMP_CTRL n, 1, 1⟩
def F.PLT_CMP_CTRL_EN (n : Nat) : Field := ⟨R.PLT_CMP_CTRL n, 0, 0⟩
/-- R95. -/
def R.PLT_TTM (n : Nat) (k : Nat) : Nat := 0xF000000840 + 0x8 * n + 0x4 * k
def F.PLT_TTM_MATCH (n : Nat) (k : Nat) : Field := ⟨R.PLT_TTM n k, 31, 0⟩
/-- R92. -/
def R.PLT_RET_PART (n : Nat) : Nat := 0xF000000C00 + 0x4 * n
def F.PLT_RET_PART_BYTES (n : Nat) : Field := ⟨R.PLT_RET_PART n, 31, 0⟩
/-- R92. -/
def R.PLT_RET_USER (n : Nat) : Nat := 0xF000000C40 + 0x4 * n
def F.PLT_RET_USER_BYTES (n : Nat) : Field := ⟨R.PLT_RET_USER n, 31, 0⟩
/-! ### Registers of the FIL page -/

/-- R190. -/
def R.FIL_CTRL : Nat := 0xF000010000
def F.FIL_CTRL_RETRAIN_US : Field := ⟨R.FIL_CTRL, 9, 9⟩
def F.FIL_CTRL_RETRAIN_DS : Field := ⟨R.FIL_CTRL, 8, 8⟩
def F.FIL_CTRL_DS_PM : Field := ⟨R.FIL_CTRL, 5, 4⟩
def F.FIL_CTRL_DS_EN : Field := ⟨R.FIL_CTRL, 0, 0⟩
/-- R191. -/
def R.FIL_STATUS : Nat := 0xF000010004
def F.FIL_STATUS_UNIT_ADDR : Field := ⟨R.FIL_STATUS, 23, 16⟩
def F.FIL_STATUS_DS_LINK : Field := ⟨R.FIL_STATUS, 10, 8⟩
def F.FIL_STATUS_US_LINK : Field := ⟨R.FIL_STATUS, 7, 5⟩
def F.FIL_STATUS_HELD_MSG : Field := ⟨R.FIL_STATUS, 4, 4⟩
def F.FIL_STATUS_WAKE_IN : Field := ⟨R.FIL_STATUS, 3, 3⟩
def F.FIL_STATUS_WAKE_OUT : Field := ⟨R.FIL_STATUS, 2, 2⟩
def F.FIL_STATUS_ENUM_WAIT : Field := ⟨R.FIL_STATUS, 1, 1⟩
/-- R192. -/
def R.FIL_US_ERR : Nat := 0xF000010010
def F.FIL_US_ERR_RETRAINS : Field := ⟨R.FIL_US_ERR, 31, 24⟩
def F.FIL_US_ERR_REPLAYS : Field := ⟨R.FIL_US_ERR, 23, 16⟩
def F.FIL_US_ERR_CRC_ERRS : Field := ⟨R.FIL_US_ERR, 15, 0⟩
/-- R192. -/
def R.FIL_DS_ERR : Nat := 0xF000010014
def F.FIL_DS_ERR_RETRAINS : Field := ⟨R.FIL_DS_ERR, 31, 24⟩
def F.FIL_DS_ERR_REPLAYS : Field := ⟨R.FIL_DS_ERR, 23, 16⟩
def F.FIL_DS_ERR_CRC_ERRS : Field := ⟨R.FIL_DS_ERR, 15, 0⟩
/-! ### Registers of the RST page -/

/-- R249. -/
def R.RST_CAUSE : Nat := 0xF000020000
def F.RST_CAUSE_LAST_SCOPE : Field := ⟨R.RST_CAUSE, 4, 4⟩
def F.RST_CAUSE_LAST_CAUSE : Field := ⟨R.RST_CAUSE, 3, 0⟩
/-- R250. -/
def R.RST_CTRL : Nat := 0xF000020004
def F.RST_CTRL_KEY : Field := ⟨R.RST_CTRL, 15, 8⟩
def F.RST_CTRL_WARM : Field := ⟨R.RST_CTRL, 0, 0⟩
/-- R251. -/
def R.RST_ENGINE : Nat := 0xF000020008
def F.RST_ENGINE_GO : Field := ⟨R.RST_ENGINE, 31, 31⟩
def F.RST_ENGINE_BUSY : Field := ⟨R.RST_ENGINE, 30, 30⟩
def F.RST_ENGINE_ENGINE : Field := ⟨R.RST_ENGINE, 5, 0⟩
/-- R252. -/
def R.RST_START_OK : Nat := 0xF00002000C
def F.RST_START_OK_OK : Field := ⟨R.RST_START_OK, 0, 0⟩
/-- R253. -/
def R.RST_FAIL : Nat := 0xF000020010
def F.RST_FAIL_NIGHTLIGHT : Field := ⟨R.RST_FAIL, 8, 8⟩
def F.RST_FAIL_FAIL_LIMIT : Field := ⟨R.RST_FAIL, 6, 4⟩
def F.RST_FAIL_FAIL_COUNT : Field := ⟨R.RST_FAIL, 2, 0⟩
/-- R250. -/
def R.NL_EXIT : Nat := 0xF000020014
def F.NL_EXIT_KEY : Field := ⟨R.NL_EXIT, 15, 8⟩
def F.NL_EXIT_EXIT : Field := ⟨R.NL_EXIT, 0, 0⟩
/-- R254. -/
def R.RST_START_TIMEOUT : Nat := 0xF000020018
def F.RST_START_TIMEOUT_MS : Field := ⟨R.RST_START_TIMEOUT, 31, 0⟩
/-- R255. -/
def R.PWR_CTRL : Nat := 0xF000020020
def F.PWR_CTRL_STG_RET : Field := ⟨R.PWR_CTRL, 4, 4⟩
def F.PWR_CTRL_STATE : Field := ⟨R.PWR_CTRL, 1, 0⟩
/-- R255. -/
def R.PWR_STATUS : Nat := 0xF000020024
def F.PWR_STATUS_BOW : Field := ⟨R.PWR_STATUS, 3, 3⟩
def F.PWR_STATUS_REFUSED : Field := ⟨R.PWR_STATUS, 2, 2⟩
def F.PWR_STATUS_STATE : Field := ⟨R.PWR_STATUS, 1, 0⟩
/-! ### Registers of the SVP page -/

/-- R293. -/
def R.SVP_STATUS : Nat := 0xF000030000
def F.SVP_STATUS_WR_INDEX : Field := ⟨R.SVP_STATUS, 29, 24⟩
def F.SVP_STATUS_WR_STATUS : Field := ⟨R.SVP_STATUS, 23, 16⟩
def F.SVP_STATUS_WR_FAIL : Field := ⟨R.SVP_STATUS, 12, 12⟩
def F.SVP_STATUS_ERR_CODE : Field := ⟨R.SVP_STATUS, 11, 9⟩
def F.SVP_STATUS_FRAME_ERR : Field := ⟨R.SVP_STATUS, 8, 8⟩
def F.SVP_STATUS_WR_PENDING : Field := ⟨R.SVP_STATUS, 6, 6⟩
def F.SVP_STATUS_CFG_DONE : Field := ⟨R.SVP_STATUS, 5, 5⟩
def F.SVP_STATUS_HALTED : Field := ⟨R.SVP_STATUS, 4, 4⟩
def F.SVP_STATUS_NIGHTLIGHT : Field := ⟨R.SVP_STATUS, 3, 3⟩
def F.SVP_STATUS_ADDRESSED : Field := ⟨R.SVP_STATUS, 2, 2⟩
def F.SVP_STATUS_HOLD : Field := ⟨R.SVP_STATUS, 1, 1⟩
def F.SVP_STATUS_OWNER : Field := ⟨R.SVP_STATUS, 0, 0⟩
/-- R294. -/
def R.SVP_FRAMES : Nat := 0xF000030008
def F.SVP_FRAMES_REJECTED : Field := ⟨R.SVP_FRAMES, 31, 16⟩
def F.SVP_FRAMES_ACCEPTED : Field := ⟨R.SVP_FRAMES, 15, 0⟩
/-- R37. -/
def R.OWN_STATUS : Nat := 0xF000030100
def F.OWN_STATUS_MOVE_COUNT : Field := ⟨R.OWN_STATUS, 31, 16⟩
def F.OWN_STATUS_ADDRESSED : Field := ⟨R.OWN_STATUS, 1, 1⟩
def F.OWN_STATUS_OWNER : Field := ⟨R.OWN_STATUS, 0, 0⟩
/-- R38. -/
def R.SVP_HOLD : Nat := 0xF000030104
def F.SVP_HOLD_HOLD : Field := ⟨R.SVP_HOLD, 0, 0⟩
/-- R295. -/
def R.BFP_CTRL : Nat := 0xF000030800
def F.BFP_CTRL_DUMMY : Field := ⟨R.BFP_CTRL, 12, 8⟩
def F.BFP_CTRL_FREQ : Field := ⟨R.BFP_CTRL, 5, 4⟩
def F.BFP_CTRL_EN : Field := ⟨R.BFP_CTRL, 0, 0⟩
/-- R295. -/
def R.BFP_CMD : Nat := 0xF000030804
def F.BFP_CMD_GO : Field := ⟨R.BFP_CMD, 31, 31⟩
def F.BFP_CMD_CS : Field := ⟨R.BFP_CMD, 30, 30⟩
def F.BFP_CMD_PROTO : Field := ⟨R.BFP_CMD, 29, 29⟩
def F.BFP_CMD_ADDR_EN : Field := ⟨R.BFP_CMD, 28, 28⟩
def F.BFP_CMD_DUMMY_EN : Field := ⟨R.BFP_CMD, 27, 27⟩
def F.BFP_CMD_DIR : Field := ⟨R.BFP_CMD, 26, 26⟩
def F.BFP_CMD_LEN : Field := ⟨R.BFP_CMD, 24, 16⟩
def F.BFP_CMD_OPCODE : Field := ⟨R.BFP_CMD, 7, 0⟩
/-- R295. -/
def R.BFP_ADDR : Nat := 0xF000030808
def F.BFP_ADDR_ADDR : Field := ⟨R.BFP_ADDR, 31, 0⟩
/-- R295. -/
def R.BFP_STATUS : Nat := 0xF00003080C
def F.BFP_STATUS_CFG_ACTIVE : Field := ⟨R.BFP_STATUS, 4, 4⟩
def F.BFP_STATUS_REFUSED : Field := ⟨R.BFP_STATUS, 3, 3⟩
def F.BFP_STATUS_ERR : Field := ⟨R.BFP_STATUS, 2, 2⟩
def F.BFP_STATUS_READY : Field := ⟨R.BFP_STATUS, 1, 1⟩
def F.BFP_STATUS_BUSY : Field := ⟨R.BFP_STATUS, 0, 0⟩
/-- R295. -/
def R.BFP_BUF (n : Nat) : Nat := 0xF000030900 + 0x4 * n
def F.BFP_BUF_DATA (n : Nat) : Field := ⟨R.BFP_BUF n, 31, 0⟩
/-! ### Registers of the CFG page -/

/-- R353. -/
def R.CFG_CTRL : Nat := 0xF000040000
def F.CFG_CTRL_GO : Field := ⟨R.CFG_CTRL, 31, 31⟩
def F.CFG_CTRL_ABORT : Field := ⟨R.CFG_CTRL, 30, 30⟩
def F.CFG_CTRL_RELEASE : Field := ⟨R.CFG_CTRL, 29, 29⟩
def F.CFG_CTRL_CS : Field := ⟨R.CFG_CTRL, 4, 4⟩
def F.CFG_CTRL_SRC : Field := ⟨R.CFG_CTRL, 1, 0⟩
/-- R353. -/
def R.CFG_SRC_ADDR : Nat := 0xF000040004
def F.CFG_SRC_ADDR_ADDR : Field := ⟨R.CFG_SRC_ADDR, 31, 0⟩
/-- R353. -/
def R.CFG_STATUS : Nat := 0xF000040008
def F.CFG_STATUS_ERR_CODE : Field := ⟨R.CFG_STATUS, 11, 8⟩
def F.CFG_STATUS_ACTIVE_SRC : Field := ⟨R.CFG_STATUS, 7, 6⟩
def F.CFG_STATUS_HELD : Field := ⟨R.CFG_STATUS, 5, 5⟩
def F.CFG_STATUS_REFUSED : Field := ⟨R.CFG_STATUS, 4, 4⟩
def F.CFG_STATUS_ERR : Field := ⟨R.CFG_STATUS, 3, 3⟩
def F.CFG_STATUS_DONE : Field := ⟨R.CFG_STATUS, 1, 1⟩
def F.CFG_STATUS_BUSY : Field := ⟨R.CFG_STATUS, 0, 0⟩
/-- R353. -/
def R.CFG_ERR_OFFSET : Nat := 0xF00004000C
def F.CFG_ERR_OFFSET_OFFSET : Field := ⟨R.CFG_ERR_OFFSET, 31, 0⟩
/-- R353. -/
def R.CFG_PROGRESS : Nat := 0xF000040010
def F.CFG_PROGRESS_FRAMES : Field := ⟨R.CFG_PROGRESS, 31, 0⟩
/-- R353. -/
def R.CFG_DESIGN_ID (n : Nat) : Nat := 0xF000040018 + 0x4 * n
def F.CFG_DESIGN_ID_ID (n : Nat) : Field := ⟨R.CFG_DESIGN_ID n, 31, 0⟩
/-- R353. -/
def R.CFG_VERIFY : Nat := 0xF000040020
def F.CFG_VERIFY_INTERVAL_S : Field := ⟨R.CFG_VERIFY, 15, 8⟩
def F.CFG_VERIFY_ACTION : Field := ⟨R.CFG_VERIFY, 1, 1⟩
def F.CFG_VERIFY_EN : Field := ⟨R.CFG_VERIFY, 0, 0⟩
/-- R353. -/
def R.CFG_VERIFY_STATUS : Nat := 0xF000040024
def F.CFG_VERIFY_STATUS_STATIC : Field := ⟨R.CFG_VERIFY_STATUS, 24, 24⟩
def F.CFG_VERIFY_STATUS_REGION : Field := ⟨R.CFG_VERIFY_STATUS, 23, 0⟩
/-- R353. -/
def R.CFG_RELOAD (n : Nat) : Nat := 0xF000040100 + 0x4 * n
def F.CFG_RELOAD_SRC (n : Nat) : Field := ⟨R.CFG_RELOAD n, 31, 31⟩
def F.CFG_RELOAD_CS (n : Nat) : Field := ⟨R.CFG_RELOAD n, 30, 30⟩
def F.CFG_RELOAD_ADDR16 (n : Nat) : Field := ⟨R.CFG_RELOAD n, 27, 0⟩
/-- R353. -/
def R.CFG_FIFO (n : Nat) : Nat := 0xF000041000 + 0x4 * n
def F.CFG_FIFO_DATA (n : Nat) : Field := ⟨R.CFG_FIFO n, 31, 0⟩
/-! ### Registers of the RGN page -/

/-- R389. -/
def R.RGN_CTRL (n : Nat) : Nat := 0xF000050000 + 0x4 * n
def F.RGN_CTRL_FAULT_RESET (n : Nat) : Field := ⟨R.RGN_CTRL n, 16, 16⟩
def F.RGN_CTRL_DRAIN_US (n : Nat) : Field := ⟨R.RGN_CTRL n, 15, 8⟩
def F.RGN_CTRL_CMD (n : Nat) : Field := ⟨R.RGN_CTRL n, 1, 0⟩
/-- R390. -/
def R.RGN_STATUS (n : Nat) : Nat := 0xF000050080 + 0x4 * n
def F.RGN_STATUS_LAST_CAUSE (n : Nat) : Field := ⟨R.RGN_STATUS n, 15, 12⟩
def F.RGN_STATUS_REFUSED (n : Nat) : Field := ⟨R.RGN_STATUS n, 9, 9⟩
def F.RGN_STATUS_ENABLE_PENDING (n : Nat) : Field := ⟨R.RGN_STATUS n, 8, 8⟩
def F.RGN_STATUS_START_STATE (n : Nat) : Field := ⟨R.RGN_STATUS n, 5, 5⟩
def F.RGN_STATUS_FRAMES_VALID (n : Nat) : Field := ⟨R.RGN_STATUS n, 4, 4⟩
def F.RGN_STATUS_STATE (n : Nat) : Field := ⟨R.RGN_STATUS n, 2, 0⟩
/-- R391. -/
def R.RGN_EVENT : Nat := 0xF000050100
def F.RGN_EVENT_DONE : Field := ⟨R.RGN_EVENT, 23, 0⟩
/-- R391. -/
def R.RGN_FAULT : Nat := 0xF000050104
def F.RGN_FAULT_FAULT : Field := ⟨R.RGN_FAULT, 23, 0⟩
/-! ### Registers of the CLK page -/

/-- R439. -/
def R.CLK_PLL_CFG (n : Nat) : Nat := 0xF000060000 + 0x10 * n
def F.CLK_PLL_CFG_REF (n : Nat) : Field := ⟨R.CLK_PLL_CFG n, 26, 24⟩
def F.CLK_PLL_CFG_PREDIV (n : Nat) : Field := ⟨R.CLK_PLL_CFG n, 23, 18⟩
def F.CLK_PLL_CFG_MULT (n : Nat) : Field := ⟨R.CLK_PLL_CFG n, 17, 10⟩
/-- R440. -/
def R.CLK_PLL_DIV (n : Nat) : Nat := 0xF000060004 + 0x10 * n
def F.CLK_PLL_DIV_DIV3 (n : Nat) : Field := ⟨R.CLK_PLL_DIV n, 30, 24⟩
def F.CLK_PLL_DIV_DIV2 (n : Nat) : Field := ⟨R.CLK_PLL_DIV n, 22, 16⟩
def F.CLK_PLL_DIV_DIV1 (n : Nat) : Field := ⟨R.CLK_PLL_DIV n, 14, 8⟩
def F.CLK_PLL_DIV_DIV0 (n : Nat) : Field := ⟨R.CLK_PLL_DIV n, 6, 0⟩
/-- R441. -/
def R.CLK_PLL_STATUS (n : Nat) : Nat := 0xF000060008 + 0x10 * n
def F.CLK_PLL_STATUS_LOL (n : Nat) : Field := ⟨R.CLK_PLL_STATUS n, 2, 2⟩
def F.CLK_PLL_STATUS_LOCKED (n : Nat) : Field := ⟨R.CLK_PLL_STATUS n, 1, 1⟩
def F.CLK_PLL_STATUS_EN (n : Nat) : Field := ⟨R.CLK_PLL_STATUS n, 0, 0⟩
/-- R442. -/
def R.CLK_PLL_CMD (n : Nat) : Nat := 0xF00006000C + 0x10 * n
def F.CLK_PLL_CMD_RELOCK (n : Nat) : Field := ⟨R.CLK_PLL_CMD n, 0, 0⟩
/-- R443. -/
def R.CLK_OSC_STATUS : Nat := 0xF000060100
def F.CLK_OSC_STATUS_FAIL_100 : Field := ⟨R.CLK_OSC_STATUS, 1, 1⟩
def F.CLK_OSC_STATUS_FAIL_400 : Field := ⟨R.CLK_OSC_STATUS, 0, 0⟩
/-- R444. -/
def R.FAB_SLV_TIMEOUT (n : Nat) : Nat := 0xF000060200 + 0x4 * n
def F.FAB_SLV_TIMEOUT_TIMEOUT (n : Nat) : Field := ⟨R.FAB_SLV_TIMEOUT n, 15, 0⟩
/-! ### Registers of the XCV page -/

/-- R481. -/
def R.XCV_CTRL (n : Nat) : Nat := 0xF000100000 + 0x1000 * n
def F.XCV_CTRL_REF_SEL (n : Nat) : Field := ⟨R.XCV_CTRL n, 9, 8⟩
def F.XCV_CTRL_TX_SRC (n : Nat) : Field := ⟨R.XCV_CTRL n, 6, 4⟩
def F.XCV_CTRL_EN (n : Nat) : Field := ⟨R.XCV_CTRL n, 0, 0⟩
/-- R481. -/
def R.XCV_CFG (n : Nat) : Nat := 0xF000100004 + 0x1000 * n
def F.XCV_CFG_MOD (n : Nat) : Field := ⟨R.XCV_CFG n, 31, 31⟩
def F.XCV_CFG_PCS (n : Nat) : Field := ⟨R.XCV_CFG n, 30, 28⟩
def F.XCV_CFG_FEC (n : Nat) : Field := ⟨R.XCV_CFG n, 27, 26⟩
def F.XCV_CFG_FEC4 (n : Nat) : Field := ⟨R.XCV_CFG n, 25, 25⟩
def F.XCV_CFG_DESCR (n : Nat) : Field := ⟨R.XCV_CFG n, 24, 24⟩
/-- R481. -/
def R.XCV_RATE (n : Nat) : Nat := 0xF000100008 + 0x1000 * n
def F.XCV_RATE_BAUD_KBD (n : Nat) : Field := ⟨R.XCV_RATE n, 24, 0⟩
/-- R481. -/
def R.XCV_STATUS (n : Nat) : Nat := 0xF00010000C + 0x1000 * n
def F.XCV_STATUS_IGNORED (n : Nat) : Field := ⟨R.XCV_STATUS n, 12, 12⟩
def F.XCV_STATUS_REFUSED (n : Nat) : Field := ⟨R.XCV_STATUS n, 11, 11⟩
def F.XCV_STATUS_ENABLE_PENDING (n : Nat) : Field := ⟨R.XCV_STATUS n, 10, 10⟩
def F.XCV_STATUS_LOL (n : Nat) : Field := ⟨R.XCV_STATUS n, 9, 9⟩
def F.XCV_STATUS_FEC_LOCK (n : Nat) : Field := ⟨R.XCV_STATUS n, 8, 8⟩
def F.XCV_STATUS_PCS_LOCK (n : Nat) : Field := ⟨R.XCV_STATUS n, 7, 7⟩
def F.XCV_STATUS_CDR_LOCK (n : Nat) : Field := ⟨R.XCV_STATUS n, 6, 6⟩
def F.XCV_STATUS_STATE (n : Nat) : Field := ⟨R.XCV_STATUS n, 2, 0⟩
/-- R481. -/
def R.XCV_TXEQ (n : Nat) : Nat := 0xF000100010 + 0x1000 * n
def F.XCV_TXEQ_RX_FREEZE (n : Nat) : Field := ⟨R.XCV_TXEQ n, 31, 31⟩
def F.XCV_TXEQ_AMP (n : Nat) : Field := ⟨R.XCV_TXEQ n, 23, 16⟩
def F.XCV_TXEQ_PRE (n : Nat) : Field := ⟨R.XCV_TXEQ n, 11, 8⟩
def F.XCV_TXEQ_POST (n : Nat) : Field := ⟨R.XCV_TXEQ n, 4, 0⟩
/-- R481. -/
def R.XCV_PRBS (n : Nat) : Nat := 0xF000100014 + 0x1000 * n
def F.XCV_PRBS_CLR (n : Nat) : Field := ⟨R.XCV_PRBS n, 31, 31⟩
def F.XCV_PRBS_CHK_EN (n : Nat) : Field := ⟨R.XCV_PRBS n, 12, 12⟩
def F.XCV_PRBS_CHK_INV (n : Nat) : Field := ⟨R.XCV_PRBS n, 11, 11⟩
def F.XCV_PRBS_CHK_PATT (n : Nat) : Field := ⟨R.XCV_PRBS n, 10, 8⟩
def F.XCV_PRBS_GEN_INV (n : Nat) : Field := ⟨R.XCV_PRBS n, 3, 3⟩
def F.XCV_PRBS_GEN_PATT (n : Nat) : Field := ⟨R.XCV_PRBS n, 2, 0⟩
/-- R481. -/
def R.XCV_PRBS_BITS_LO (n : Nat) : Nat := 0xF000100018 + 0x1000 * n
def F.XCV_PRBS_BITS_LO_BITS (n : Nat) : Field := ⟨R.XCV_PRBS_BITS_LO n, 31, 0⟩
/-- R481. -/
def R.XCV_PRBS_BITS_HI (n : Nat) : Nat := 0xF00010001C + 0x1000 * n
def F.XCV_PRBS_BITS_HI_BITS (n : Nat) : Field := ⟨R.XCV_PRBS_BITS_HI n, 15, 0⟩
/-- R481. -/
def R.XCV_PRBS_ERR (n : Nat) : Nat := 0xF000100020 + 0x1000 * n
def F.XCV_PRBS_ERR_ERR (n : Nat) : Field := ⟨R.XCV_PRBS_ERR n, 31, 0⟩
/-- R481. -/
def R.XCV_PRBS_STATUS (n : Nat) : Nat := 0xF000100024 + 0x1000 * n
def F.XCV_PRBS_STATUS_LOSSES (n : Nat) : Field := ⟨R.XCV_PRBS_STATUS n, 15, 8⟩
def F.XCV_PRBS_STATUS_LOCKED (n : Nat) : Field := ⟨R.XCV_PRBS_STATUS n, 0, 0⟩
/-- R481. -/
def R.XCV_EYE_CTRL (n : Nat) : Nat := 0xF000100030 + 0x1000 * n
def F.XCV_EYE_CTRL_GO (n : Nat) : Field := ⟨R.XCV_EYE_CTRL n, 31, 31⟩
def F.XCV_EYE_CTRL_EYE_DONE (n : Nat) : Field := ⟨R.XCV_EYE_CTRL n, 30, 30⟩
def F.XCV_EYE_CTRL_EYE_ABORT (n : Nat) : Field := ⟨R.XCV_EYE_CTRL n, 29, 29⟩
def F.XCV_EYE_CTRL_PRESCALE (n : Nat) : Field := ⟨R.XCV_EYE_CTRL n, 23, 20⟩
def F.XCV_EYE_CTRL_EYE (n : Nat) : Field := ⟨R.XCV_EYE_CTRL n, 17, 16⟩
def F.XCV_EYE_CTRL_V_OFF (n : Nat) : Field := ⟨R.XCV_EYE_CTRL n, 15, 8⟩
def F.XCV_EYE_CTRL_H_OFF (n : Nat) : Field := ⟨R.XCV_EYE_CTRL n, 6, 0⟩
/-- R481. -/
def R.XCV_EYE_SAMPLES (n : Nat) : Nat := 0xF000100034 + 0x1000 * n
def F.XCV_EYE_SAMPLES_COUNT (n : Nat) : Field := ⟨R.XCV_EYE_SAMPLES n, 31, 0⟩
/-- R481. -/
def R.XCV_EYE_ERRORS (n : Nat) : Nat := 0xF000100038 + 0x1000 * n
def F.XCV_EYE_ERRORS_COUNT (n : Nat) : Field := ⟨R.XCV_EYE_ERRORS n, 31, 0⟩
/-- R481. -/
def R.XCV_FEC_CORR (n : Nat) : Nat := 0xF000100040 + 0x1000 * n
def F.XCV_FEC_CORR_CW (n : Nat) : Field := ⟨R.XCV_FEC_CORR n, 31, 0⟩
/-- R481. -/
def R.XCV_FEC_UNCORR (n : Nat) : Nat := 0xF000100044 + 0x1000 * n
def F.XCV_FEC_UNCORR_CW (n : Nat) : Field := ⟨R.XCV_FEC_UNCORR n, 31, 0⟩
/-- R481. -/
def R.XCV_LAT (n : Nat) : Nat := 0xF000100050 + 0x1000 * n
def F.XCV_LAT_TX (n : Nat) : Field := ⟨R.XCV_LAT n, 31, 16⟩
def F.XCV_LAT_RX (n : Nat) : Field := ⟨R.XCV_LAT n, 15, 0⟩
/-- R482. -/
def R.XCV_GRP_CTRL (n : Nat) : Nat := 0xF000140000 + 0x10 * n
def F.XCV_GRP_CTRL_ALIGNED (n : Nat) : Field := ⟨R.XCV_GRP_CTRL n, 31, 31⟩
def F.XCV_GRP_CTRL_REFUSED (n : Nat) : Field := ⟨R.XCV_GRP_CTRL n, 30, 30⟩
def F.XCV_GRP_CTRL_MASK (n : Nat) : Field := ⟨R.XCV_GRP_CTRL n, 15, 0⟩
/-- R482. -/
def R.XCV_GRP_MARK_LO (n : Nat) : Nat := 0xF000140004 + 0x10 * n
def F.XCV_GRP_MARK_LO_MARK (n : Nat) : Field := ⟨R.XCV_GRP_MARK_LO n, 31, 0⟩
/-- R482. -/
def R.XCV_GRP_MARK_MID (n : Nat) : Nat := 0xF000140008 + 0x10 * n
def F.XCV_GRP_MARK_MID_MARK (n : Nat) : Field := ⟨R.XCV_GRP_MARK_MID n, 31, 0⟩
/-- R482. -/
def R.XCV_GRP_MARK_HI (n : Nat) : Nat := 0xF00014000C + 0x10 * n
def F.XCV_GRP_MARK_HI_MARK (n : Nat) : Field := ⟨R.XCV_GRP_MARK_HI n, 1, 0⟩
/-- R483. -/
def R.XCV_EVT (n : Nat) : Nat := 0xF000140200 + 0x4 * n
def F.XCV_EVT_LANES (n : Nat) : Field := ⟨R.XCV_EVT n, 31, 0⟩
/-! ### Registers of the LNT page -/

/-- R546. -/
def R.LNT_CTRL (n : Nat) : Nat := 0xF000200000 + 0x10000 * n
def F.LNT_CTRL_PTR_RESET (n : Nat) : Field := ⟨R.LNT_CTRL n, 17, 17⟩
def F.LNT_CTRL_RING_MODE (n : Nat) : Field := ⟨R.LNT_CTRL n, 16, 16⟩
def F.LNT_CTRL_COMP_MIN (n : Nat) : Field := ⟨R.LNT_CTRL n, 12, 9⟩
def F.LNT_CTRL_COMP (n : Nat) : Field := ⟨R.LNT_CTRL n, 8, 8⟩
def F.LNT_CTRL_MODE (n : Nat) : Field := ⟨R.LNT_CTRL n, 5, 4⟩
def F.LNT_CTRL_EN (n : Nat) : Field := ⟨R.LNT_CTRL n, 0, 0⟩
/-- R546. -/
def R.LNT_STATUS (n : Nat) : Nat := 0xF000200004 + 0x10000 * n
def F.LNT_STATUS_SEQ_STATE (n : Nat) : Field := ⟨R.LNT_STATUS n, 19, 16⟩
def F.LNT_STATUS_TRIGGERED (n : Nat) : Field := ⟨R.LNT_STATUS n, 13, 13⟩
def F.LNT_STATUS_RING_FULL (n : Nat) : Field := ⟨R.LNT_STATUS n, 12, 12⟩
def F.LNT_STATUS_WR_ERR (n : Nat) : Field := ⟨R.LNT_STATUS n, 11, 11⟩
def F.LNT_STATUS_LOSS (n : Nat) : Field := ⟨R.LNT_STATUS n, 10, 10⟩
def F.LNT_STATUS_REFUSED (n : Nat) : Field := ⟨R.LNT_STATUS n, 9, 9⟩
def F.LNT_STATUS_IGNORED (n : Nat) : Field := ⟨R.LNT_STATUS n, 8, 8⟩
def F.LNT_STATUS_PANIC (n : Nat) : Field := ⟨R.LNT_STATUS n, 4, 4⟩
def F.LNT_STATUS_ENABLE_PENDING (n : Nat) : Field := ⟨R.LNT_STATUS n, 3, 3⟩
def F.LNT_STATUS_STATE (n : Nat) : Field := ⟨R.LNT_STATUS n, 2, 0⟩
/-- R546. -/
def R.LNT_FILTER (n : Nat) : Nat := 0xF000200008 + 0x10000 * n
def F.LNT_FILTER_HEAD_LEN (n : Nat) : Field := ⟨R.LNT_FILTER n, 28, 16⟩
def F.LNT_FILTER_ALL (n : Nat) : Field := ⟨R.LNT_FILTER n, 8, 8⟩
def F.LNT_FILTER_MASK (n : Nat) : Field := ⟨R.LNT_FILTER n, 7, 0⟩
/-- R546. -/
def R.LNT_RING_BASE (n : Nat) : Nat := 0xF000200010 + 0x10000 * n
def F.LNT_RING_BASE_MIB (n : Nat) : Field := ⟨R.LNT_RING_BASE n, 18, 0⟩
/-- R546. -/
def R.LNT_RING_SIZE (n : Nat) : Nat := 0xF000200014 + 0x10000 * n
def F.LNT_RING_SIZE_MIB (n : Nat) : Field := ⟨R.LNT_RING_SIZE n, 18, 0⟩
/-- R546. -/
def R.LNT_WR_PTR_LO (n : Nat) : Nat := 0xF000200018 + 0x10000 * n
def F.LNT_WR_PTR_LO_PTR (n : Nat) : Field := ⟨R.LNT_WR_PTR_LO n, 31, 0⟩
/-- R546. -/
def R.LNT_WR_PTR_HI (n : Nat) : Nat := 0xF00020001C + 0x10000 * n
def F.LNT_WR_PTR_HI_PTR (n : Nat) : Field := ⟨R.LNT_WR_PTR_HI n, 5, 0⟩
/-- R546. -/
def R.LNT_RD_PTR_LO (n : Nat) : Nat := 0xF000200020 + 0x10000 * n
def F.LNT_RD_PTR_LO_PTR (n : Nat) : Field := ⟨R.LNT_RD_PTR_LO n, 31, 0⟩
/-- R546. -/
def R.LNT_RD_PTR_HI (n : Nat) : Nat := 0xF000200024 + 0x10000 * n
def F.LNT_RD_PTR_HI_PTR (n : Nat) : Field := ⟨R.LNT_RD_PTR_HI n, 5, 0⟩
/-- R546. -/
def R.LNT_WRAPS (n : Nat) : Nat := 0xF000200028 + 0x10000 * n
def F.LNT_WRAPS_COUNT (n : Nat) : Field := ⟨R.LNT_WRAPS n, 31, 0⟩
/-- R546. -/
def R.LNT_IDX_BASE (n : Nat) : Nat := 0xF000200030 + 0x10000 * n
def F.LNT_IDX_BASE_BASE (n : Nat) : Field := ⟨R.LNT_IDX_BASE n, 26, 0⟩
/-- R546. -/
def R.LNT_IDX_SIZE (n : Nat) : Nat := 0xF000200034 + 0x10000 * n
def F.LNT_IDX_SIZE_SIZE (n : Nat) : Field := ⟨R.LNT_IDX_SIZE n, 15, 0⟩
/-- R546. -/
def R.LNT_IDX_PTR (n : Nat) : Nat := 0xF000200038 + 0x10000 * n
def F.LNT_IDX_PTR_ENTRY (n : Nat) : Field := ⟨R.LNT_IDX_PTR n, 22, 0⟩
/-- R546. -/
def R.LNT_FIFO (n : Nat) : Nat := 0xF000200040 + 0x10000 * n
def F.LNT_FIFO_BASE (n : Nat) : Field := ⟨R.LNT_FIFO n, 25, 16⟩
def F.LNT_FIFO_SIZE (n : Nat) : Field := ⟨R.LNT_FIFO n, 6, 0⟩
/-- R546. -/
def R.LNT_PANIC (n : Nat) : Nat := 0xF000200044 + 0x10000 * n
def F.LNT_PANIC_PANIC_HI (n : Nat) : Field := ⟨R.LNT_PANIC n, 13, 8⟩
def F.LNT_PANIC_PANIC_LO (n : Nat) : Field := ⟨R.LNT_PANIC n, 5, 0⟩
/-- R546. -/
def R.LNT_RT (n : Nat) : Nat := 0xF000200048 + 0x10000 * n
def F.LNT_RT_FLUSH_US (n : Nat) : Field := ⟨R.LNT_RT n, 31, 16⟩
def F.LNT_RT_SLACK_NS (n : Nat) : Field := ⟨R.LNT_RT n, 15, 0⟩
/-- R546. -/
def R.LNT_TRIG_TT (n : Nat) (k : Nat) : Nat := 0xF000200050 + 0x10000 * n + 0x4 * k
def F.LNT_TRIG_TT_TT (n : Nat) (k : Nat) : Field := ⟨R.LNT_TRIG_TT n k, 31, 0⟩
/-- R546. -/
def R.LNT_TAP_CFG (n : Nat) (k : Nat) : Nat := 0xF000200080 + 0x10000 * n + 0x10 * k
def F.LNT_TAP_CFG_EN (n : Nat) (k : Nat) : Field := ⟨R.LNT_TAP_CFG n k, 31, 31⟩
def F.LNT_TAP_CFG_LANE (n : Nat) (k : Nat) : Field := ⟨R.LNT_TAP_CFG n k, 29, 24⟩
def F.LNT_TAP_CFG_PRE (n : Nat) (k : Nat) : Field := ⟨R.LNT_TAP_CFG n k, 23, 23⟩
def F.LNT_TAP_CFG_FRAMING (n : Nat) (k : Nat) : Field := ⟨R.LNT_TAP_CFG n k, 22, 22⟩
def F.LNT_TAP_CFG_END_EN (n : Nat) (k : Nat) : Field := ⟨R.LNT_TAP_CFG n k, 19, 19⟩
def F.LNT_TAP_CFG_END_MU (n : Nat) (k : Nat) : Field := ⟨R.LNT_TAP_CFG n k, 18, 16⟩
def F.LNT_TAP_CFG_START_MU (n : Nat) (k : Nat) : Field := ⟨R.LNT_TAP_CFG n k, 14, 12⟩
/-- R546. -/
def R.LNT_TAP_LEN (n : Nat) (k : Nat) : Nat := 0xF000200084 + 0x10000 * n + 0x10 * k
def F.LNT_TAP_LEN_MAX_LEN (n : Nat) (k : Nat) : Field := ⟨R.LNT_TAP_LEN n k, 30, 16⟩
def F.LNT_TAP_LEN_CHUNK_LEN (n : Nat) (k : Nat) : Field := ⟨R.LNT_TAP_LEN n k, 12, 0⟩
/-- R546. -/
def R.LNT_TAP_FRAMES (n : Nat) (k : Nat) : Nat := 0xF000200100 + 0x10000 * n + 0x10 * k
def F.LNT_TAP_FRAMES_COUNT (n : Nat) (k : Nat) : Field := ⟨R.LNT_TAP_FRAMES n k, 31, 0⟩
/-- R546. -/
def R.LNT_TAP_BYTES_LO (n : Nat) (k : Nat) : Nat := 0xF000200104 + 0x10000 * n + 0x10 * k
def F.LNT_TAP_BYTES_LO_COUNT (n : Nat) (k : Nat) : Field := ⟨R.LNT_TAP_BYTES_LO n k, 31, 0⟩
/-- R546. -/
def R.LNT_TAP_BYTES_HI (n : Nat) (k : Nat) : Nat := 0xF000200108 + 0x10000 * n + 0x10 * k
def F.LNT_TAP_BYTES_HI_COUNT (n : Nat) (k : Nat) : Field := ⟨R.LNT_TAP_BYTES_HI n k, 15, 0⟩
/-- R546. -/
def R.LNT_TAP_ERRS (n : Nat) (k : Nat) : Nat := 0xF00020010C + 0x10000 * n + 0x10 * k
def F.LNT_TAP_ERRS_COUNT (n : Nat) (k : Nat) : Field := ⟨R.LNT_TAP_ERRS n k, 31, 0⟩
/-- R546. -/
def R.LNT_MU_HITS (n : Nat) (k : Nat) : Nat := 0xF000200180 + 0x10000 * n + 0x4 * k
def F.LNT_MU_HITS_COUNT (n : Nat) (k : Nat) : Field := ⟨R.LNT_MU_HITS n k, 31, 0⟩
/-- R546. -/
def R.LNT_MU0_VALUE (n : Nat) (k : Nat) : Nat := 0xF000200200 + 0x10000 * n + 0x4 * k
def F.LNT_MU0_VALUE_VALUE (n : Nat) (k : Nat) : Field := ⟨R.LNT_MU0_VALUE n k, 31, 0⟩
/-- R546. -/
def R.LNT_MU1_VALUE (n : Nat) (k : Nat) : Nat := 0xF000200280 + 0x10000 * n + 0x4 * k
def F.LNT_MU1_VALUE_VALUE (n : Nat) (k : Nat) : Field := ⟨R.LNT_MU1_VALUE n k, 31, 0⟩
/-- R546. -/
def R.LNT_MU2_VALUE (n : Nat) (k : Nat) : Nat := 0xF000200300 + 0x10000 * n + 0x4 * k
def F.LNT_MU2_VALUE_VALUE (n : Nat) (k : Nat) : Field := ⟨R.LNT_MU2_VALUE n k, 31, 0⟩
/-- R546. -/
def R.LNT_MU3_VALUE (n : Nat) (k : Nat) : Nat := 0xF000200380 + 0x10000 * n + 0x4 * k
def F.LNT_MU3_VALUE_VALUE (n : Nat) (k : Nat) : Field := ⟨R.LNT_MU3_VALUE n k, 31, 0⟩
/-- R546. -/
def R.LNT_MU4_VALUE (n : Nat) (k : Nat) : Nat := 0xF000200400 + 0x10000 * n + 0x4 * k
def F.LNT_MU4_VALUE_VALUE (n : Nat) (k : Nat) : Field := ⟨R.LNT_MU4_VALUE n k, 31, 0⟩
/-- R546. -/
def R.LNT_MU5_VALUE (n : Nat) (k : Nat) : Nat := 0xF000200480 + 0x10000 * n + 0x4 * k
def F.LNT_MU5_VALUE_VALUE (n : Nat) (k : Nat) : Field := ⟨R.LNT_MU5_VALUE n k, 31, 0⟩
/-- R546. -/
def R.LNT_MU6_VALUE (n : Nat) (k : Nat) : Nat := 0xF000200500 + 0x10000 * n + 0x4 * k
def F.LNT_MU6_VALUE_VALUE (n : Nat) (k : Nat) : Field := ⟨R.LNT_MU6_VALUE n k, 31, 0⟩
/-- R546. -/
def R.LNT_MU7_VALUE (n : Nat) (k : Nat) : Nat := 0xF000200580 + 0x10000 * n + 0x4 * k
def F.LNT_MU7_VALUE_VALUE (n : Nat) (k : Nat) : Field := ⟨R.LNT_MU7_VALUE n k, 31, 0⟩
/-- R546. -/
def R.LNT_MU0_MASK (n : Nat) (k : Nat) : Nat := 0xF000200220 + 0x10000 * n + 0x4 * k
def F.LNT_MU0_MASK_MASK (n : Nat) (k : Nat) : Field := ⟨R.LNT_MU0_MASK n k, 31, 0⟩
/-- R546. -/
def R.LNT_MU1_MASK (n : Nat) (k : Nat) : Nat := 0xF0002002A0 + 0x10000 * n + 0x4 * k
def F.LNT_MU1_MASK_MASK (n : Nat) (k : Nat) : Field := ⟨R.LNT_MU1_MASK n k, 31, 0⟩
/-- R546. -/
def R.LNT_MU2_MASK (n : Nat) (k : Nat) : Nat := 0xF000200320 + 0x10000 * n + 0x4 * k
def F.LNT_MU2_MASK_MASK (n : Nat) (k : Nat) : Field := ⟨R.LNT_MU2_MASK n k, 31, 0⟩
/-- R546. -/
def R.LNT_MU3_MASK (n : Nat) (k : Nat) : Nat := 0xF0002003A0 + 0x10000 * n + 0x4 * k
def F.LNT_MU3_MASK_MASK (n : Nat) (k : Nat) : Field := ⟨R.LNT_MU3_MASK n k, 31, 0⟩
/-- R546. -/
def R.LNT_MU4_MASK (n : Nat) (k : Nat) : Nat := 0xF000200420 + 0x10000 * n + 0x4 * k
def F.LNT_MU4_MASK_MASK (n : Nat) (k : Nat) : Field := ⟨R.LNT_MU4_MASK n k, 31, 0⟩
/-- R546. -/
def R.LNT_MU5_MASK (n : Nat) (k : Nat) : Nat := 0xF0002004A0 + 0x10000 * n + 0x4 * k
def F.LNT_MU5_MASK_MASK (n : Nat) (k : Nat) : Field := ⟨R.LNT_MU5_MASK n k, 31, 0⟩
/-- R546. -/
def R.LNT_MU6_MASK (n : Nat) (k : Nat) : Nat := 0xF000200520 + 0x10000 * n + 0x4 * k
def F.LNT_MU6_MASK_MASK (n : Nat) (k : Nat) : Field := ⟨R.LNT_MU6_MASK n k, 31, 0⟩
/-- R546. -/
def R.LNT_MU7_MASK (n : Nat) (k : Nat) : Nat := 0xF0002005A0 + 0x10000 * n + 0x4 * k
def F.LNT_MU7_MASK_MASK (n : Nat) (k : Nat) : Field := ⟨R.LNT_MU7_MASK n k, 31, 0⟩
/-- R546. -/
def R.LNT_MU_CTRL (n : Nat) (k : Nat) : Nat := 0xF000200240 + 0x10000 * n + 0x80 * k
def F.LNT_MU_CTRL_EN (n : Nat) (k : Nat) : Field := ⟨R.LNT_MU_CTRL n k, 31, 31⟩
def F.LNT_MU_CTRL_TAP (n : Nat) (k : Nat) : Field := ⟨R.LNT_MU_CTRL n k, 29, 28⟩
def F.LNT_MU_CTRL_ANCHOR (n : Nat) (k : Nat) : Field := ⟨R.LNT_MU_CTRL n k, 27, 27⟩
def F.LNT_MU_CTRL_OFFSET (n : Nat) (k : Nat) : Field := ⟨R.LNT_MU_CTRL n k, 12, 0⟩
/-- R546. -/
def R.LNT_SEQ_COND_A (n : Nat) (k : Nat) : Nat := 0xF000200600 + 0x10000 * n + 0x10 * k
def F.LNT_SEQ_COND_A_VALID (n : Nat) (k : Nat) : Field := ⟨R.LNT_SEQ_COND_A n k, 31, 31⟩
def F.LNT_SEQ_COND_A_CNT_SEL (n : Nat) (k : Nat) : Field := ⟨R.LNT_SEQ_COND_A n k, 14, 13⟩
def F.LNT_SEQ_COND_A_CNT_EN (n : Nat) (k : Nat) : Field := ⟨R.LNT_SEQ_COND_A n k, 12, 12⟩
def F.LNT_SEQ_COND_A_ALL (n : Nat) (k : Nat) : Field := ⟨R.LNT_SEQ_COND_A n k, 8, 8⟩
def F.LNT_SEQ_COND_A_MU_MASK (n : Nat) (k : Nat) : Field := ⟨R.LNT_SEQ_COND_A n k, 7, 0⟩
/-- R546. -/
def R.LNT_SEQ_ACT_A (n : Nat) (k : Nat) : Nat := 0xF000200604 + 0x10000 * n + 0x10 * k
def F.LNT_SEQ_ACT_A_EVT (n : Nat) (k : Nat) : Field := ⟨R.LNT_SEQ_ACT_A n k, 13, 13⟩
def F.LNT_SEQ_ACT_A_TRIG (n : Nat) (k : Nat) : Field := ⟨R.LNT_SEQ_ACT_A n k, 12, 12⟩
def F.LNT_SEQ_ACT_A_CLR (n : Nat) (k : Nat) : Field := ⟨R.LNT_SEQ_ACT_A n k, 11, 8⟩
def F.LNT_SEQ_ACT_A_CAPTURE (n : Nat) (k : Nat) : Field := ⟨R.LNT_SEQ_ACT_A n k, 5, 4⟩
def F.LNT_SEQ_ACT_A_NEXT (n : Nat) (k : Nat) : Field := ⟨R.LNT_SEQ_ACT_A n k, 3, 0⟩
/-- R546. -/
def R.LNT_SEQ_COND_B (n : Nat) (k : Nat) : Nat := 0xF000200608 + 0x10000 * n + 0x10 * k
def F.LNT_SEQ_COND_B_VALID (n : Nat) (k : Nat) : Field := ⟨R.LNT_SEQ_COND_B n k, 31, 31⟩
def F.LNT_SEQ_COND_B_CNT_SEL (n : Nat) (k : Nat) : Field := ⟨R.LNT_SEQ_COND_B n k, 14, 13⟩
def F.LNT_SEQ_COND_B_CNT_EN (n : Nat) (k : Nat) : Field := ⟨R.LNT_SEQ_COND_B n k, 12, 12⟩
def F.LNT_SEQ_COND_B_ALL (n : Nat) (k : Nat) : Field := ⟨R.LNT_SEQ_COND_B n k, 8, 8⟩
def F.LNT_SEQ_COND_B_MU_MASK (n : Nat) (k : Nat) : Field := ⟨R.LNT_SEQ_COND_B n k, 7, 0⟩
/-- R546. -/
def R.LNT_SEQ_ACT_B (n : Nat) (k : Nat) : Nat := 0xF00020060C + 0x10000 * n + 0x10 * k
def F.LNT_SEQ_ACT_B_EVT (n : Nat) (k : Nat) : Field := ⟨R.LNT_SEQ_ACT_B n k, 13, 13⟩
def F.LNT_SEQ_ACT_B_TRIG (n : Nat) (k : Nat) : Field := ⟨R.LNT_SEQ_ACT_B n k, 12, 12⟩
def F.LNT_SEQ_ACT_B_CLR (n : Nat) (k : Nat) : Field := ⟨R.LNT_SEQ_ACT_B n k, 11, 8⟩
def F.LNT_SEQ_ACT_B_CAPTURE (n : Nat) (k : Nat) : Field := ⟨R.LNT_SEQ_ACT_B n k, 5, 4⟩
def F.LNT_SEQ_ACT_B_NEXT (n : Nat) (k : Nat) : Field := ⟨R.LNT_SEQ_ACT_B n k, 3, 0⟩
/-- R546. -/
def R.LNT_SEQ_RUN (n : Nat) (k : Nat) : Nat := 0xF000200700 + 0x10000 * n + 0x4 * k
def F.LNT_SEQ_RUN_CNT_RUN (n : Nat) (k : Nat) : Field := ⟨R.LNT_SEQ_RUN n k, 3, 0⟩
/-- R546. -/
def R.LNT_CNT_CFG (n : Nat) (k : Nat) : Nat := 0xF000200740 + 0x10000 * n + 0x10 * k
def F.LNT_CNT_CFG_MU (n : Nat) (k : Nat) : Field := ⟨R.LNT_CNT_CFG n k, 6, 4⟩
def F.LNT_CNT_CFG_SRC (n : Nat) (k : Nat) : Field := ⟨R.LNT_CNT_CFG n k, 1, 0⟩
/-- R546. -/
def R.LNT_CNT_LIMIT (n : Nat) (k : Nat) : Nat := 0xF000200744 + 0x10000 * n + 0x10 * k
def F.LNT_CNT_LIMIT_LIMIT (n : Nat) (k : Nat) : Field := ⟨R.LNT_CNT_LIMIT n k, 31, 0⟩
/-- R546. -/
def R.LNT_CNT_VALUE (n : Nat) (k : Nat) : Nat := 0xF000200748 + 0x10000 * n + 0x10 * k
def F.LNT_CNT_VALUE_VALUE (n : Nat) (k : Nat) : Field := ⟨R.LNT_CNT_VALUE n k, 31, 0⟩
/-! ### Registers of the BCN page -/

/-- R611. -/
def R.BCN_CTRL (n : Nat) : Nat := 0xF000300000 + 0x10000 * n
def F.BCN_CTRL_START_SEG (n : Nat) : Field := ⟨R.BCN_CTRL n, 21, 16⟩
def F.BCN_CTRL_FILL (n : Nat) : Field := ⟨R.BCN_CTRL n, 10, 9⟩
def F.BCN_CTRL_DIST (n : Nat) : Field := ⟨R.BCN_CTRL n, 8, 8⟩
def F.BCN_CTRL_LANES (n : Nat) : Field := ⟨R.BCN_CTRL n, 7, 4⟩
def F.BCN_CTRL_EN (n : Nat) : Field := ⟨R.BCN_CTRL n, 0, 0⟩
/-- R611. -/
def R.BCN_STATUS (n : Nat) : Nat := 0xF000300004 + 0x10000 * n
def F.BCN_STATUS_SEG (n : Nat) : Field := ⟨R.BCN_STATUS n, 21, 16⟩
def F.BCN_STATUS_RD_ERR (n : Nat) : Field := ⟨R.BCN_STATUS n, 13, 13⟩
def F.BCN_STATUS_BAD_PROGRAM (n : Nat) : Field := ⟨R.BCN_STATUS n, 12, 12⟩
def F.BCN_STATUS_IGNORED (n : Nat) : Field := ⟨R.BCN_STATUS n, 11, 11⟩
def F.BCN_STATUS_REFUSED (n : Nat) : Field := ⟨R.BCN_STATUS n, 10, 10⟩
def F.BCN_STATUS_LATE_START (n : Nat) : Field := ⟨R.BCN_STATUS n, 9, 9⟩
def F.BCN_STATUS_UNDERRUN (n : Nat) : Field := ⟨R.BCN_STATUS n, 8, 8⟩
def F.BCN_STATUS_PANIC (n : Nat) : Field := ⟨R.BCN_STATUS n, 4, 4⟩
def F.BCN_STATUS_ENABLE_PENDING (n : Nat) : Field := ⟨R.BCN_STATUS n, 3, 3⟩
def F.BCN_STATUS_STATE (n : Nat) : Field := ⟨R.BCN_STATUS n, 2, 0⟩
/-- R611. -/
def R.BCN_CMD (n : Nat) : Nat := 0xF000300008 + 0x10000 * n
def F.BCN_CMD_STOP (n : Nat) : Field := ⟨R.BCN_CMD n, 1, 1⟩
def F.BCN_CMD_START (n : Nat) : Field := ⟨R.BCN_CMD n, 0, 0⟩
/-- R611. -/
def R.BCN_JUMP (n : Nat) : Nat := 0xF00030000C + 0x10000 * n
def F.BCN_JUMP_LINES (n : Nat) : Field := ⟨R.BCN_JUMP n, 7, 0⟩
/-- R611. -/
def R.BCN_JUMP_CLR (n : Nat) : Nat := 0xF000300010 + 0x10000 * n
def F.BCN_JUMP_CLR_LINES (n : Nat) : Field := ⟨R.BCN_JUMP_CLR n, 7, 0⟩
/-- R611. -/
def R.BCN_PMEM (n : Nat) : Nat := 0xF000300014 + 0x10000 * n
def F.BCN_PMEM_BASE (n : Nat) : Field := ⟨R.BCN_PMEM n, 25, 16⟩
def F.BCN_PMEM_SIZE (n : Nat) : Field := ⟨R.BCN_PMEM n, 6, 0⟩
/-- R611. -/
def R.BCN_RT (n : Nat) : Nat := 0xF000300018 + 0x10000 * n
def F.BCN_RT_SLACK_NS (n : Nat) : Field := ⟨R.BCN_RT n, 15, 0⟩
/-- R611. -/
def R.BCN_PANIC (n : Nat) : Nat := 0xF00030001C + 0x10000 * n
def F.BCN_PANIC_PANIC_HI (n : Nat) : Field := ⟨R.BCN_PANIC n, 13, 8⟩
def F.BCN_PANIC_PANIC_LO (n : Nat) : Field := ⟨R.BCN_PANIC n, 5, 0⟩
/-- R611. -/
def R.BCN_START_TT (n : Nat) (k : Nat) : Nat := 0xF000300020 + 0x10000 * n + 0x4 * k
def F.BCN_START_TT_TT (n : Nat) (k : Nat) : Field := ⟨R.BCN_START_TT n k, 31, 0⟩
/-- R611. -/
def R.BCN_UNITS_LO (n : Nat) : Nat := 0xF000300028 + 0x10000 * n
def F.BCN_UNITS_LO_COUNT (n : Nat) : Field := ⟨R.BCN_UNITS_LO n, 31, 0⟩
/-- R611. -/
def R.BCN_UNITS_HI (n : Nat) : Nat := 0xF00030002C + 0x10000 * n
def F.BCN_UNITS_HI_COUNT (n : Nat) : Field := ⟨R.BCN_UNITS_HI n, 15, 0⟩
/-- R611. -/
def R.BCN_LOOPS (n : Nat) : Nat := 0xF000300030 + 0x10000 * n
def F.BCN_LOOPS_COUNT (n : Nat) : Field := ⟨R.BCN_LOOPS n, 31, 0⟩
/-- R611. -/
def R.BCN_UNDERRUNS (n : Nat) : Nat := 0xF000300034 + 0x10000 * n
def F.BCN_UNDERRUNS_COUNT (n : Nat) : Field := ⟨R.BCN_UNDERRUNS n, 31, 0⟩
/-- R611. -/
def R.BCN_JUMPS (n : Nat) : Nat := 0xF000300038 + 0x10000 * n
def F.BCN_JUMPS_COUNT (n : Nat) : Field := ⟨R.BCN_JUMPS n, 31, 0⟩
/-- R611. -/
def R.BCN_UNDERRUN_TT (n : Nat) (k : Nat) : Nat := 0xF000300040 + 0x10000 * n + 0x4 * k
def F.BCN_UNDERRUN_TT_TT (n : Nat) (k : Nat) : Field := ⟨R.BCN_UNDERRUN_TT n k, 31, 0⟩
/-! ### Registers of the SCH page -/

/-- R609. -/
def R.SCH_STATUS : Nat := 0xF000400000
def F.SCH_STATUS_FROZEN : Field := ⟨R.SCH_STATUS, 8, 8⟩
def F.SCH_STATUS_SWAP_LATE : Field := ⟨R.SCH_STATUS, 7, 7⟩
def F.SCH_STATUS_BAD_ENTRY : Field := ⟨R.SCH_STATUS, 6, 6⟩
def F.SCH_STATUS_LATE : Field := ⟨R.SCH_STATUS, 5, 5⟩
def F.SCH_STATUS_SWAP_ARMED : Field := ⟨R.SCH_STATUS, 1, 1⟩
def F.SCH_STATUS_ACTIVE : Field := ⟨R.SCH_STATUS, 0, 0⟩
/-- R609. -/
def R.SCH_SWAP_CTRL : Nat := 0xF000400004
def F.SCH_SWAP_CTRL_CANCEL : Field := ⟨R.SCH_SWAP_CTRL, 1, 1⟩
def F.SCH_SWAP_CTRL_ARM : Field := ⟨R.SCH_SWAP_CTRL, 0, 0⟩
/-- R609. -/
def R.SCH_SWAP_AT_LO : Nat := 0xF000400008
def F.SCH_SWAP_AT_LO_TT : Field := ⟨R.SCH_SWAP_AT_LO, 31, 0⟩
/-- R609. -/
def R.SCH_SWAP_AT_HI : Nat := 0xF00040000C
def F.SCH_SWAP_AT_HI_TT : Field := ⟨R.SCH_SWAP_AT_HI, 31, 0⟩
/-- R609. -/
def R.SCH_PIN_INIT : Nat := 0xF000400010
def F.SCH_PIN_INIT_LEVEL : Field := ⟨R.SCH_PIN_INIT, 15, 0⟩
/-- R609. -/
def R.SCH_PINS : Nat := 0xF000400014
def F.SCH_PINS_LEVEL : Field := ⟨R.SCH_PINS, 15, 0⟩
/-- R609. -/
def R.SCH_LATE : Nat := 0xF000400018
def F.SCH_LATE_TABLE : Field := ⟨R.SCH_LATE, 10, 10⟩
def F.SCH_LATE_INDEX : Field := ⟨R.SCH_LATE, 9, 0⟩
/-- R609. -/
def R.SCH_GRP_CTRL (n : Nat) : Nat := 0xF000401000 + 0x40 * n
def F.SCH_GRP_CTRL_SLOTS (n : Nat) : Field := ⟨R.SCH_GRP_CTRL n, 31, 16⟩
def F.SCH_GRP_CTRL_WR_ERR (n : Nat) : Field := ⟨R.SCH_GRP_CTRL n, 1, 1⟩
def F.SCH_GRP_CTRL_EN (n : Nat) : Field := ⟨R.SCH_GRP_CTRL n, 0, 0⟩
/-- R609. -/
def R.SCH_GRP_LNT (n : Nat) : Nat := 0xF000401004 + 0x40 * n
def F.SCH_GRP_LNT_MASK (n : Nat) : Field := ⟨R.SCH_GRP_LNT n, 15, 0⟩
/-- R609. -/
def R.SCH_GRP_BCN (n : Nat) : Nat := 0xF000401008 + 0x40 * n
def F.SCH_GRP_BCN_MASK (n : Nat) : Field := ⟨R.SCH_GRP_BCN n, 15, 0⟩
/-- R609. -/
def R.SCH_GRP_XCV_LO (n : Nat) : Nat := 0xF000401010 + 0x40 * n
def F.SCH_GRP_XCV_LO_MASK (n : Nat) : Field := ⟨R.SCH_GRP_XCV_LO n, 31, 0⟩
/-- R609. -/
def R.SCH_GRP_XCV_HI (n : Nat) : Nat := 0xF000401014 + 0x40 * n
def F.SCH_GRP_XCV_HI_MASK (n : Nat) : Field := ⟨R.SCH_GRP_XCV_HI n, 31, 0⟩
/-- R609. -/
def R.SCH_GRP_START_LO (n : Nat) : Nat := 0xF000401018 + 0x40 * n
def F.SCH_GRP_START_LO_TT (n : Nat) : Field := ⟨R.SCH_GRP_START_LO n, 31, 0⟩
/-- R609. -/
def R.SCH_GRP_START_HI (n : Nat) : Nat := 0xF00040101C + 0x40 * n
def F.SCH_GRP_START_HI_TT (n : Nat) : Field := ⟨R.SCH_GRP_START_HI n, 31, 0⟩
/-- R609. -/
def R.SCH_GRP_INTERVAL_LO (n : Nat) : Nat := 0xF000401020 + 0x40 * n
def F.SCH_GRP_INTERVAL_LO_NS (n : Nat) : Field := ⟨R.SCH_GRP_INTERVAL_LO n, 31, 0⟩
/-- R609. -/
def R.SCH_GRP_INTERVAL_HI (n : Nat) : Nat := 0xF000401024 + 0x40 * n
def F.SCH_GRP_INTERVAL_HI_NS (n : Nat) : Field := ⟨R.SCH_GRP_INTERVAL_HI n, 15, 0⟩
/-- R609. -/
def R.SCH_GRP_DEST_LO (n : Nat) : Nat := 0xF000401028 + 0x40 * n
def F.SCH_GRP_DEST_LO_ADDR (n : Nat) : Field := ⟨R.SCH_GRP_DEST_LO n, 31, 0⟩
/-- R609. -/
def R.SCH_GRP_DEST_HI (n : Nat) : Nat := 0xF00040102C + 0x40 * n
def F.SCH_GRP_DEST_HI_ADDR (n : Nat) : Field := ⟨R.SCH_GRP_DEST_HI n, 15, 0⟩
/-- R609. -/
def R.SCH_GRP_SEQ (n : Nat) : Nat := 0xF000401030 + 0x40 * n
def F.SCH_GRP_SEQ_SEQ (n : Nat) : Field := ⟨R.SCH_GRP_SEQ n, 31, 0⟩
/-- R609. -/
def R.SCH_GRP_MISSED (n : Nat) : Nat := 0xF000401034 + 0x40 * n
def F.SCH_GRP_MISSED_COUNT (n : Nat) : Field := ⟨R.SCH_GRP_MISSED n, 15, 0⟩
/-- R577. -/
def R.SCH_TABLE (n : Nat) : Nat := 0xF000480000 + 0x4 * n
def F.SCH_TABLE_WORD (n : Nat) : Field := ⟨R.SCH_TABLE n, 31, 0⟩
/-! ### Registers of the TPR page -/

/-- R663. -/
def R.TPR_CTRL (n : Nat) : Nat := 0xF000500000 + 0x1000 * n
def F.TPR_CTRL_RUN (n : Nat) : Field := ⟨R.TPR_CTRL n, 31, 31⟩
def F.TPR_CTRL_HALT (n : Nat) : Field := ⟨R.TPR_CTRL n, 30, 30⟩
def F.TPR_CTRL_STEP (n : Nat) : Field := ⟨R.TPR_CTRL n, 29, 29⟩
def F.TPR_CTRL_LOCKUP_ACT (n : Nat) : Field := ⟨R.TPR_CTRL n, 8, 8⟩
/-- R663. -/
def R.TPR_STATUS (n : Nat) : Nat := 0xF000500004 + 0x1000 * n
def F.TPR_STATUS_HALT_CAUSE (n : Nat) : Field := ⟨R.TPR_STATUS n, 15, 12⟩
def F.TPR_STATUS_IGNORED (n : Nat) : Field := ⟨R.TPR_STATUS n, 9, 9⟩
def F.TPR_STATUS_LOCKUP (n : Nat) : Field := ⟨R.TPR_STATUS n, 8, 8⟩
def F.TPR_STATUS_ENABLE_PENDING (n : Nat) : Field := ⟨R.TPR_STATUS n, 5, 5⟩
def F.TPR_STATUS_FENCED (n : Nat) : Field := ⟨R.TPR_STATUS n, 4, 4⟩
def F.TPR_STATUS_STATE (n : Nat) : Field := ⟨R.TPR_STATUS n, 1, 0⟩
/-- R663. -/
def R.TPR_PC (n : Nat) : Nat := 0xF000500008 + 0x1000 * n
def F.TPR_PC_PC (n : Nat) : Field := ⟨R.TPR_PC n, 13, 0⟩
/-- R663. -/
def R.TPR_SIGNAL (n : Nat) : Nat := 0xF00050000C + 0x1000 * n
def F.TPR_SIGNAL_CODE (n : Nat) : Field := ⟨R.TPR_SIGNAL n, 7, 0⟩
/-- R663. -/
def R.TPR_WDOG (n : Nat) : Nat := 0xF000500010 + 0x1000 * n
def F.TPR_WDOG_LIMIT_US (n : Nat) : Field := ⟨R.TPR_WDOG n, 15, 0⟩
/-- R663. -/
def R.TPR_MAILBOX (n : Nat) : Nat := 0xF000500014 + 0x1000 * n
def F.TPR_MAILBOX_DOORBELL (n : Nat) : Field := ⟨R.TPR_MAILBOX n, 0, 0⟩
/-- R663. -/
def R.TPR_DMA_RT (n : Nat) : Nat := 0xF000500018 + 0x1000 * n
def F.TPR_DMA_RT_SLACK_NS (n : Nat) : Field := ⟨R.TPR_DMA_RT n, 15, 0⟩
/-- R663. -/
def R.TPR_DMA_STATUS (n : Nat) (k : Nat) : Nat := 0xF000500020 + 0x1000 * n + 0x4 * k
def F.TPR_DMA_STATUS_BUSY (n : Nat) (k : Nat) : Field := ⟨R.TPR_DMA_STATUS n k, 31, 31⟩
def F.TPR_DMA_STATUS_CODE (n : Nat) (k : Nat) : Field := ⟨R.TPR_DMA_STATUS n k, 23, 16⟩
def F.TPR_DMA_STATUS_ERR (n : Nat) (k : Nat) : Field := ⟨R.TPR_DMA_STATUS n k, 1, 1⟩
def F.TPR_DMA_STATUS_DONE (n : Nat) (k : Nat) : Field := ⟨R.TPR_DMA_STATUS n k, 0, 0⟩
/-- R663. -/
def R.TPR_REG (n : Nat) (k : Nat) : Nat := 0xF000500100 + 0x1000 * n + 0x4 * k
def F.TPR_REG_VALUE (n : Nat) (k : Nat) : Field := ⟨R.TPR_REG n k, 15, 0⟩
/-- R663. -/
def R.TPR_ACC_LO (n : Nat) (k : Nat) : Nat := 0xF000500200 + 0x1000 * n + 0x8 * k
def F.TPR_ACC_LO_VALUE (n : Nat) (k : Nat) : Field := ⟨R.TPR_ACC_LO n k, 31, 0⟩
/-- R663. -/
def R.TPR_ACC_HI (n : Nat) (k : Nat) : Nat := 0xF000500204 + 0x1000 * n + 0x8 * k
def F.TPR_ACC_HI_VALUE (n : Nat) (k : Nat) : Field := ⟨R.TPR_ACC_HI n k, 7, 0⟩
/-! ### Registers of the BB page -/

/-- R714. -/
def R.BB_STATUS : Nat := 0xF000600000
def F.BB_STATUS_LOCKUP : Field := ⟨R.BB_STATUS, 1, 1⟩
def F.BB_STATUS_LOCK_ERR : Field := ⟨R.BB_STATUS, 0, 0⟩
/-- R714. -/
def R.BB_SLACK : Nat := 0xF000600004
def F.BB_SLACK_SLACK_NS : Field := ⟨R.BB_SLACK, 15, 0⟩
/-- R714. -/
def R.BB_PT_CTRL (n : Nat) : Nat := 0xF000600100 + 0x10 * n
def F.BB_PT_CTRL_WIN_NS (n : Nat) : Field := ⟨R.BB_PT_CTRL n, 31, 16⟩
def F.BB_PT_CTRL_WINDOW (n : Nat) : Field := ⟨R.BB_PT_CTRL n, 15, 8⟩
def F.BB_PT_CTRL_MODE (n : Nat) : Field := ⟨R.BB_PT_CTRL n, 0, 0⟩
/-- R714. -/
def R.BB_PT_QUOTA (n : Nat) : Nat := 0xF000600104 + 0x10 * n
def F.BB_PT_QUOTA_QUOTA2 (n : Nat) : Field := ⟨R.BB_PT_QUOTA n, 23, 16⟩
def F.BB_PT_QUOTA_QUOTA1 (n : Nat) : Field := ⟨R.BB_PT_QUOTA n, 15, 8⟩
def F.BB_PT_QUOTA_QUOTA0 (n : Nat) : Field := ⟨R.BB_PT_QUOTA n, 7, 0⟩
/-- R714. -/
def R.BB_PT_GUARD (n : Nat) : Nat := 0xF000600108 + 0x10 * n
def F.BB_PT_GUARD_GUARD_NS (n : Nat) : Field := ⟨R.BB_PT_GUARD n, 15, 0⟩
/-- R714. -/
def R.BB_PT_PREEMPTS (n : Nat) : Nat := 0xF00060010C + 0x10 * n
def F.BB_PT_PREEMPTS_COUNT (n : Nat) : Field := ⟨R.BB_PT_PREEMPTS n, 31, 0⟩
/-- R715. -/
def R.BB_MST_CFG_A (n : Nat) : Nat := 0xF000600400 + 0x4 * n
def F.BB_MST_CFG_A_CLASS (n : Nat) : Field := ⟨R.BB_MST_CFG_A n, 1, 0⟩
/-- R715. -/
def R.BB_MST_RSV_A (n : Nat) : Nat := 0xF000600414 + 0x4 * n
/-- R715. -/
def R.BB_MST_CFG_B (n : Nat) : Nat := 0xF000600420 + 0x4 * n
def F.BB_MST_CFG_B_CLASS (n : Nat) : Field := ⟨R.BB_MST_CFG_B n, 1, 0⟩
/-- R715. -/
def R.BB_MST_CFG_C (n : Nat) : Nat := 0xF000600440 + 0x4 * n
def F.BB_MST_CFG_C_CLASS (n : Nat) : Field := ⟨R.BB_MST_CFG_C n, 1, 0⟩
/-- R715. -/
def R.BB_MST_RSV_B (n : Nat) : Nat := 0xF0006004C0 + 0x4 * n
/-- R715. -/
def R.BB_MST_CFG_D (n : Nat) : Nat := 0xF000600500 + 0x4 * n
def F.BB_MST_CFG_D_PANIC_EN (n : Nat) : Field := ⟨R.BB_MST_CFG_D n, 4, 4⟩
def F.BB_MST_CFG_D_CLASS (n : Nat) : Field := ⟨R.BB_MST_CFG_D n, 1, 0⟩
/-- R715. -/
def R.BB_MST_RSV_C (n : Nat) : Nat := 0xF000600580 + 0x4 * n
/-- R714. -/
def R.BB_RULE_CTRL_ENF : Nat := 0xF000600800
def F.BB_RULE_CTRL_ENF_ENFORCE : Field := ⟨R.BB_RULE_CTRL_ENF, 0, 0⟩
/-- R714. -/
def R.BB_RULE_COMMIT : Nat := 0xF000600804
def F.BB_RULE_COMMIT_GO : Field := ⟨R.BB_RULE_COMMIT, 0, 0⟩
/-- R714. -/
def R.BB_RULE_VERSION : Nat := 0xF000600808
def F.BB_RULE_VERSION_VERSION : Field := ⟨R.BB_RULE_VERSION, 15, 0⟩
/-- R714. -/
def R.BB_RULE_DRAINED : Nat := 0xF00060080C
def F.BB_RULE_DRAINED_DRAINED : Field := ⟨R.BB_RULE_DRAINED, 0, 0⟩
/-- R714. -/
def R.BB_VIOL_INFO : Nat := 0xF000600810
def F.BB_VIOL_INFO_VALID : Field := ⟨R.BB_VIOL_INFO, 31, 31⟩
def F.BB_VIOL_INFO_WRITE : Field := ⟨R.BB_VIOL_INFO, 8, 8⟩
def F.BB_VIOL_INFO_MASTER : Field := ⟨R.BB_VIOL_INFO, 6, 0⟩
/-- R714. -/
def R.BB_VIOL_ADDR_LO : Nat := 0xF000600814
def F.BB_VIOL_ADDR_LO_ADDR : Field := ⟨R.BB_VIOL_ADDR_LO, 31, 0⟩
/-- R714. -/
def R.BB_VIOL_ADDR_HI : Nat := 0xF000600818
def F.BB_VIOL_ADDR_HI_ADDR : Field := ⟨R.BB_VIOL_ADDR_HI, 15, 0⟩
/-- R714. -/
def R.BB_VIOL_COUNT : Nat := 0xF00060081C
def F.BB_VIOL_COUNT_COUNT : Field := ⟨R.BB_VIOL_COUNT, 31, 0⟩
/-- R714. -/
def R.BB_FENCED (n : Nat) : Nat := 0xF000600820 + 0x4 * n
def F.BB_FENCED_MASTERS (n : Nat) : Field := ⟨R.BB_FENCED n, 31, 0⟩
/-- R714. -/
def R.BB_LOCKUP_CFG : Nat := 0xF000600830
def F.BB_LOCKUP_CFG_CYCLES : Field := ⟨R.BB_LOCKUP_CFG, 15, 0⟩
/-- R714. -/
def R.BB_LOCKUP_LOG : Nat := 0xF000600834
def F.BB_LOCKUP_LOG_VALID : Field := ⟨R.BB_LOCKUP_LOG, 31, 31⟩
def F.BB_LOCKUP_LOG_MASTER : Field := ⟨R.BB_LOCKUP_LOG, 6, 0⟩
/-- R714. -/
def R.BB_THROTTLED (n : Nat) : Nat := 0xF000600840 + 0x4 * n
def F.BB_THROTTLED_MASTERS (n : Nat) : Field := ⟨R.BB_THROTTLED n, 31, 0⟩
/-- R714. -/
def R.BB_RULE_BASE_LO (n : Nat) : Nat := 0xF000601000 + 0x20 * n
def F.BB_RULE_BASE_LO_PAGE (n : Nat) : Field := ⟨R.BB_RULE_BASE_LO n, 31, 0⟩
/-- R714. -/
def R.BB_RULE_BASE_HI (n : Nat) : Nat := 0xF000601004 + 0x20 * n
def F.BB_RULE_BASE_HI_PAGE (n : Nat) : Field := ⟨R.BB_RULE_BASE_HI n, 3, 0⟩
/-- R714. -/
def R.BB_RULE_SIZE (n : Nat) : Nat := 0xF000601008 + 0x20 * n
def F.BB_RULE_SIZE_PAGES (n : Nat) : Field := ⟨R.BB_RULE_SIZE n, 31, 0⟩
/-- R714. -/
def R.BB_RULE_CTRL (n : Nat) : Nat := 0xF00060100C + 0x20 * n
def F.BB_RULE_CTRL_EN (n : Nat) : Field := ⟨R.BB_RULE_CTRL n, 31, 31⟩
def F.BB_RULE_CTRL_W (n : Nat) : Field := ⟨R.BB_RULE_CTRL n, 1, 1⟩
def F.BB_RULE_CTRL_R (n : Nat) : Field := ⟨R.BB_RULE_CTRL n, 0, 0⟩
/-- R714. -/
def R.BB_RULE_MASK (n : Nat) (k : Nat) : Nat := 0xF000601010 + 0x20 * n + 0x4 * k
def F.BB_RULE_MASK_MASTERS (n : Nat) (k : Nat) : Field := ⟨R.BB_RULE_MASK n k, 31, 0⟩
/-- R716. -/
def R.BB_LOCK (n : Nat) : Nat := 0xF000602000 + 0x4 * n
def F.BB_LOCK_GRANTED (n : Nat) : Field := ⟨R.BB_LOCK n, 31, 31⟩
def F.BB_LOCK_ABANDONED (n : Nat) : Field := ⟨R.BB_LOCK n, 30, 30⟩
def F.BB_LOCK_OWNER (n : Nat) : Field := ⟨R.BB_LOCK n, 6, 0⟩
/-- R716. -/
def R.BB_LOCK_PEEK (n : Nat) : Nat := 0xF000602100 + 0x4 * n
def F.BB_LOCK_PEEK_HELD (n : Nat) : Field := ⟨R.BB_LOCK_PEEK n, 31, 31⟩
def F.BB_LOCK_PEEK_ABANDONED (n : Nat) : Field := ⟨R.BB_LOCK_PEEK n, 30, 30⟩
def F.BB_LOCK_PEEK_OWNER (n : Nat) : Field := ⟨R.BB_LOCK_PEEK n, 6, 0⟩
/-! ### Registers of the MC page -/

/-- R760. -/
def R.MC_CTRL (n : Nat) : Nat := 0xF000700000 + 0x10000 * n
def F.MC_CTRL_EN (n : Nat) : Field := ⟨R.MC_CTRL n, 0, 0⟩
/-- R760. -/
def R.MC_CFG (n : Nat) : Nat := 0xF000700004 + 0x10000 * n
def F.MC_CFG_POP (n : Nat) : Field := ⟨R.MC_CFG n, 17, 16⟩
def F.MC_CFG_RANKS (n : Nat) : Field := ⟨R.MC_CFG n, 12, 12⟩
def F.MC_CFG_DENSITY (n : Nat) : Field := ⟨R.MC_CFG n, 9, 8⟩
def F.MC_CFG_RATE (n : Nat) : Field := ⟨R.MC_CFG n, 7, 0⟩
/-- R760. -/
def R.MC_STATUS (n : Nat) : Nat := 0xF000700008 + 0x10000 * n
def F.MC_STATUS_IGNORED (n : Nat) : Field := ⟨R.MC_STATUS n, 15, 15⟩
def F.MC_STATUS_REFUSED (n : Nat) : Field := ⟨R.MC_STATUS n, 14, 14⟩
def F.MC_STATUS_ENABLE_PENDING (n : Nat) : Field := ⟨R.MC_STATUS n, 13, 13⟩
def F.MC_STATUS_DEFER_LONG (n : Nat) : Field := ⟨R.MC_STATUS n, 12, 12⟩
def F.MC_STATUS_TRAIN_FAIL1 (n : Nat) : Field := ⟨R.MC_STATUS n, 9, 9⟩
def F.MC_STATUS_TRAIN_FAIL0 (n : Nat) : Field := ⟨R.MC_STATUS n, 8, 8⟩
def F.MC_STATUS_SC1_STATE (n : Nat) : Field := ⟨R.MC_STATUS n, 6, 4⟩
def F.MC_STATUS_SC0_STATE (n : Nat) : Field := ⟨R.MC_STATUS n, 2, 0⟩
/-- R760. -/
def R.MC_SCHED (n : Nat) : Nat := 0xF00070000C + 0x10000 * n
def F.MC_SCHED_HIT_LIMIT (n : Nat) : Field := ⟨R.MC_SCHED n, 20, 16⟩
def F.MC_SCHED_WQ_HI (n : Nat) : Field := ⟨R.MC_SCHED n, 13, 8⟩
def F.MC_SCHED_WQ_LO (n : Nat) : Field := ⟨R.MC_SCHED n, 5, 0⟩
/-- R760. -/
def R.MC_REF (n : Nat) : Nat := 0xF000700010 + 0x10000 * n
def F.MC_REF_POSTPONE_MAX (n : Nat) : Field := ⟨R.MC_REF n, 18, 16⟩
def F.MC_REF_TREFI_NS (n : Nat) : Field := ⟨R.MC_REF n, 15, 0⟩
/-- R760. -/
def R.MC_RETRAIN (n : Nat) : Nat := 0xF000700014 + 0x10000 * n
def F.MC_RETRAIN_INTERVAL_MS (n : Nat) : Field := ⟨R.MC_RETRAIN n, 15, 0⟩
/-- R760. -/
def R.MC_RH (n : Nat) : Nat := 0xF000700018 + 0x10000 * n
def F.MC_RH_RFM_EN (n : Nat) : Field := ⟨R.MC_RH n, 31, 31⟩
def F.MC_RH_THROTTLE_US (n : Nat) : Field := ⟨R.MC_RH n, 30, 24⟩
def F.MC_RH_WINDOW_MS (n : Nat) : Field := ⟨R.MC_RH n, 23, 16⟩
def F.MC_RH_RH_THRESH (n : Nat) : Field := ⟨R.MC_RH n, 15, 0⟩
/-- R760. -/
def R.MC_RH_LOG0 (n : Nat) : Nat := 0xF00070001C + 0x10000 * n
def F.MC_RH_LOG0_VALID (n : Nat) : Field := ⟨R.MC_RH_LOG0 n, 31, 31⟩
def F.MC_RH_LOG0_SC (n : Nat) : Field := ⟨R.MC_RH_LOG0 n, 24, 24⟩
def F.MC_RH_LOG0_RANK (n : Nat) : Field := ⟨R.MC_RH_LOG0 n, 23, 23⟩
def F.MC_RH_LOG0_BG (n : Nat) : Field := ⟨R.MC_RH_LOG0 n, 22, 20⟩
def F.MC_RH_LOG0_BANK (n : Nat) : Field := ⟨R.MC_RH_LOG0 n, 19, 18⟩
def F.MC_RH_LOG0_ROW (n : Nat) : Field := ⟨R.MC_RH_LOG0 n, 16, 0⟩
/-- R760. -/
def R.MC_RH_LOG1 (n : Nat) : Nat := 0xF000700020 + 0x10000 * n
def F.MC_RH_LOG1_RFM (n : Nat) : Field := ⟨R.MC_RH_LOG1 n, 9, 9⟩
def F.MC_RH_LOG1_THROTTLE (n : Nat) : Field := ⟨R.MC_RH_LOG1 n, 8, 8⟩
def F.MC_RH_LOG1_MASTER (n : Nat) : Field := ⟨R.MC_RH_LOG1 n, 6, 0⟩
/-- R760. -/
def R.MC_STATS (n : Nat) : Nat := 0xF000700024 + 0x10000 * n
def F.MC_STATS_RETRAINS (n : Nat) : Field := ⟨R.MC_STATS n, 31, 24⟩
def F.MC_STATS_RFMS (n : Nat) : Field := ⟨R.MC_STATS n, 23, 16⟩
def F.MC_STATS_THROTTLES (n : Nat) : Field := ⟨R.MC_STATS n, 15, 8⟩
def F.MC_STATS_FORCED_REF (n : Nat) : Field := ⟨R.MC_STATS n, 7, 0⟩
/-- R760. -/
def R.MC_SC_CE (n : Nat) (k : Nat) : Nat := 0xF000700040 + 0x10000 * n + 0x10 * k
def F.MC_SC_CE_COUNT (n : Nat) (k : Nat) : Field := ⟨R.MC_SC_CE n k, 31, 0⟩
/-- R760. -/
def R.MC_SC_UE (n : Nat) (k : Nat) : Nat := 0xF000700044 + 0x10000 * n + 0x10 * k
def F.MC_SC_UE_COUNT (n : Nat) (k : Nat) : Field := ⟨R.MC_SC_UE n k, 31, 0⟩
/-- R760. -/
def R.MC_SC_UE_ADDR_LO (n : Nat) (k : Nat) : Nat := 0xF000700048 + 0x10000 * n + 0x10 * k
def F.MC_SC_UE_ADDR_LO_ADDR (n : Nat) (k : Nat) : Field := ⟨R.MC_SC_UE_ADDR_LO n k, 31, 0⟩
/-- R760. -/
def R.MC_SC_UE_ADDR_HI (n : Nat) (k : Nat) : Nat := 0xF00070004C + 0x10000 * n + 0x10 * k
def F.MC_SC_UE_ADDR_HI_VALID (n : Nat) (k : Nat) : Field := ⟨R.MC_SC_UE_ADDR_HI n k, 31, 31⟩
def F.MC_SC_UE_ADDR_HI_ADDR (n : Nat) (k : Nat) : Field := ⟨R.MC_SC_UE_ADDR_HI n k, 15, 0⟩
/-! ### Registers of the STG page -/

/-- R796. -/
def R.STG_COLLIDED : Nat := 0xF000800000
def F.STG_COLLIDED_COUNT : Field := ⟨R.STG_COLLIDED, 31, 0⟩
/-- R796. -/
def R.STG_CE_COUNT : Nat := 0xF000800004
def F.STG_CE_COUNT_COUNT : Field := ⟨R.STG_CE_COUNT, 31, 0⟩
/-- R796. -/
def R.STG_UE_COUNT : Nat := 0xF000800008
def F.STG_UE_COUNT_COUNT : Field := ⟨R.STG_UE_COUNT, 31, 0⟩
/-- R796. -/
def R.STG_UE_ADDR_LO : Nat := 0xF00080000C
def F.STG_UE_ADDR_LO_ADDR : Field := ⟨R.STG_UE_ADDR_LO, 31, 0⟩
/-- R796. -/
def R.STG_UE_ADDR_HI : Nat := 0xF000800010
def F.STG_UE_ADDR_HI_VALID : Field := ⟨R.STG_UE_ADDR_HI, 31, 31⟩
def F.STG_UE_ADDR_HI_ADDR : Field := ⟨R.STG_UE_ADDR_HI, 15, 0⟩
/-- R796. -/
def R.STG_DOWN_ADDR_LO : Nat := 0xF000800014
def F.STG_DOWN_ADDR_LO_ADDR : Field := ⟨R.STG_DOWN_ADDR_LO, 31, 0⟩
/-- R796. -/
def R.STG_DOWN_ADDR_HI : Nat := 0xF000800018
def F.STG_DOWN_ADDR_HI_VALID : Field := ⟨R.STG_DOWN_ADDR_HI, 31, 31⟩
def F.STG_DOWN_ADDR_HI_ADDR : Field := ⟨R.STG_DOWN_ADDR_HI, 15, 0⟩
/-- R796. -/
def R.STG_SCRUB : Nat := 0xF000800020
def F.STG_SCRUB_INTERVAL_S : Field := ⟨R.STG_SCRUB, 23, 8⟩
def F.STG_SCRUB_EN : Field := ⟨R.STG_SCRUB, 0, 0⟩
/-- R796. -/
def R.STG_BANK (n : Nat) : Nat := 0xF000800100 + 0x4 * n
def F.STG_BANK_REFUSED (n : Nat) : Field := ⟨R.STG_BANK n, 8, 8⟩
def F.STG_BANK_STATE (n : Nat) : Field := ⟨R.STG_BANK n, 6, 4⟩
def F.STG_BANK_REQ (n : Nat) : Field := ⟨R.STG_BANK n, 1, 0⟩
/-! ### Registers of the SHD page -/

/-- R839. -/
def R.SHD_STATUS : Nat := 0xF000900000
def F.SHD_STATUS_REFUSE_CAUSE : Field := ⟨R.SHD_STATUS, 15, 12⟩
def F.SHD_STATUS_NO_KEY : Field := ⟨R.SHD_STATUS, 5, 5⟩
def F.SHD_STATUS_HALTED : Field := ⟨R.SHD_STATUS, 4, 4⟩
def F.SHD_STATUS_KEY_ERR : Field := ⟨R.SHD_STATUS, 3, 3⟩
def F.SHD_STATUS_KEY_BUSY : Field := ⟨R.SHD_STATUS, 2, 2⟩
def F.SHD_STATUS_REFUSED : Field := ⟨R.SHD_STATUS, 1, 1⟩
def F.SHD_STATUS_DRAINED : Field := ⟨R.SHD_STATUS, 0, 0⟩
/-- R839. -/
def R.SHD_COMMIT : Nat := 0xF000900004
def F.SHD_COMMIT_GO : Field := ⟨R.SHD_COMMIT, 0, 0⟩
/-- R839. -/
def R.SHD_VERSION : Nat := 0xF000900008
def F.SHD_VERSION_VERSION : Field := ⟨R.SHD_VERSION, 15, 0⟩
/-- R839. -/
def R.SHD_KEY_LOAD : Nat := 0xF00090000C
def F.SHD_KEY_LOAD_SLOTS : Field := ⟨R.SHD_KEY_LOAD, 15, 0⟩
/-- R839. -/
def R.SHD_KEY_STATUS : Nat := 0xF000900010
def F.SHD_KEY_STATUS_STAGED : Field := ⟨R.SHD_KEY_STATUS, 31, 16⟩
def F.SHD_KEY_STATUS_ACTIVE : Field := ⟨R.SHD_KEY_STATUS, 15, 0⟩
/-- R839. -/
def R.SHD_ENG_FAIL (n : Nat) : Nat := 0xF000900020 + 0x4 * n
def F.SHD_ENG_FAIL_COUNT (n : Nat) : Field := ⟨R.SHD_ENG_FAIL n, 31, 0⟩
/-- R839. -/
def R.SHD_ALARM_INFO : Nat := 0xF000900040
def F.SHD_ALARM_INFO_VALID : Field := ⟨R.SHD_ALARM_INFO, 31, 31⟩
def F.SHD_ALARM_INFO_ENGINE : Field := ⟨R.SHD_ALARM_INFO, 18, 16⟩
def F.SHD_ALARM_INFO_REGION : Field := ⟨R.SHD_ALARM_INFO, 11, 8⟩
def F.SHD_ALARM_INFO_MASTER : Field := ⟨R.SHD_ALARM_INFO, 6, 0⟩
/-- R839. -/
def R.SHD_ALARM_ADDR_LO : Nat := 0xF000900044
def F.SHD_ALARM_ADDR_LO_ADDR : Field := ⟨R.SHD_ALARM_ADDR_LO, 31, 0⟩
/-- R839. -/
def R.SHD_ALARM_ADDR_HI : Nat := 0xF000900048
def F.SHD_ALARM_ADDR_HI_ADDR : Field := ⟨R.SHD_ALARM_ADDR_HI, 15, 0⟩
/-- R839. -/
def R.SHD_HALT_LOG : Nat := 0xF000900050
def F.SHD_HALT_LOG_VALID : Field := ⟨R.SHD_HALT_LOG, 31, 31⟩
def F.SHD_HALT_LOG_ENGINE : Field := ⟨R.SHD_HALT_LOG, 18, 16⟩
def F.SHD_HALT_LOG_REGION : Field := ⟨R.SHD_HALT_LOG, 11, 8⟩
def F.SHD_HALT_LOG_MASTER : Field := ⟨R.SHD_HALT_LOG, 6, 0⟩
/-- R839. -/
def R.SHD_HALT_ADDR_LO : Nat := 0xF000900054
def F.SHD_HALT_ADDR_LO_ADDR : Field := ⟨R.SHD_HALT_ADDR_LO, 31, 0⟩
/-- R839. -/
def R.SHD_HALT_ADDR_HI : Nat := 0xF000900058
def F.SHD_HALT_ADDR_HI_ADDR : Field := ⟨R.SHD_HALT_ADDR_HI, 15, 0⟩
/-- R839. -/
def R.SHD_RGN_BASE (n : Nat) : Nat := 0xF000900100 + 0x20 * n
def F.SHD_RGN_BASE_PAGE (n : Nat) : Field := ⟨R.SHD_RGN_BASE n, 26, 0⟩
/-- R839. -/
def R.SHD_RGN_SIZE (n : Nat) : Nat := 0xF000900104 + 0x20 * n
def F.SHD_RGN_SIZE_PAGES (n : Nat) : Field := ⟨R.SHD_RGN_SIZE n, 27, 0⟩
/-- R839. -/
def R.SHD_RGN_CTRL (n : Nat) : Nat := 0xF000900108 + 0x20 * n
def F.SHD_RGN_CTRL_EN (n : Nat) : Field := ⟨R.SHD_RGN_CTRL n, 31, 31⟩
def F.SHD_RGN_CTRL_KEY (n : Nat) : Field := ⟨R.SHD_RGN_CTRL n, 19, 16⟩
def F.SHD_RGN_CTRL_ACTION (n : Nat) : Field := ⟨R.SHD_RGN_CTRL n, 8, 8⟩
def F.SHD_RGN_CTRL_SECTOR (n : Nat) : Field := ⟨R.SHD_RGN_CTRL n, 4, 4⟩
def F.SHD_RGN_CTRL_MODE (n : Nat) : Field := ⟨R.SHD_RGN_CTRL n, 1, 0⟩
/-- R839. -/
def R.SHD_RGN_LBN_LO (n : Nat) : Nat := 0xF00090010C + 0x20 * n
def F.SHD_RGN_LBN_LO_LBN_BASE (n : Nat) : Field := ⟨R.SHD_RGN_LBN_LO n, 31, 0⟩
/-- R839. -/
def R.SHD_RGN_LBN_HI (n : Nat) : Nat := 0xF000900110 + 0x20 * n
def F.SHD_RGN_LBN_HI_LBN_BASE (n : Nat) : Field := ⟨R.SHD_RGN_LBN_HI n, 31, 0⟩
/-- R839. -/
def R.SHD_RGN_TAG (n : Nat) : Nat := 0xF000900114 + 0x20 * n
def F.SHD_RGN_TAG_TAG_BASE (n : Nat) : Field := ⟨R.SHD_RGN_TAG n, 27, 0⟩
/-! ### Registers of the PSM page -/

/-- R875. -/
def R.PSM_STATUS : Nat := 0xF000A00000
def F.PSM_STATUS_FOUND_INCOMPLETE : Field := ⟨R.PSM_STATUS, 14, 14⟩
def F.PSM_STATUS_TRIM_BAD : Field := ⟨R.PSM_STATUS, 13, 13⟩
def F.PSM_STATUS_BOOT_BLANK : Field := ⟨R.PSM_STATUS, 12, 12⟩
def F.PSM_STATUS_ERR_CAUSE : Field := ⟨R.PSM_STATUS, 11, 8⟩
def F.PSM_STATUS_ERR : Field := ⟨R.PSM_STATUS, 3, 3⟩
def F.PSM_STATUS_KEY_BUSY : Field := ⟨R.PSM_STATUS, 2, 2⟩
def F.PSM_STATUS_SUSPENDED : Field := ⟨R.PSM_STATUS, 1, 1⟩
def F.PSM_STATUS_BUSY : Field := ⟨R.PSM_STATUS, 0, 0⟩
/-- R875. -/
def R.PSM_CMD : Nat := 0xF000A00004
def F.PSM_CMD_GO : Field := ⟨R.PSM_CMD, 31, 31⟩
def F.PSM_CMD_OP : Field := ⟨R.PSM_CMD, 26, 24⟩
def F.PSM_CMD_UNITS_M1 : Field := ⟨R.PSM_CMD, 3, 0⟩
/-- R875. -/
def R.PSM_ADDR : Nat := 0xF000A00008
def F.PSM_ADDR_ADDR : Field := ⟨R.PSM_ADDR, 22, 0⟩
/-- R875. -/
def R.PSM_SECTOR_SEL : Nat := 0xF000A0000C
def F.PSM_SECTOR_SEL_SECTOR : Field := ⟨R.PSM_SECTOR_SEL, 10, 0⟩
/-- R875. -/
def R.PSM_SECTOR_STATE : Nat := 0xF000A00010
def F.PSM_SECTOR_STATE_ERASE_COUNT : Field := ⟨R.PSM_SECTOR_STATE, 31, 16⟩
def F.PSM_SECTOR_STATE_WORN : Field := ⟨R.PSM_SECTOR_STATE, 8, 8⟩
def F.PSM_SECTOR_STATE_STATE : Field := ⟨R.PSM_SECTOR_STATE, 2, 0⟩
/-- R875. -/
def R.PSM_KEY_CMD : Nat := 0xF000A00014
def F.PSM_KEY_CMD_GO : Field := ⟨R.PSM_KEY_CMD, 31, 31⟩
def F.PSM_KEY_CMD_OP : Field := ⟨R.PSM_KEY_CMD, 9, 8⟩
def F.PSM_KEY_CMD_SLOT : Field := ⟨R.PSM_KEY_CMD, 3, 0⟩
/-- R875. -/
def R.PSM_CE : Nat := 0xF000A00020
def F.PSM_CE_COUNT : Field := ⟨R.PSM_CE, 31, 0⟩
/-- R875. -/
def R.PSM_UE : Nat := 0xF000A00024
def F.PSM_UE_COUNT : Field := ⟨R.PSM_UE, 31, 0⟩
/-- R875. -/
def R.PSM_UE_ADDR : Nat := 0xF000A00028
def F.PSM_UE_ADDR_VALID : Field := ⟨R.PSM_UE_ADDR, 31, 31⟩
def F.PSM_UE_ADDR_ADDR : Field := ⟨R.PSM_UE_ADDR, 22, 0⟩
/-- R875. -/
def R.PSM_KEY_COPY (n : Nat) : Nat := 0xF000A00080 + 0x4 * n
def F.PSM_KEY_COPY_NEWEST_B (n : Nat) : Field := ⟨R.PSM_KEY_COPY n, 2, 2⟩
def F.PSM_KEY_COPY_VALID_B (n : Nat) : Field := ⟨R.PSM_KEY_COPY n, 1, 1⟩
def F.PSM_KEY_COPY_VALID_A (n : Nat) : Field := ⟨R.PSM_KEY_COPY n, 0, 0⟩
/-- R875. -/
def R.PSM_KEY_GEN (n : Nat) : Nat := 0xF000A000C0 + 0x4 * n
def F.PSM_KEY_GEN_GEN (n : Nat) : Field := ⟨R.PSM_KEY_GEN n, 31, 0⟩
/-- R875. -/
def R.PSM_BUF (n : Nat) : Nat := 0xF000A00100 + 0x4 * n
def F.PSM_BUF_DATA (n : Nat) : Field := ⟨R.PSM_BUF n, 31, 0⟩
/-- R875. -/
def R.PSM_KEY_BUF (n : Nat) : Nat := 0xF000A00200 + 0x4 * n
def F.PSM_KEY_BUF_DATA (n : Nat) : Field := ⟨R.PSM_KEY_BUF n, 31, 0⟩
/-! ### Registers of the EVC page -/

/-- R907. -/
def R.EVC_STATUS : Nat := 0xF000B00000
def F.EVC_STATUS_LAST_TAG : Field := ⟨R.EVC_STATUS, 23, 16⟩
def F.EVC_STATUS_BAD_TARGET : Field := ⟨R.EVC_STATUS, 3, 3⟩
def F.EVC_STATUS_TIMER_RUN : Field := ⟨R.EVC_STATUS, 2, 2⟩
def F.EVC_STATUS_LOST_ANY : Field := ⟨R.EVC_STATUS, 1, 1⟩
def F.EVC_STATUS_HOST_PENDING : Field := ⟨R.EVC_STATUS, 0, 0⟩
/-- R907. -/
def R.EVC_HOST_MOD : Nat := 0xF000B00004
def F.EVC_HOST_MOD_COUNT : Field := ⟨R.EVC_HOST_MOD, 31, 24⟩
def F.EVC_HOST_MOD_DELAY_NS : Field := ⟨R.EVC_HOST_MOD, 19, 0⟩
/-- R907. -/
def R.EVC_RAISE : Nat := 0xF000B00008
def F.EVC_RAISE_GO : Field := ⟨R.EVC_RAISE, 31, 31⟩
def F.EVC_RAISE_SOURCE : Field := ⟨R.EVC_RAISE, 7, 0⟩
/-- R907. -/
def R.EVC_MERGED : Nat := 0xF000B0000C
def F.EVC_MERGED_COUNT : Field := ⟨R.EVC_MERGED, 31, 0⟩
/-- R907. -/
def R.EVC_MSGS : Nat := 0xF000B00010
def F.EVC_MSGS_COUNT : Field := ⟨R.EVC_MSGS, 31, 0⟩
/-- R907. -/
def R.EVC_SRC_EVT (n : Nat) : Nat := 0xF000B00100 + 0x4 * n
def F.EVC_SRC_EVT_EN (n : Nat) : Field := ⟨R.EVC_SRC_EVT n, 31, 31⟩
def F.EVC_SRC_EVT_AUTO_END (n : Nat) : Field := ⟨R.EVC_SRC_EVT n, 30, 30⟩
def F.EVC_SRC_EVT_TARGET (n : Nat) : Field := ⟨R.EVC_SRC_EVT n, 4, 0⟩
/-- R907. -/
def R.EVC_SRC_BLK (n : Nat) : Nat := 0xF000B00200 + 0x4 * n
def F.EVC_SRC_BLK_EN (n : Nat) : Field := ⟨R.EVC_SRC_BLK n, 31, 31⟩
def F.EVC_SRC_BLK_AUTO_END (n : Nat) : Field := ⟨R.EVC_SRC_BLK n, 30, 30⟩
def F.EVC_SRC_BLK_TARGET (n : Nat) : Field := ⟨R.EVC_SRC_BLK n, 4, 0⟩
/-- R907. -/
def R.EVC_STATE (n : Nat) : Nat := 0xF000B00500 + 0x4 * n
def F.EVC_STATE_STATE (n : Nat) : Field := ⟨R.EVC_STATE n, 31, 0⟩
/-- R907. -/
def R.EVC_LOST (n : Nat) : Nat := 0xF000B00600 + 0x4 * n
def F.EVC_LOST_LOST (n : Nat) : Field := ⟨R.EVC_LOST n, 31, 0⟩
/-- R907. -/
def R.EVC_END (n : Nat) : Nat := 0xF000B00620 + 0x4 * n
def F.EVC_END_END (n : Nat) : Field := ⟨R.EVC_END n, 31, 0⟩
/-! ### Registers of the RAS page -/

/-- R932. -/
def R.RAS_STATUS : Nat := 0xF000C00000
def F.RAS_STATUS_INJ_REFUSED : Field := ⟨R.RAS_STATUS, 0, 0⟩
/-- R932. -/
def R.RAS_WDOG : Nat := 0xF000C00004
def F.RAS_WDOG_LIMIT_MS : Field := ⟨R.RAS_WDOG, 15, 0⟩
/-- R932. -/
def R.RAS_WDOG_KICK : Nat := 0xF000C00008
def F.RAS_WDOG_KICK_KEY : Field := ⟨R.RAS_WDOG_KICK, 15, 8⟩
def F.RAS_WDOG_KICK_KICK : Field := ⟨R.RAS_WDOG_KICK, 0, 0⟩
/-- R932. -/
def R.RAS_WDOG_LEFT : Nat := 0xF000C0000C
def F.RAS_WDOG_LEFT_MS : Field := ⟨R.RAS_WDOG_LEFT, 15, 0⟩
/-- R932. -/
def R.RAS_INJ_CTRL : Nat := 0xF000C00010
def F.RAS_INJ_CTRL_ARM : Field := ⟨R.RAS_INJ_CTRL, 31, 31⟩
def F.RAS_INJ_CTRL_MODE : Field := ⟨R.RAS_INJ_CTRL, 30, 30⟩
def F.RAS_INJ_CTRL_ADDR_EN : Field := ⟨R.RAS_INJ_CTRL, 29, 29⟩
def F.RAS_INJ_CTRL_KIND : Field := ⟨R.RAS_INJ_CTRL, 27, 24⟩
def F.RAS_INJ_CTRL_TARGET : Field := ⟨R.RAS_INJ_CTRL, 23, 16⟩
def F.RAS_INJ_CTRL_INSTANCE : Field := ⟨R.RAS_INJ_CTRL, 11, 0⟩
/-- R932. -/
def R.RAS_INJ_ADDR_LO : Nat := 0xF000C00014
def F.RAS_INJ_ADDR_LO_ADDR : Field := ⟨R.RAS_INJ_ADDR_LO, 31, 0⟩
/-- R932. -/
def R.RAS_INJ_ADDR_HI : Nat := 0xF000C00018
def F.RAS_INJ_ADDR_HI_ADDR : Field := ⟨R.RAS_INJ_ADDR_HI, 15, 0⟩
/-- R932. -/
def R.RAS_INJ_KEY : Nat := 0xF000C0001C
def F.RAS_INJ_KEY_KEY : Field := ⟨R.RAS_INJ_KEY, 7, 0⟩
/-- R932. -/
def R.RAS_SCRUB_MC : Nat := 0xF000C00020
def F.RAS_SCRUB_MC_EN : Field := ⟨R.RAS_SCRUB_MC, 31, 31⟩
def F.RAS_SCRUB_MC_INTERVAL_MIN : Field := ⟨R.RAS_SCRUB_MC, 15, 0⟩
/-- R932. -/
def R.RAS_SCRUB_BRAM : Nat := 0xF000C00024
def F.RAS_SCRUB_BRAM_EN : Field := ⟨R.RAS_SCRUB_BRAM, 31, 31⟩
def F.RAS_SCRUB_BRAM_INTERVAL_S : Field := ⟨R.RAS_SCRUB_BRAM, 15, 0⟩
/-- R932. -/
def R.RAS_SCRUB_PSM : Nat := 0xF000C00028
def F.RAS_SCRUB_PSM_EN : Field := ⟨R.RAS_SCRUB_PSM, 31, 31⟩
def F.RAS_SCRUB_PSM_INTERVAL_H : Field := ⟨R.RAS_SCRUB_PSM, 15, 0⟩
/-- R932. -/
def R.RAS_SCRUB_STATUS : Nat := 0xF000C0002C
def F.RAS_SCRUB_STATUS_MC_PASSES : Field := ⟨R.RAS_SCRUB_STATUS, 31, 16⟩
def F.RAS_SCRUB_STATUS_BRAM_PASSES : Field := ⟨R.RAS_SCRUB_STATUS, 15, 8⟩
def F.RAS_SCRUB_STATUS_PSM_PASSES : Field := ⟨R.RAS_SCRUB_STATUS, 7, 0⟩
/-- R932. -/
def R.RAS_LOG_STATUS : Nat := 0xF000C00040
def F.RAS_LOG_STATUS_DROPPED : Field := ⟨R.RAS_LOG_STATUS, 31, 16⟩
def F.RAS_LOG_STATUS_COUNT : Field := ⟨R.RAS_LOG_STATUS, 5, 0⟩
/-- R932. -/
def R.RAS_LOG_POP : Nat := 0xF000C00044
def F.RAS_LOG_POP_POP : Field := ⟨R.RAS_LOG_POP, 0, 0⟩
/-- R932. -/
def R.RAS_LOG_HEAD (n : Nat) : Nat := 0xF000C00060 + 0x4 * n
def F.RAS_LOG_HEAD_ENTRY (n : Nat) : Field := ⟨R.RAS_LOG_HEAD n, 31, 0⟩
/-- R932. -/
def R.RAS_DET_CE (n : Nat) : Nat := 0xF000C00104 + 0x4 * n
def F.RAS_DET_CE_COUNT (n : Nat) : Field := ⟨R.RAS_DET_CE n, 31, 0⟩
/-- R932. -/
def R.RAS_DET_UE (n : Nat) : Nat := 0xF000C00144 + 0x4 * n
def F.RAS_DET_UE_COUNT (n : Nat) : Field := ⟨R.RAS_DET_UE n, 31, 0⟩
/-! ### Registers of the IDP page -/

/-- R977. -/
def R.ID_DEVICE : Nat := 0xF000FF0000
def F.ID_DEVICE_DEVICE_CODE : Field := ⟨R.ID_DEVICE, 31, 0⟩
/-- R977. -/
def R.ID_REVISION : Nat := 0xF000FF0004
def F.ID_REVISION_REVISION : Field := ⟨R.ID_REVISION, 7, 0⟩
/-- R977. -/
def R.ID_SERIAL (n : Nat) : Nat := 0xF000FF0008 + 0x4 * n
def F.ID_SERIAL_SERIAL (n : Nat) : Field := ⟨R.ID_SERIAL n, 31, 0⟩

def regRows_tt0 : List RegRow :=
  [ ⟨0xF000000000, 1, 0x4, 1, 0x4, [⟨15, 4, .rw, 0x1, .por⟩, ⟨2, 2, .rw, 0x1, .por⟩, ⟨1, 0, .rw, 0x0, .por⟩]⟩,
    ⟨0xF000000004, 1, 0x4, 1, 0x4, [⟨23, 16, .ro, 0x0, .warm⟩, ⟨7, 7, .ro, 0x0, .warm⟩, ⟨6, 6, .w1c, 0x0, .warm⟩, ⟨5, 5, .w1c, 0x0, .warm⟩, ⟨4, 4, .ro, 0x0, .warm⟩, ⟨3, 3, .ro, 0x0, .por⟩, ⟨2, 2, .ro, 0x0, .warm⟩, ⟨1, 1, .ro, 0x0, .warm⟩, ⟨0, 0, .ro, 0x0, .por⟩]⟩,
    ⟨0xF000000008, 1, 0x4, 1, 0x4, [⟨31, 0, .ro, 0x0, .por⟩]⟩,
    ⟨0xF00000000C, 1, 0x4, 1, 0x4, [⟨31, 0, .ro, 0x0, .por⟩]⟩,
    ⟨0xF000000010, 1, 0x4, 1, 0x4, [⟨31, 0, .rw, 0x0, .warm⟩]⟩,
    ⟨0xF000000014, 1, 0x4, 1, 0x4, [⟨31, 0, .rw, 0x0, .warm⟩]⟩,
    ⟨0xF000000018, 1, 0x4, 1, 0x4, [⟨31, 0, .rw, 0x0, .warm⟩]⟩,
    ⟨0xF00000001C, 1, 0x4, 1, 0x4, [⟨1, 1, .w1c, 0x0, .warm⟩, ⟨0, 0, .w1s, 0x0, .warm⟩]⟩,
    ⟨0xF000000020, 1, 0x4, 1, 0x4, [⟨30, 19, .rw, 0x0, .por⟩, ⟨18, 0, .rw, 0x2710, .por⟩]⟩,
    ⟨0xF000000024, 1, 0x4, 1, 0x4, [⟨31, 0, .rw, 0x0, .warm⟩]⟩,
    ⟨0xF000000028, 1, 0x4, 1, 0x4, [⟨31, 0, .rw, 0x0, .warm⟩]⟩,
    ⟨0xF00000002C, 1, 0x4, 1, 0x4, [⟨31, 0, .rw, 0x0, .warm⟩]⟩,
    ⟨0xF000000030, 1, 0x4, 1, 0x4, [⟨15, 8, .rw, 0xC8, .warm⟩, ⟨2, 2, .wo, 0x0, .warm⟩, ⟨1, 1, .rw, 0x0, .warm⟩, ⟨0, 0, .wo, 0x0, .warm⟩]⟩,
    ⟨0xF000000034, 1, 0x4, 1, 0x4, [⟨31, 0, .ro, 0x0, .warm⟩]⟩,
    ⟨0xF000000038, 1, 0x4, 1, 0x4, [⟨31, 0, .ro, 0x0, .warm⟩]⟩,
    ⟨0xF000000040, 1, 0x4, 1, 0x4, [⟨13, 8, .rw, 0x0, .warm⟩, ⟨1, 1, .rw, 0x0, .warm⟩, ⟨0, 0, .rw, 0x0, .warm⟩]⟩,
    ⟨0xF000000044, 1, 0x4, 1, 0x4, [⟨31, 0, .ro, 0x0, .warm⟩]⟩,
    ⟨0xF000000048, 1, 0x4, 1, 0x4, [⟨15, 0, .ro, 0x0, .warm⟩]⟩,
    ⟨0xF00000004C, 1, 0x4, 1, 0x4, [⟨1, 1, .w1c, 0x0, .warm⟩, ⟨0, 0, .ro, 0x0, .warm⟩]⟩,
    ⟨0xF000000800, 8, 0x4, 1, 0x4, [⟨16, 16, .w1c, 0x0, .por⟩, ⟨15, 8, .rw, 0x0, .por⟩, ⟨3, 2, .rw, 0x1, .por⟩, ⟨1, 1, .rw, 0x0, .por⟩, ⟨0, 0, .rw, 0x0, .por⟩]⟩ ]

def regRows_tt1 : List RegRow :=
  [ ⟨0xF000000840, 4, 0x8, 2, 0x4, [⟨31, 0, .rw, 0x0, .por⟩]⟩,
    ⟨0xF000000C00, 16, 0x4, 1, 0x4, [⟨31, 0, .ro, 0x0, .por⟩]⟩,
    ⟨0xF000000C40, 48, 0x4, 1, 0x4, [⟨31, 0, .rw, 0x0, .por⟩]⟩ ]

/-- The rows of the TT page. -/
def regRows_tt : List RegRow := regRows_tt0 ++ regRows_tt1

def regRows_fil0 : List RegRow :=
  [ ⟨0xF000010000, 1, 0x4, 1, 0x4, [⟨9, 9, .wo, 0x0, .warm⟩, ⟨8, 8, .wo, 0x0, .warm⟩, ⟨5, 4, .rw, 0x0, .warm⟩, ⟨0, 0, .rw, 0x1, .warm⟩]⟩,
    ⟨0xF000010004, 1, 0x4, 1, 0x4, [⟨23, 16, .ro, 0x0, .cold⟩, ⟨10, 8, .ro, 0x5, .warm⟩, ⟨7, 5, .ro, 0x1, .warm⟩, ⟨4, 4, .ro, 0x0, .warm⟩, ⟨3, 3, .ro, 0x0, .warm⟩, ⟨2, 2, .ro, 0x0, .warm⟩, ⟨1, 1, .w1c, 0x0, .warm⟩]⟩,
    ⟨0xF000010010, 1, 0x4, 1, 0x4, [⟨31, 24, .rc, 0x0, .warm⟩, ⟨23, 16, .rc, 0x0, .warm⟩, ⟨15, 0, .rc, 0x0, .warm⟩]⟩,
    ⟨0xF000010014, 1, 0x4, 1, 0x4, [⟨31, 24, .rc, 0x0, .warm⟩, ⟨23, 16, .rc, 0x0, .warm⟩, ⟨15, 0, .rc, 0x0, .warm⟩]⟩ ]

/-- The rows of the FIL page. -/
def regRows_fil : List RegRow := regRows_fil0

def regRows_rst0 : List RegRow :=
  [ ⟨0xF000020000, 1, 0x4, 1, 0x4, [⟨4, 4, .ro, 0x0, .por⟩, ⟨3, 0, .ro, 0x0, .por⟩]⟩,
    ⟨0xF000020004, 1, 0x4, 1, 0x4, [⟨15, 8, .wo, 0x0, .warm⟩, ⟨0, 0, .wo, 0x0, .warm⟩]⟩,
    ⟨0xF000020008, 1, 0x4, 1, 0x4, [⟨31, 31, .wo, 0x0, .warm⟩, ⟨30, 30, .ro, 0x0, .warm⟩, ⟨5, 0, .rw, 0x0, .warm⟩]⟩,
    ⟨0xF00002000C, 1, 0x4, 1, 0x4, [⟨0, 0, .wo, 0x0, .warm⟩]⟩,
    ⟨0xF000020010, 1, 0x4, 1, 0x4, [⟨8, 8, .ro, 0x0, .warm⟩, ⟨6, 4, .ro, 0x3, .warm⟩, ⟨2, 0, .ro, 0x0, .por⟩]⟩,
    ⟨0xF000020014, 1, 0x4, 1, 0x4, [⟨15, 8, .wo, 0x0, .warm⟩, ⟨0, 0, .wo, 0x0, .warm⟩]⟩,
    ⟨0xF000020018, 1, 0x4, 1, 0x4, [⟨31, 0, .ro, 0x7D0, .warm⟩]⟩,
    ⟨0xF000020020, 1, 0x4, 1, 0x4, [⟨4, 4, .rw, 0x0, .warm⟩, ⟨1, 0, .rw, 0x0, .warm⟩]⟩,
    ⟨0xF000020024, 1, 0x4, 1, 0x4, [⟨3, 3, .w1c, 0x0, .por⟩, ⟨2, 2, .w1c, 0x0, .warm⟩, ⟨1, 0, .ro, 0x0, .warm⟩]⟩ ]

/-- The rows of the RST page. -/
def regRows_rst : List RegRow := regRows_rst0

def regRows_svp0 : List RegRow :=
  [ ⟨0xF000030000, 1, 0x4, 1, 0x4, [⟨29, 24, .ro, 0x0, .warm⟩, ⟨23, 16, .ro, 0x0, .warm⟩, ⟨12, 12, .w1c, 0x0, .warm⟩, ⟨11, 9, .ro, 0x0, .warm⟩, ⟨8, 8, .w1c, 0x0, .warm⟩, ⟨6, 6, .ro, 0x0, .warm⟩, ⟨5, 5, .ro, 0x0, .fab⟩, ⟨4, 4, .ro, 0x0, .warm⟩, ⟨3, 3, .ro, 0x0, .warm⟩, ⟨2, 2, .ro, 0x0, .cold⟩, ⟨1, 1, .ro, 0x0, .cold⟩, ⟨0, 0, .ro, 0x0, .warm⟩]⟩,
    ⟨0xF000030008, 1, 0x4, 1, 0x4, [⟨31, 16, .rc, 0x0, .warm⟩, ⟨15, 0, .rc, 0x0, .warm⟩]⟩,
    ⟨0xF000030100, 1, 0x4, 1, 0x4, [⟨31, 16, .ro, 0x0, .warm⟩, ⟨1, 1, .ro, 0x0, .cold⟩, ⟨0, 0, .ro, 0x0, .warm⟩]⟩,
    ⟨0xF000030104, 1, 0x4, 1, 0x4, [⟨0, 0, .rw, 0x0, .cold⟩]⟩,
    ⟨0xF000030800, 1, 0x4, 1, 0x4, [⟨12, 8, .rw, 0x14, .warm⟩, ⟨5, 4, .rw, 0x2, .warm⟩, ⟨0, 0, .rw, 0x0, .warm⟩]⟩,
    ⟨0xF000030804, 1, 0x4, 1, 0x4, [⟨31, 31, .wo, 0x0, .warm⟩, ⟨30, 30, .rw, 0x0, .warm⟩, ⟨29, 29, .rw, 0x0, .warm⟩, ⟨28, 28, .rw, 0x0, .warm⟩, ⟨27, 27, .rw, 0x0, .warm⟩, ⟨26, 26, .rw, 0x0, .warm⟩, ⟨24, 16, .rw, 0x0, .warm⟩, ⟨7, 0, .rw, 0x0, .warm⟩]⟩,
    ⟨0xF000030808, 1, 0x4, 1, 0x4, [⟨31, 0, .rw, 0x0, .warm⟩]⟩,
    ⟨0xF00003080C, 1, 0x4, 1, 0x4, [⟨4, 4, .ro, 0x0, .warm⟩, ⟨3, 3, .w1c, 0x0, .warm⟩, ⟨2, 2, .w1c, 0x0, .warm⟩, ⟨1, 1, .ro, 0x0, .warm⟩, ⟨0, 0, .ro, 0x0, .warm⟩]⟩,
    ⟨0xF000030900, 64, 0x4, 1, 0x4, [⟨31, 0, .rw, 0x0, .warm⟩]⟩ ]

/-- The rows of the SVP page. -/
def regRows_svp : List RegRow := regRows_svp0

def regRows_cfg0 : List RegRow :=
  [ ⟨0xF000040000, 1, 0x4, 1, 0x4, [⟨31, 31, .wo, 0x0, .warm⟩, ⟨30, 30, .wo, 0x0, .warm⟩, ⟨29, 29, .wo, 0x0, .warm⟩, ⟨4, 4, .rw, 0x0, .warm⟩, ⟨1, 0, .rw, 0x0, .warm⟩]⟩,
    ⟨0xF000040004, 1, 0x4, 1, 0x4, [⟨31, 0, .rw, 0x0, .warm⟩]⟩,
    ⟨0xF000040008, 1, 0x4, 1, 0x4, [⟨11, 8, .ro, 0x0, .warm⟩, ⟨7, 6, .ro, 0x0, .warm⟩, ⟨5, 5, .ro, 0x0, .fab⟩, ⟨4, 4, .w1c, 0x0, .warm⟩, ⟨3, 3, .w1c, 0x0, .warm⟩, ⟨1, 1, .ro, 0x0, .fab⟩, ⟨0, 0, .ro, 0x0, .warm⟩]⟩,
    ⟨0xF00004000C, 1, 0x4, 1, 0x4, [⟨31, 0, .ro, 0x0, .warm⟩]⟩,
    ⟨0xF000040010, 1, 0x4, 1, 0x4, [⟨31, 0, .ro, 0x0, .warm⟩]⟩,
    ⟨0xF000040018, 2, 0x4, 1, 0x4, [⟨31, 0, .ro, 0x0, .fab⟩]⟩,
    ⟨0xF000040020, 1, 0x4, 1, 0x4, [⟨15, 8, .rw, 0x3C, .warm⟩, ⟨1, 1, .rw, 0x0, .warm⟩, ⟨0, 0, .rw, 0x1, .warm⟩]⟩,
    ⟨0xF000040024, 1, 0x4, 1, 0x4, [⟨24, 24, .w1c, 0x0, .warm⟩, ⟨23, 0, .w1c, 0x0, .warm⟩]⟩,
    ⟨0xF000040100, 24, 0x4, 1, 0x4, [⟨31, 31, .rw, 0x0, .warm⟩, ⟨30, 30, .rw, 0x0, .warm⟩, ⟨27, 0, .rw, 0x0, .warm⟩]⟩,
    ⟨0xF000041000, 1024, 0x4, 1, 0x4, [⟨31, 0, .wo, 0x0, .none⟩]⟩ ]

/-- The rows of the CFG page. -/
def regRows_cfg : List RegRow := regRows_cfg0

def regRows_rgn0 : List RegRow :=
  [ ⟨0xF000050000, 24, 0x4, 1, 0x4, [⟨16, 16, .rw, 0x1, .warm⟩, ⟨15, 8, .rw, 0xA, .warm⟩, ⟨1, 0, .wo, 0x0, .warm⟩]⟩,
    ⟨0xF000050080, 24, 0x4, 1, 0x4, [⟨15, 12, .ro, 0x0, .warm⟩, ⟨9, 9, .w1c, 0x0, .warm⟩, ⟨8, 8, .ro, 0x0, .warm⟩, ⟨5, 5, .ro, 0x0, .warm⟩, ⟨4, 4, .ro, 0x0, .warm⟩, ⟨2, 0, .ro, 0x0, .warm⟩]⟩,
    ⟨0xF000050100, 1, 0x4, 1, 0x4, [⟨23, 0, .w1c, 0x0, .warm⟩]⟩,
    ⟨0xF000050104, 1, 0x4, 1, 0x4, [⟨23, 0, .w1c, 0x0, .warm⟩]⟩ ]

/-- The rows of the RGN page. -/
def regRows_rgn : List RegRow := regRows_rgn0

def regRows_clk0 : List RegRow :=
  [ ⟨0xF000060000, 16, 0x10, 1, 0x4, [⟨26, 24, .ro, 0x0, .fab⟩, ⟨23, 18, .ro, 0x0, .fab⟩, ⟨17, 10, .ro, 0x0, .fab⟩]⟩,
    ⟨0xF000060004, 16, 0x10, 1, 0x4, [⟨30, 24, .ro, 0x0, .fab⟩, ⟨22, 16, .ro, 0x0, .fab⟩, ⟨14, 8, .ro, 0x0, .fab⟩, ⟨6, 0, .ro, 0x0, .fab⟩]⟩,
    ⟨0xF000060008, 16, 0x10, 1, 0x4, [⟨2, 2, .w1c, 0x0, .warm⟩, ⟨1, 1, .ro, 0x0, .fab⟩, ⟨0, 0, .ro, 0x0, .fab⟩]⟩,
    ⟨0xF00006000C, 16, 0x10, 1, 0x4, [⟨0, 0, .wo, 0x0, .warm⟩]⟩,
    ⟨0xF000060100, 1, 0x4, 1, 0x4, [⟨1, 1, .w1c, 0x0, .warm⟩, ⟨0, 0, .w1c, 0x0, .warm⟩]⟩,
    ⟨0xF000060200, 32, 0x4, 1, 0x4, [⟨15, 0, .rc, 0x0, .warm⟩]⟩ ]

/-- The rows of the CLK page. -/
def regRows_clk : List RegRow := regRows_clk0

def regRows_xcv0 : List RegRow :=
  [ ⟨0xF000100000, 64, 0x1000, 1, 0x4, [⟨9, 8, .rw, 0x0, .warm⟩, ⟨6, 4, .rw, 0x0, .warm⟩, ⟨0, 0, .rw, 0x0, .warm⟩]⟩,
    ⟨0xF000100004, 64, 0x1000, 1, 0x4, [⟨31, 31, .rw, 0x0, .warm⟩, ⟨30, 28, .rw, 0x0, .warm⟩, ⟨27, 26, .rw, 0x0, .warm⟩, ⟨25, 25, .rw, 0x0, .warm⟩, ⟨24, 24, .rw, 0x0, .warm⟩]⟩,
    ⟨0xF000100008, 64, 0x1000, 1, 0x4, [⟨24, 0, .rw, 0x1312D00, .warm⟩]⟩,
    ⟨0xF00010000C, 64, 0x1000, 1, 0x4, [⟨12, 12, .w1c, 0x0, .warm⟩, ⟨11, 11, .w1c, 0x0, .warm⟩, ⟨10, 10, .ro, 0x0, .warm⟩, ⟨9, 9, .w1c, 0x0, .warm⟩, ⟨8, 8, .ro, 0x0, .warm⟩, ⟨7, 7, .ro, 0x0, .warm⟩, ⟨6, 6, .ro, 0x0, .warm⟩, ⟨2, 0, .ro, 0x0, .warm⟩]⟩,
    ⟨0xF000100010, 64, 0x1000, 1, 0x4, [⟨31, 31, .rw, 0x0, .warm⟩, ⟨23, 16, .rw, 0x50, .warm⟩, ⟨11, 8, .rw, 0x0, .warm⟩, ⟨4, 0, .rw, 0x0, .warm⟩]⟩,
    ⟨0xF000100014, 64, 0x1000, 1, 0x4, [⟨31, 31, .wo, 0x0, .warm⟩, ⟨12, 12, .rw, 0x0, .warm⟩, ⟨11, 11, .rw, 0x0, .warm⟩, ⟨10, 8, .rw, 0x0, .warm⟩, ⟨3, 3, .rw, 0x0, .warm⟩, ⟨2, 0, .rw, 0x0, .warm⟩]⟩,
    ⟨0xF000100018, 64, 0x1000, 1, 0x4, [⟨31, 0, .ro, 0x0, .warm⟩]⟩,
    ⟨0xF00010001C, 64, 0x1000, 1, 0x4, [⟨15, 0, .ro, 0x0, .warm⟩]⟩,
    ⟨0xF000100020, 64, 0x1000, 1, 0x4, [⟨31, 0, .ro, 0x0, .warm⟩]⟩,
    ⟨0xF000100024, 64, 0x1000, 1, 0x4, [⟨15, 8, .rc, 0x0, .warm⟩, ⟨0, 0, .ro, 0x0, .warm⟩]⟩,
    ⟨0xF000100030, 64, 0x1000, 1, 0x4, [⟨31, 31, .wo, 0x0, .warm⟩, ⟨30, 30, .ro, 0x0, .warm⟩, ⟨29, 29, .ro, 0x0, .warm⟩, ⟨23, 20, .rw, 0x0, .warm⟩, ⟨17, 16, .rw, 0x0, .warm⟩, ⟨15, 8, .rw, 0x0, .warm⟩, ⟨6, 0, .rw, 0x0, .warm⟩]⟩,
    ⟨0xF000100034, 64, 0x1000, 1, 0x4, [⟨31, 0, .ro, 0x0, .warm⟩]⟩,
    ⟨0xF000100038, 64, 0x1000, 1, 0x4, [⟨31, 0, .ro, 0x0, .warm⟩]⟩,
    ⟨0xF000100040, 64, 0x1000, 1, 0x4, [⟨31, 0, .rc, 0x0, .warm⟩]⟩,
    ⟨0xF000100044, 64, 0x1000, 1, 0x4, [⟨31, 0, .rc, 0x0, .warm⟩]⟩,
    ⟨0xF000100050, 64, 0x1000, 1, 0x4, [⟨31, 16, .ro, 0x0, .warm⟩, ⟨15, 0, .ro, 0x0, .warm⟩]⟩,
    ⟨0xF000140000, 16, 0x10, 1, 0x4, [⟨31, 31, .ro, 0x0, .warm⟩, ⟨30, 30, .w1c, 0x0, .warm⟩, ⟨15, 0, .rw, 0x0, .warm⟩]⟩,
    ⟨0xF000140004, 16, 0x10, 1, 0x4, [⟨31, 0, .rw, 0x0, .warm⟩]⟩,
    ⟨0xF000140008, 16, 0x10, 1, 0x4, [⟨31, 0, .rw, 0x0, .warm⟩]⟩,
    ⟨0xF00014000C, 16, 0x10, 1, 0x4, [⟨1, 0, .rw, 0x0, .warm⟩]⟩ ]

def regRows_xcv1 : List RegRow :=
  [ ⟨0xF000140200, 2, 0x4, 1, 0x4, [⟨31, 0, .w1c, 0x0, .warm⟩]⟩ ]

/-- The rows of the XCV page. -/
def regRows_xcv : List RegRow := regRows_xcv0 ++ regRows_xcv1

def regRows_lnt0 : List RegRow :=
  [ ⟨0xF000200000, 16, 0x10000, 1, 0x4, [⟨17, 17, .wo, 0x0, .warm⟩, ⟨16, 16, .rw, 0x0, .warm⟩, ⟨12, 9, .rw, 0x4, .warm⟩, ⟨8, 8, .rw, 0x0, .warm⟩, ⟨5, 4, .rw, 0x0, .warm⟩, ⟨0, 0, .rw, 0x0, .eng⟩]⟩,
    ⟨0xF000200004, 16, 0x10000, 1, 0x4, [⟨19, 16, .ro, 0x0, .eng⟩, ⟨13, 13, .w1c, 0x0, .eng⟩, ⟨12, 12, .ro, 0x0, .eng⟩, ⟨11, 11, .w1c, 0x0, .eng⟩, ⟨10, 10, .w1c, 0x0, .eng⟩, ⟨9, 9, .w1c, 0x0, .eng⟩, ⟨8, 8, .w1c, 0x0, .eng⟩, ⟨4, 4, .ro, 0x0, .eng⟩, ⟨3, 3, .ro, 0x0, .eng⟩, ⟨2, 0, .ro, 0x0, .eng⟩]⟩,
    ⟨0xF000200008, 16, 0x10000, 1, 0x4, [⟨28, 16, .rw, 0x40, .warm⟩, ⟨8, 8, .rw, 0x0, .warm⟩, ⟨7, 0, .rw, 0x0, .warm⟩]⟩,
    ⟨0xF000200010, 16, 0x10000, 1, 0x4, [⟨18, 0, .rw, 0x0, .warm⟩]⟩,
    ⟨0xF000200014, 16, 0x10000, 1, 0x4, [⟨18, 0, .rw, 0x0, .warm⟩]⟩,
    ⟨0xF000200018, 16, 0x10000, 1, 0x4, [⟨31, 0, .ro, 0x0, .cold⟩]⟩,
    ⟨0xF00020001C, 16, 0x10000, 1, 0x4, [⟨5, 0, .ro, 0x0, .cold⟩]⟩,
    ⟨0xF000200020, 16, 0x10000, 1, 0x4, [⟨31, 0, .rw, 0x0, .cold⟩]⟩,
    ⟨0xF000200024, 16, 0x10000, 1, 0x4, [⟨5, 0, .rw, 0x0, .cold⟩]⟩,
    ⟨0xF000200028, 16, 0x10000, 1, 0x4, [⟨31, 0, .ro, 0x0, .cold⟩]⟩,
    ⟨0xF000200030, 16, 0x10000, 1, 0x4, [⟨26, 0, .rw, 0x0, .warm⟩]⟩,
    ⟨0xF000200034, 16, 0x10000, 1, 0x4, [⟨15, 0, .rw, 0x0, .warm⟩]⟩,
    ⟨0xF000200038, 16, 0x10000, 1, 0x4, [⟨22, 0, .ro, 0x0, .cold⟩]⟩,
    ⟨0xF000200040, 16, 0x10000, 1, 0x4, [⟨25, 16, .rw, 0x0, .warm⟩, ⟨6, 0, .rw, 0x0, .warm⟩]⟩,
    ⟨0xF000200044, 16, 0x10000, 1, 0x4, [⟨13, 8, .rw, 0x30, .warm⟩, ⟨5, 0, .rw, 0x20, .warm⟩]⟩,
    ⟨0xF000200048, 16, 0x10000, 1, 0x4, [⟨31, 16, .rw, 0xA, .warm⟩, ⟨15, 0, .rw, 0x3E8, .warm⟩]⟩,
    ⟨0xF000200050, 16, 0x10000, 2, 0x4, [⟨31, 0, .ro, 0x0, .eng⟩]⟩,
    ⟨0xF000200080, 16, 0x10000, 4, 0x10, [⟨31, 31, .rw, 0x0, .warm⟩, ⟨29, 24, .rw, 0x0, .warm⟩, ⟨23, 23, .rw, 0x0, .warm⟩, ⟨22, 22, .rw, 0x0, .warm⟩, ⟨19, 19, .rw, 0x0, .warm⟩, ⟨18, 16, .rw, 0x0, .warm⟩, ⟨14, 12, .rw, 0x0, .warm⟩]⟩,
    ⟨0xF000200084, 16, 0x10000, 4, 0x10, [⟨30, 16, .rw, 0x800, .warm⟩, ⟨12, 0, .rw, 0x100, .warm⟩]⟩,
    ⟨0xF000200100, 16, 0x10000, 4, 0x10, [⟨31, 0, .ro, 0x0, .eng⟩]⟩ ]

def regRows_lnt1 : List RegRow :=
  [ ⟨0xF000200104, 16, 0x10000, 4, 0x10, [⟨31, 0, .ro, 0x0, .eng⟩]⟩,
    ⟨0xF000200108, 16, 0x10000, 4, 0x10, [⟨15, 0, .ro, 0x0, .eng⟩]⟩,
    ⟨0xF00020010C, 16, 0x10000, 4, 0x10, [⟨31, 0, .ro, 0x0, .eng⟩]⟩,
    ⟨0xF000200180, 16, 0x10000, 8, 0x4, [⟨31, 0, .ro, 0x0, .eng⟩]⟩,
    ⟨0xF000200200, 16, 0x10000, 8, 0x4, [⟨31, 0, .rw, 0x0, .warm⟩]⟩,
    ⟨0xF000200280, 16, 0x10000, 8, 0x4, [⟨31, 0, .rw, 0x0, .warm⟩]⟩,
    ⟨0xF000200300, 16, 0x10000, 8, 0x4, [⟨31, 0, .rw, 0x0, .warm⟩]⟩,
    ⟨0xF000200380, 16, 0x10000, 8, 0x4, [⟨31, 0, .rw, 0x0, .warm⟩]⟩,
    ⟨0xF000200400, 16, 0x10000, 8, 0x4, [⟨31, 0, .rw, 0x0, .warm⟩]⟩,
    ⟨0xF000200480, 16, 0x10000, 8, 0x4, [⟨31, 0, .rw, 0x0, .warm⟩]⟩,
    ⟨0xF000200500, 16, 0x10000, 8, 0x4, [⟨31, 0, .rw, 0x0, .warm⟩]⟩,
    ⟨0xF000200580, 16, 0x10000, 8, 0x4, [⟨31, 0, .rw, 0x0, .warm⟩]⟩,
    ⟨0xF000200220, 16, 0x10000, 8, 0x4, [⟨31, 0, .rw, 0x0, .warm⟩]⟩,
    ⟨0xF0002002A0, 16, 0x10000, 8, 0x4, [⟨31, 0, .rw, 0x0, .warm⟩]⟩,
    ⟨0xF000200320, 16, 0x10000, 8, 0x4, [⟨31, 0, .rw, 0x0, .warm⟩]⟩,
    ⟨0xF0002003A0, 16, 0x10000, 8, 0x4, [⟨31, 0, .rw, 0x0, .warm⟩]⟩,
    ⟨0xF000200420, 16, 0x10000, 8, 0x4, [⟨31, 0, .rw, 0x0, .warm⟩]⟩,
    ⟨0xF0002004A0, 16, 0x10000, 8, 0x4, [⟨31, 0, .rw, 0x0, .warm⟩]⟩,
    ⟨0xF000200520, 16, 0x10000, 8, 0x4, [⟨31, 0, .rw, 0x0, .warm⟩]⟩,
    ⟨0xF0002005A0, 16, 0x10000, 8, 0x4, [⟨31, 0, .rw, 0x0, .warm⟩]⟩ ]

def regRows_lnt2 : List RegRow :=
  [ ⟨0xF000200240, 16, 0x10000, 8, 0x80, [⟨31, 31, .rw, 0x0, .warm⟩, ⟨29, 28, .rw, 0x0, .warm⟩, ⟨27, 27, .rw, 0x0, .warm⟩, ⟨12, 0, .rw, 0x0, .warm⟩]⟩,
    ⟨0xF000200600, 16, 0x10000, 16, 0x10, [⟨31, 31, .rw, 0x0, .warm⟩, ⟨14, 13, .rw, 0x0, .warm⟩, ⟨12, 12, .rw, 0x0, .warm⟩, ⟨8, 8, .rw, 0x0, .warm⟩, ⟨7, 0, .rw, 0x0, .warm⟩]⟩,
    ⟨0xF000200604, 16, 0x10000, 16, 0x10, [⟨13, 13, .rw, 0x0, .warm⟩, ⟨12, 12, .rw, 0x0, .warm⟩, ⟨11, 8, .rw, 0x0, .warm⟩, ⟨5, 4, .rw, 0x0, .warm⟩, ⟨3, 0, .rw, 0x0, .warm⟩]⟩,
    ⟨0xF000200608, 16, 0x10000, 16, 0x10, [⟨31, 31, .rw, 0x0, .warm⟩, ⟨14, 13, .rw, 0x0, .warm⟩, ⟨12, 12, .rw, 0x0, .warm⟩, ⟨8, 8, .rw, 0x0, .warm⟩, ⟨7, 0, .rw, 0x0, .warm⟩]⟩,
    ⟨0xF00020060C, 16, 0x10000, 16, 0x10, [⟨13, 13, .rw, 0x0, .warm⟩, ⟨12, 12, .rw, 0x0, .warm⟩, ⟨11, 8, .rw, 0x0, .warm⟩, ⟨5, 4, .rw, 0x0, .warm⟩, ⟨3, 0, .rw, 0x0, .warm⟩]⟩,
    ⟨0xF000200700, 16, 0x10000, 16, 0x4, [⟨3, 0, .rw, 0x0, .warm⟩]⟩,
    ⟨0xF000200740, 16, 0x10000, 4, 0x10, [⟨6, 4, .rw, 0x0, .warm⟩, ⟨1, 0, .rw, 0x0, .warm⟩]⟩,
    ⟨0xF000200744, 16, 0x10000, 4, 0x10, [⟨31, 0, .rw, 0x0, .warm⟩]⟩,
    ⟨0xF000200748, 16, 0x10000, 4, 0x10, [⟨31, 0, .ro, 0x0, .eng⟩]⟩ ]

/-- The rows of the LNT page. -/
def regRows_lnt : List RegRow := regRows_lnt0 ++ regRows_lnt1 ++ regRows_lnt2

def regRows_bcn0 : List RegRow :=
  [ ⟨0xF000300000, 16, 0x10000, 1, 0x4, [⟨21, 16, .rw, 0x0, .warm⟩, ⟨10, 9, .rw, 0x0, .warm⟩, ⟨8, 8, .rw, 0x0, .warm⟩, ⟨7, 4, .rw, 0x0, .warm⟩, ⟨0, 0, .rw, 0x0, .eng⟩]⟩,
    ⟨0xF000300004, 16, 0x10000, 1, 0x4, [⟨21, 16, .ro, 0x0, .warm⟩, ⟨13, 13, .w1c, 0x0, .warm⟩, ⟨12, 12, .w1c, 0x0, .warm⟩, ⟨11, 11, .w1c, 0x0, .warm⟩, ⟨10, 10, .w1c, 0x0, .warm⟩, ⟨9, 9, .w1c, 0x0, .warm⟩, ⟨8, 8, .w1c, 0x0, .warm⟩, ⟨4, 4, .ro, 0x0, .warm⟩, ⟨3, 3, .ro, 0x0, .warm⟩, ⟨2, 0, .ro, 0x0, .eng⟩]⟩,
    ⟨0xF000300008, 16, 0x10000, 1, 0x4, [⟨1, 1, .wo, 0x0, .warm⟩, ⟨0, 0, .wo, 0x0, .warm⟩]⟩,
    ⟨0xF00030000C, 16, 0x10000, 1, 0x4, [⟨7, 0, .w1s, 0x0, .warm⟩]⟩,
    ⟨0xF000300010, 16, 0x10000, 1, 0x4, [⟨7, 0, .wo, 0x0, .warm⟩]⟩,
    ⟨0xF000300014, 16, 0x10000, 1, 0x4, [⟨25, 16, .rw, 0x0, .warm⟩, ⟨6, 0, .rw, 0x0, .warm⟩]⟩,
    ⟨0xF000300018, 16, 0x10000, 1, 0x4, [⟨15, 0, .rw, 0x3E8, .warm⟩]⟩,
    ⟨0xF00030001C, 16, 0x10000, 1, 0x4, [⟨13, 8, .rw, 0x30, .warm⟩, ⟨5, 0, .rw, 0x10, .warm⟩]⟩,
    ⟨0xF000300020, 16, 0x10000, 2, 0x4, [⟨31, 0, .ro, 0x0, .warm⟩]⟩,
    ⟨0xF000300028, 16, 0x10000, 1, 0x4, [⟨31, 0, .ro, 0x0, .warm⟩]⟩,
    ⟨0xF00030002C, 16, 0x10000, 1, 0x4, [⟨15, 0, .ro, 0x0, .warm⟩]⟩,
    ⟨0xF000300030, 16, 0x10000, 1, 0x4, [⟨31, 0, .ro, 0x0, .warm⟩]⟩,
    ⟨0xF000300034, 16, 0x10000, 1, 0x4, [⟨31, 0, .ro, 0x0, .warm⟩]⟩,
    ⟨0xF000300038, 16, 0x10000, 1, 0x4, [⟨31, 0, .ro, 0x0, .warm⟩]⟩,
    ⟨0xF000300040, 16, 0x10000, 2, 0x4, [⟨31, 0, .ro, 0x0, .warm⟩]⟩ ]

/-- The rows of the BCN page. -/
def regRows_bcn : List RegRow := regRows_bcn0

def regRows_sch0 : List RegRow :=
  [ ⟨0xF000400000, 1, 0x4, 1, 0x4, [⟨8, 8, .ro, 0x0, .warm⟩, ⟨7, 7, .w1c, 0x0, .warm⟩, ⟨6, 6, .w1c, 0x0, .warm⟩, ⟨5, 5, .w1c, 0x0, .warm⟩, ⟨1, 1, .ro, 0x0, .warm⟩, ⟨0, 0, .ro, 0x0, .warm⟩]⟩,
    ⟨0xF000400004, 1, 0x4, 1, 0x4, [⟨1, 1, .wo, 0x0, .warm⟩, ⟨0, 0, .w1s, 0x0, .warm⟩]⟩,
    ⟨0xF000400008, 1, 0x4, 1, 0x4, [⟨31, 0, .rw, 0x0, .warm⟩]⟩,
    ⟨0xF00040000C, 1, 0x4, 1, 0x4, [⟨31, 0, .rw, 0x0, .warm⟩]⟩,
    ⟨0xF000400010, 1, 0x4, 1, 0x4, [⟨15, 0, .rw, 0x0, .warm⟩]⟩,
    ⟨0xF000400014, 1, 0x4, 1, 0x4, [⟨15, 0, .ro, 0x0, .warm⟩]⟩,
    ⟨0xF000400018, 1, 0x4, 1, 0x4, [⟨10, 10, .ro, 0x0, .warm⟩, ⟨9, 0, .ro, 0x0, .warm⟩]⟩,
    ⟨0xF000401000, 16, 0x40, 1, 0x4, [⟨31, 16, .rw, 0x1, .warm⟩, ⟨1, 1, .w1c, 0x0, .warm⟩, ⟨0, 0, .rw, 0x0, .warm⟩]⟩,
    ⟨0xF000401004, 16, 0x40, 1, 0x4, [⟨15, 0, .rw, 0x0, .warm⟩]⟩,
    ⟨0xF000401008, 16, 0x40, 1, 0x4, [⟨15, 0, .rw, 0x0, .warm⟩]⟩,
    ⟨0xF000401010, 16, 0x40, 1, 0x4, [⟨31, 0, .rw, 0x0, .warm⟩]⟩,
    ⟨0xF000401014, 16, 0x40, 1, 0x4, [⟨31, 0, .rw, 0x0, .warm⟩]⟩,
    ⟨0xF000401018, 16, 0x40, 1, 0x4, [⟨31, 0, .rw, 0x0, .warm⟩]⟩,
    ⟨0xF00040101C, 16, 0x40, 1, 0x4, [⟨31, 0, .rw, 0x0, .warm⟩]⟩,
    ⟨0xF000401020, 16, 0x40, 1, 0x4, [⟨31, 0, .rw, 0x0, .warm⟩]⟩,
    ⟨0xF000401024, 16, 0x40, 1, 0x4, [⟨15, 0, .rw, 0x0, .warm⟩]⟩,
    ⟨0xF000401028, 16, 0x40, 1, 0x4, [⟨31, 0, .rw, 0x0, .warm⟩]⟩,
    ⟨0xF00040102C, 16, 0x40, 1, 0x4, [⟨15, 0, .rw, 0x0, .warm⟩]⟩,
    ⟨0xF000401030, 16, 0x40, 1, 0x4, [⟨31, 0, .ro, 0x0, .warm⟩]⟩,
    ⟨0xF000401034, 16, 0x40, 1, 0x4, [⟨15, 0, .rc, 0x0, .warm⟩]⟩ ]

def regRows_sch1 : List RegRow :=
  [ ⟨0xF000480000, 8192, 0x4, 1, 0x4, [⟨31, 0, .rw, 0x0, .warm⟩]⟩ ]

/-- The rows of the SCH page. -/
def regRows_sch : List RegRow := regRows_sch0 ++ regRows_sch1

def regRows_tpr0 : List RegRow :=
  [ ⟨0xF000500000, 8, 0x1000, 1, 0x4, [⟨31, 31, .wo, 0x0, .eng⟩, ⟨30, 30, .wo, 0x0, .eng⟩, ⟨29, 29, .wo, 0x0, .eng⟩, ⟨8, 8, .rw, 0x1, .warm⟩]⟩,
    ⟨0xF000500004, 8, 0x1000, 1, 0x4, [⟨15, 12, .ro, 0x0, .eng⟩, ⟨9, 9, .w1c, 0x0, .eng⟩, ⟨8, 8, .w1c, 0x0, .eng⟩, ⟨5, 5, .ro, 0x0, .eng⟩, ⟨4, 4, .ro, 0x0, .eng⟩, ⟨1, 0, .ro, 0x0, .eng⟩]⟩,
    ⟨0xF000500008, 8, 0x1000, 1, 0x4, [⟨13, 0, .rw, 0x0, .eng⟩]⟩,
    ⟨0xF00050000C, 8, 0x1000, 1, 0x4, [⟨7, 0, .ro, 0x0, .eng⟩]⟩,
    ⟨0xF000500010, 8, 0x1000, 1, 0x4, [⟨15, 0, .rw, 0x0, .warm⟩]⟩,
    ⟨0xF000500014, 8, 0x1000, 1, 0x4, [⟨0, 0, .w1s, 0x0, .eng⟩]⟩,
    ⟨0xF000500018, 8, 0x1000, 1, 0x4, [⟨15, 0, .rw, 0x3E8, .warm⟩]⟩,
    ⟨0xF000500020, 8, 0x1000, 2, 0x4, [⟨31, 31, .ro, 0x0, .eng⟩, ⟨23, 16, .ro, 0x0, .eng⟩, ⟨1, 1, .w1c, 0x0, .eng⟩, ⟨0, 0, .w1c, 0x0, .eng⟩]⟩,
    ⟨0xF000500100, 8, 0x1000, 40, 0x4, [⟨15, 0, .rw, 0x0, .eng⟩]⟩,
    ⟨0xF000500200, 8, 0x1000, 2, 0x8, [⟨31, 0, .rw, 0x0, .eng⟩]⟩,
    ⟨0xF000500204, 8, 0x1000, 2, 0x8, [⟨7, 0, .rw, 0x0, .eng⟩]⟩ ]

/-- The rows of the TPR page. -/
def regRows_tpr : List RegRow := regRows_tpr0

def regRows_bb0 : List RegRow :=
  [ ⟨0xF000600000, 1, 0x4, 1, 0x4, [⟨1, 1, .w1c, 0x0, .warm⟩, ⟨0, 0, .w1c, 0x0, .warm⟩]⟩,
    ⟨0xF000600004, 1, 0x4, 1, 0x4, [⟨15, 0, .rw, 0x7D0, .warm⟩]⟩,
    ⟨0xF000600100, 21, 0x10, 1, 0x4, [⟨31, 16, .rw, 0x7D0, .warm⟩, ⟨15, 8, .rw, 0x40, .warm⟩, ⟨0, 0, .rw, 0x0, .warm⟩]⟩,
    ⟨0xF000600104, 21, 0x10, 1, 0x4, [⟨23, 16, .rw, 0x8, .warm⟩, ⟨15, 8, .rw, 0x10, .warm⟩, ⟨7, 0, .rw, 0x20, .warm⟩]⟩,
    ⟨0xF000600108, 21, 0x10, 1, 0x4, [⟨15, 0, .rw, 0xC8, .warm⟩]⟩,
    ⟨0xF00060010C, 21, 0x10, 1, 0x4, [⟨31, 0, .rc, 0x0, .warm⟩]⟩,
    ⟨0xF000600400, 5, 0x4, 1, 0x4, [⟨1, 0, .rw, 0x1, .warm⟩]⟩,
    ⟨0xF000600414, 3, 0x4, 1, 0x4, []⟩,
    ⟨0xF000600420, 8, 0x4, 1, 0x4, [⟨1, 0, .rw, 0x2, .warm⟩]⟩,
    ⟨0xF000600440, 32, 0x4, 1, 0x4, [⟨1, 0, .rw, 0x0, .warm⟩]⟩,
    ⟨0xF0006004C0, 16, 0x4, 1, 0x4, []⟩,
    ⟨0xF000600500, 32, 0x4, 1, 0x4, [⟨4, 4, .rw, 0x0, .warm⟩, ⟨1, 0, .rw, 0x3, .warm⟩]⟩,
    ⟨0xF000600580, 32, 0x4, 1, 0x4, []⟩,
    ⟨0xF000600800, 1, 0x4, 1, 0x4, [⟨0, 0, .rw, 0x0, .warm⟩]⟩,
    ⟨0xF000600804, 1, 0x4, 1, 0x4, [⟨0, 0, .wo, 0x0, .warm⟩]⟩,
    ⟨0xF000600808, 1, 0x4, 1, 0x4, [⟨15, 0, .ro, 0x0, .warm⟩]⟩,
    ⟨0xF00060080C, 1, 0x4, 1, 0x4, [⟨0, 0, .ro, 0x1, .warm⟩]⟩,
    ⟨0xF000600810, 1, 0x4, 1, 0x4, [⟨31, 31, .w1c, 0x0, .warm⟩, ⟨8, 8, .ro, 0x0, .warm⟩, ⟨6, 0, .ro, 0x0, .warm⟩]⟩,
    ⟨0xF000600814, 1, 0x4, 1, 0x4, [⟨31, 0, .ro, 0x0, .warm⟩]⟩,
    ⟨0xF000600818, 1, 0x4, 1, 0x4, [⟨15, 0, .ro, 0x0, .warm⟩]⟩ ]

def regRows_bb1 : List RegRow :=
  [ ⟨0xF00060081C, 1, 0x4, 1, 0x4, [⟨31, 0, .rc, 0x0, .warm⟩]⟩,
    ⟨0xF000600820, 4, 0x4, 1, 0x4, [⟨31, 0, .ro, 0x0, .warm⟩]⟩,
    ⟨0xF000600830, 1, 0x4, 1, 0x4, [⟨15, 0, .rw, 0x1000, .warm⟩]⟩,
    ⟨0xF000600834, 1, 0x4, 1, 0x4, [⟨31, 31, .w1c, 0x0, .warm⟩, ⟨6, 0, .ro, 0x0, .warm⟩]⟩,
    ⟨0xF000600840, 4, 0x4, 1, 0x4, [⟨31, 0, .ro, 0x0, .warm⟩]⟩,
    ⟨0xF000601000, 64, 0x20, 1, 0x4, [⟨31, 0, .rw, 0x0, .warm⟩]⟩,
    ⟨0xF000601004, 64, 0x20, 1, 0x4, [⟨3, 0, .rw, 0x0, .warm⟩]⟩,
    ⟨0xF000601008, 64, 0x20, 1, 0x4, [⟨31, 0, .rw, 0x0, .warm⟩]⟩,
    ⟨0xF00060100C, 64, 0x20, 1, 0x4, [⟨31, 31, .rw, 0x0, .warm⟩, ⟨1, 1, .rw, 0x0, .warm⟩, ⟨0, 0, .rw, 0x0, .warm⟩]⟩,
    ⟨0xF000601010, 64, 0x20, 4, 0x4, [⟨31, 0, .rw, 0x0, .warm⟩]⟩,
    ⟨0xF000602000, 64, 0x4, 1, 0x4, [⟨31, 31, .ro, 0x0, .warm⟩, ⟨30, 30, .ro, 0x0, .warm⟩, ⟨6, 0, .ro, 0x0, .warm⟩]⟩,
    ⟨0xF000602100, 64, 0x4, 1, 0x4, [⟨31, 31, .ro, 0x0, .warm⟩, ⟨30, 30, .ro, 0x0, .warm⟩, ⟨6, 0, .ro, 0x0, .warm⟩]⟩ ]

/-- The rows of the BB page. -/
def regRows_bb : List RegRow := regRows_bb0 ++ regRows_bb1

def regRows_mc0 : List RegRow :=
  [ ⟨0xF000700000, 4, 0x10000, 1, 0x4, [⟨0, 0, .rw, 0x0, .eng⟩]⟩,
    ⟨0xF000700004, 4, 0x10000, 1, 0x4, [⟨17, 16, .rw, 0x0, .cold⟩, ⟨12, 12, .rw, 0x0, .cold⟩, ⟨9, 8, .rw, 0x0, .cold⟩, ⟨7, 0, .rw, 0x10, .cold⟩]⟩,
    ⟨0xF000700008, 4, 0x10000, 1, 0x4, [⟨15, 15, .w1c, 0x0, .warm⟩, ⟨14, 14, .w1c, 0x0, .warm⟩, ⟨13, 13, .ro, 0x0, .eng⟩, ⟨12, 12, .w1c, 0x0, .warm⟩, ⟨9, 9, .w1c, 0x0, .cold⟩, ⟨8, 8, .w1c, 0x0, .cold⟩, ⟨6, 4, .ro, 0x0, .cold⟩, ⟨2, 0, .ro, 0x0, .cold⟩]⟩,
    ⟨0xF00070000C, 4, 0x10000, 1, 0x4, [⟨20, 16, .rw, 0x10, .warm⟩, ⟨13, 8, .rw, 0x30, .warm⟩, ⟨5, 0, .rw, 0x10, .warm⟩]⟩,
    ⟨0xF000700010, 4, 0x10000, 1, 0x4, [⟨18, 16, .rw, 0x4, .warm⟩, ⟨15, 0, .rw, 0xF3C, .warm⟩]⟩,
    ⟨0xF000700014, 4, 0x10000, 1, 0x4, [⟨15, 0, .rw, 0x64, .warm⟩]⟩,
    ⟨0xF000700018, 4, 0x10000, 1, 0x4, [⟨31, 31, .rw, 0x1, .warm⟩, ⟨30, 24, .rw, 0x40, .warm⟩, ⟨23, 16, .rw, 0x20, .warm⟩, ⟨15, 0, .rw, 0x1000, .warm⟩]⟩,
    ⟨0xF00070001C, 4, 0x10000, 1, 0x4, [⟨31, 31, .w1c, 0x0, .warm⟩, ⟨24, 24, .ro, 0x0, .warm⟩, ⟨23, 23, .ro, 0x0, .warm⟩, ⟨22, 20, .ro, 0x0, .warm⟩, ⟨19, 18, .ro, 0x0, .warm⟩, ⟨16, 0, .ro, 0x0, .warm⟩]⟩,
    ⟨0xF000700020, 4, 0x10000, 1, 0x4, [⟨9, 9, .ro, 0x0, .warm⟩, ⟨8, 8, .ro, 0x0, .warm⟩, ⟨6, 0, .ro, 0x0, .warm⟩]⟩,
    ⟨0xF000700024, 4, 0x10000, 1, 0x4, [⟨31, 24, .rc, 0x0, .warm⟩, ⟨23, 16, .rc, 0x0, .warm⟩, ⟨15, 8, .rc, 0x0, .warm⟩, ⟨7, 0, .rc, 0x0, .warm⟩]⟩,
    ⟨0xF000700040, 4, 0x10000, 2, 0x10, [⟨31, 0, .rc, 0x0, .warm⟩]⟩,
    ⟨0xF000700044, 4, 0x10000, 2, 0x10, [⟨31, 0, .rc, 0x0, .warm⟩]⟩,
    ⟨0xF000700048, 4, 0x10000, 2, 0x10, [⟨31, 0, .ro, 0x0, .warm⟩]⟩,
    ⟨0xF00070004C, 4, 0x10000, 2, 0x10, [⟨31, 31, .w1c, 0x0, .warm⟩, ⟨15, 0, .ro, 0x0, .warm⟩]⟩ ]

/-- The rows of the MC page. -/
def regRows_mc : List RegRow := regRows_mc0

def regRows_stg0 : List RegRow :=
  [ ⟨0xF000800000, 1, 0x4, 1, 0x4, [⟨31, 0, .rc, 0x0, .warm⟩]⟩,
    ⟨0xF000800004, 1, 0x4, 1, 0x4, [⟨31, 0, .rc, 0x0, .warm⟩]⟩,
    ⟨0xF000800008, 1, 0x4, 1, 0x4, [⟨31, 0, .rc, 0x0, .warm⟩]⟩,
    ⟨0xF00080000C, 1, 0x4, 1, 0x4, [⟨31, 0, .ro, 0x0, .warm⟩]⟩,
    ⟨0xF000800010, 1, 0x4, 1, 0x4, [⟨31, 31, .w1c, 0x0, .warm⟩, ⟨15, 0, .ro, 0x0, .warm⟩]⟩,
    ⟨0xF000800014, 1, 0x4, 1, 0x4, [⟨31, 0, .ro, 0x0, .warm⟩]⟩,
    ⟨0xF000800018, 1, 0x4, 1, 0x4, [⟨31, 31, .w1c, 0x0, .warm⟩, ⟨15, 0, .ro, 0x0, .warm⟩]⟩,
    ⟨0xF000800020, 1, 0x4, 1, 0x4, [⟨23, 8, .rw, 0x3C, .warm⟩, ⟨0, 0, .rw, 0x1, .warm⟩]⟩,
    ⟨0xF000800100, 48, 0x4, 1, 0x4, [⟨8, 8, .w1c, 0x0, .warm⟩, ⟨6, 4, .ro, 0x0, .warm⟩, ⟨1, 0, .rw, 0x0, .warm⟩]⟩ ]

/-- The rows of the STG page. -/
def regRows_stg : List RegRow := regRows_stg0

def regRows_shd0 : List RegRow :=
  [ ⟨0xF000900000, 1, 0x4, 1, 0x4, [⟨15, 12, .ro, 0x0, .warm⟩, ⟨5, 5, .w1c, 0x0, .warm⟩, ⟨4, 4, .ro, 0x0, .warm⟩, ⟨3, 3, .w1c, 0x0, .warm⟩, ⟨2, 2, .ro, 0x0, .warm⟩, ⟨1, 1, .w1c, 0x0, .warm⟩, ⟨0, 0, .ro, 0x1, .warm⟩]⟩,
    ⟨0xF000900004, 1, 0x4, 1, 0x4, [⟨0, 0, .wo, 0x0, .warm⟩]⟩,
    ⟨0xF000900008, 1, 0x4, 1, 0x4, [⟨15, 0, .ro, 0x0, .warm⟩]⟩,
    ⟨0xF00090000C, 1, 0x4, 1, 0x4, [⟨15, 0, .wo, 0x0, .warm⟩]⟩,
    ⟨0xF000900010, 1, 0x4, 1, 0x4, [⟨31, 16, .ro, 0x0, .warm⟩, ⟨15, 0, .ro, 0x0, .warm⟩]⟩,
    ⟨0xF000900020, 8, 0x4, 1, 0x4, [⟨31, 0, .rc, 0x0, .warm⟩]⟩,
    ⟨0xF000900040, 1, 0x4, 1, 0x4, [⟨31, 31, .w1c, 0x0, .warm⟩, ⟨18, 16, .ro, 0x0, .warm⟩, ⟨11, 8, .ro, 0x0, .warm⟩, ⟨6, 0, .ro, 0x0, .warm⟩]⟩,
    ⟨0xF000900044, 1, 0x4, 1, 0x4, [⟨31, 0, .ro, 0x0, .warm⟩]⟩,
    ⟨0xF000900048, 1, 0x4, 1, 0x4, [⟨15, 0, .ro, 0x0, .warm⟩]⟩,
    ⟨0xF000900050, 1, 0x4, 1, 0x4, [⟨31, 31, .w1c, 0x0, .cold⟩, ⟨18, 16, .ro, 0x0, .cold⟩, ⟨11, 8, .ro, 0x0, .cold⟩, ⟨6, 0, .ro, 0x0, .cold⟩]⟩,
    ⟨0xF000900054, 1, 0x4, 1, 0x4, [⟨31, 0, .ro, 0x0, .cold⟩]⟩,
    ⟨0xF000900058, 1, 0x4, 1, 0x4, [⟨15, 0, .ro, 0x0, .cold⟩]⟩,
    ⟨0xF000900100, 16, 0x20, 1, 0x4, [⟨26, 0, .rw, 0x0, .cold⟩]⟩,
    ⟨0xF000900104, 16, 0x20, 1, 0x4, [⟨27, 0, .rw, 0x0, .cold⟩]⟩,
    ⟨0xF000900108, 16, 0x20, 1, 0x4, [⟨31, 31, .rw, 0x0, .cold⟩, ⟨19, 16, .rw, 0x0, .cold⟩, ⟨8, 8, .rw, 0x0, .cold⟩, ⟨4, 4, .rw, 0x0, .cold⟩, ⟨1, 0, .rw, 0x0, .cold⟩]⟩,
    ⟨0xF00090010C, 16, 0x20, 1, 0x4, [⟨31, 0, .rw, 0x0, .cold⟩]⟩,
    ⟨0xF000900110, 16, 0x20, 1, 0x4, [⟨31, 0, .rw, 0x0, .cold⟩]⟩,
    ⟨0xF000900114, 16, 0x20, 1, 0x4, [⟨27, 0, .rw, 0x0, .cold⟩]⟩ ]

/-- The rows of the SHD page. -/
def regRows_shd : List RegRow := regRows_shd0

def regRows_psm0 : List RegRow :=
  [ ⟨0xF000A00000, 1, 0x4, 1, 0x4, [⟨14, 14, .w1c, 0x0, .warm⟩, ⟨13, 13, .ro, 0x0, .warm⟩, ⟨12, 12, .ro, 0x0, .warm⟩, ⟨11, 8, .ro, 0x0, .warm⟩, ⟨3, 3, .w1c, 0x0, .warm⟩, ⟨2, 2, .ro, 0x0, .warm⟩, ⟨1, 1, .ro, 0x0, .warm⟩, ⟨0, 0, .ro, 0x0, .warm⟩]⟩,
    ⟨0xF000A00004, 1, 0x4, 1, 0x4, [⟨31, 31, .wo, 0x0, .warm⟩, ⟨26, 24, .rw, 0x0, .warm⟩, ⟨3, 0, .rw, 0x0, .warm⟩]⟩,
    ⟨0xF000A00008, 1, 0x4, 1, 0x4, [⟨22, 0, .rw, 0x0, .warm⟩]⟩,
    ⟨0xF000A0000C, 1, 0x4, 1, 0x4, [⟨10, 0, .rw, 0x0, .warm⟩]⟩,
    ⟨0xF000A00010, 1, 0x4, 1, 0x4, [⟨31, 16, .ro, 0x0, .nv⟩, ⟨8, 8, .ro, 0x0, .nv⟩, ⟨2, 0, .ro, 0x0, .nv⟩]⟩,
    ⟨0xF000A00014, 1, 0x4, 1, 0x4, [⟨31, 31, .wo, 0x0, .warm⟩, ⟨9, 8, .rw, 0x0, .warm⟩, ⟨3, 0, .rw, 0x0, .warm⟩]⟩,
    ⟨0xF000A00020, 1, 0x4, 1, 0x4, [⟨31, 0, .rc, 0x0, .warm⟩]⟩,
    ⟨0xF000A00024, 1, 0x4, 1, 0x4, [⟨31, 0, .rc, 0x0, .warm⟩]⟩,
    ⟨0xF000A00028, 1, 0x4, 1, 0x4, [⟨31, 31, .w1c, 0x0, .warm⟩, ⟨22, 0, .ro, 0x0, .warm⟩]⟩,
    ⟨0xF000A00080, 16, 0x4, 1, 0x4, [⟨2, 2, .ro, 0x0, .nv⟩, ⟨1, 1, .ro, 0x0, .nv⟩, ⟨0, 0, .ro, 0x0, .nv⟩]⟩,
    ⟨0xF000A000C0, 16, 0x4, 1, 0x4, [⟨31, 0, .ro, 0x0, .nv⟩]⟩,
    ⟨0xF000A00100, 64, 0x4, 1, 0x4, [⟨31, 0, .rw, 0x0, .warm⟩]⟩,
    ⟨0xF000A00200, 24, 0x4, 1, 0x4, [⟨31, 0, .wo, 0x0, .warm⟩]⟩ ]

/-- The rows of the PSM page. -/
def regRows_psm : List RegRow := regRows_psm0

def regRows_evc0 : List RegRow :=
  [ ⟨0xF000B00000, 1, 0x4, 1, 0x4, [⟨23, 16, .ro, 0x0, .warm⟩, ⟨3, 3, .w1c, 0x0, .warm⟩, ⟨2, 2, .ro, 0x0, .warm⟩, ⟨1, 1, .w1c, 0x0, .warm⟩, ⟨0, 0, .ro, 0x0, .warm⟩]⟩,
    ⟨0xF000B00004, 1, 0x4, 1, 0x4, [⟨31, 24, .rw, 0x0, .warm⟩, ⟨19, 0, .rw, 0x0, .warm⟩]⟩,
    ⟨0xF000B00008, 1, 0x4, 1, 0x4, [⟨31, 31, .wo, 0x0, .warm⟩, ⟨7, 0, .wo, 0x0, .warm⟩]⟩,
    ⟨0xF000B0000C, 1, 0x4, 1, 0x4, [⟨31, 0, .rc, 0x0, .warm⟩]⟩,
    ⟨0xF000B00010, 1, 0x4, 1, 0x4, [⟨31, 0, .rc, 0x0, .warm⟩]⟩,
    ⟨0xF000B00100, 64, 0x4, 1, 0x4, [⟨31, 31, .rw, 0x0, .warm⟩, ⟨30, 30, .rw, 0x1, .warm⟩, ⟨4, 0, .rw, 0x0, .warm⟩]⟩,
    ⟨0xF000B00200, 192, 0x4, 1, 0x4, [⟨31, 31, .rw, 0x1, .warm⟩, ⟨30, 30, .rw, 0x1, .warm⟩, ⟨4, 0, .rw, 0x0, .warm⟩]⟩,
    ⟨0xF000B00500, 16, 0x4, 1, 0x4, [⟨31, 0, .ro, 0x0, .warm⟩]⟩,
    ⟨0xF000B00600, 8, 0x4, 1, 0x4, [⟨31, 0, .w1c, 0x0, .warm⟩]⟩,
    ⟨0xF000B00620, 8, 0x4, 1, 0x4, [⟨31, 0, .wo, 0x0, .warm⟩]⟩ ]

/-- The rows of the EVC page. -/
def regRows_evc : List RegRow := regRows_evc0

def regRows_ras0 : List RegRow :=
  [ ⟨0xF000C00000, 1, 0x4, 1, 0x4, [⟨0, 0, .w1c, 0x0, .warm⟩]⟩,
    ⟨0xF000C00004, 1, 0x4, 1, 0x4, [⟨15, 0, .rw, 0x0, .warm⟩]⟩,
    ⟨0xF000C00008, 1, 0x4, 1, 0x4, [⟨15, 8, .wo, 0x0, .warm⟩, ⟨0, 0, .wo, 0x0, .warm⟩]⟩,
    ⟨0xF000C0000C, 1, 0x4, 1, 0x4, [⟨15, 0, .ro, 0x0, .warm⟩]⟩,
    ⟨0xF000C00010, 1, 0x4, 1, 0x4, [⟨31, 31, .rw, 0x0, .warm⟩, ⟨30, 30, .rw, 0x0, .warm⟩, ⟨29, 29, .rw, 0x0, .warm⟩, ⟨27, 24, .rw, 0x0, .warm⟩, ⟨23, 16, .rw, 0x0, .warm⟩, ⟨11, 0, .rw, 0x0, .warm⟩]⟩,
    ⟨0xF000C00014, 1, 0x4, 1, 0x4, [⟨31, 0, .rw, 0x0, .warm⟩]⟩,
    ⟨0xF000C00018, 1, 0x4, 1, 0x4, [⟨15, 0, .rw, 0x0, .warm⟩]⟩,
    ⟨0xF000C0001C, 1, 0x4, 1, 0x4, [⟨7, 0, .rw, 0x0, .warm⟩]⟩,
    ⟨0xF000C00020, 1, 0x4, 1, 0x4, [⟨31, 31, .rw, 0x1, .warm⟩, ⟨15, 0, .rw, 0x5A0, .warm⟩]⟩,
    ⟨0xF000C00024, 1, 0x4, 1, 0x4, [⟨31, 31, .rw, 0x1, .warm⟩, ⟨15, 0, .rw, 0x3C, .warm⟩]⟩,
    ⟨0xF000C00028, 1, 0x4, 1, 0x4, [⟨31, 31, .rw, 0x1, .warm⟩, ⟨15, 0, .rw, 0xA8, .warm⟩]⟩,
    ⟨0xF000C0002C, 1, 0x4, 1, 0x4, [⟨31, 16, .rc, 0x0, .cold⟩, ⟨15, 8, .rc, 0x0, .cold⟩, ⟨7, 0, .rc, 0x0, .cold⟩]⟩,
    ⟨0xF000C00040, 1, 0x4, 1, 0x4, [⟨31, 16, .rc, 0x0, .cold⟩, ⟨5, 0, .ro, 0x0, .cold⟩]⟩,
    ⟨0xF000C00044, 1, 0x4, 1, 0x4, [⟨0, 0, .wo, 0x0, .cold⟩]⟩,
    ⟨0xF000C00060, 8, 0x4, 1, 0x4, [⟨31, 0, .ro, 0x0, .cold⟩]⟩,
    ⟨0xF000C00104, 12, 0x4, 1, 0x4, [⟨31, 0, .rc, 0x0, .cold⟩]⟩,
    ⟨0xF000C00144, 12, 0x4, 1, 0x4, [⟨31, 0, .rc, 0x0, .cold⟩]⟩ ]

/-- The rows of the RAS page. -/
def regRows_ras : List RegRow := regRows_ras0

def regRows_idp0 : List RegRow :=
  [ ⟨0xF000FF0000, 1, 0x4, 1, 0x4, [⟨31, 0, .ro, 0x19640, .none⟩]⟩,
    ⟨0xF000FF0004, 1, 0x4, 1, 0x4, [⟨7, 0, .ro, 0x0, .none⟩]⟩,
    ⟨0xF000FF0008, 2, 0x4, 1, 0x4, [⟨31, 0, .ro, 0x0, .none⟩]⟩ ]

/-- The rows of the IDP page. -/
def regRows_idp : List RegRow := regRows_idp0

/-- The register pages (R972): first and last address, and the rows of the page. -/
def regPages : List (Nat × Nat × List RegRow) :=
  [ (0xF000000000, 0xF00000FFFF, regRows_tt),
    (0xF000010000, 0xF00001FFFF, regRows_fil),
    (0xF000020000, 0xF00002FFFF, regRows_rst),
    (0xF000030000, 0xF00003FFFF, regRows_svp),
    (0xF000040000, 0xF00004FFFF, regRows_cfg),
    (0xF000050000, 0xF00005FFFF, regRows_rgn),
    (0xF000060000, 0xF00006FFFF, regRows_clk),
    (0xF000100000, 0xF00014FFFF, regRows_xcv),
    (0xF000200000, 0xF0002FFFFF, regRows_lnt),
    (0xF000300000, 0xF0003FFFFF, regRows_bcn),
    (0xF000400000, 0xF000487FFF, regRows_sch),
    (0xF000500000, 0xF000507FFF, regRows_tpr),
    (0xF000600000, 0xF00060FFFF, regRows_bb),
    (0xF000700000, 0xF00073FFFF, regRows_mc),
    (0xF000800000, 0xF00080FFFF, regRows_stg),
    (0xF000900000, 0xF00090FFFF, regRows_shd),
    (0xF000A00000, 0xF000A0FFFF, regRows_psm),
    (0xF000B00000, 0xF000B0FFFF, regRows_evc),
    (0xF000C00000, 0xF000C0FFFF, regRows_ras),
    (0xF000FF0000, 0xF000FFFFFF, regRows_idp) ]

/-- The row that lists a register at local address `a`, if any does (R971). -/
def findRow (a : Nat) : Option RegRow :=
  match regPages.find? (fun p => Nat.ble p.1 a && Nat.ble a p.2.1) with
  | none => none
  | some p => p.2.2.find? (fun r => r.covers a)

/-- The value a register holds after a power-on reset, from its table.
[log 8 DESIGN CHOICE, log 12 DESIGN CHOICE, log 17 DEDUCED] -/
def resetValue (a : Nat) : Word :=
  match findRow a with
  | none => 0
  | some r => r.resetWord

end Sys2Proof.Machine
end

