-- ==== Sys2Proof/Machine/State.lean ====
section
/-!
DEFINITION. Sys2Proof/Machine/State.lean: the state of one HX-9640 unit as plain data, its state after the power-on
bring-up, and the names of the faults and refusals of a step.
-/

namespace Sys2Proof.Machine

/-- Why a step stops without a next state: there is no such reason. Where the spec gives a command nothing to do (its
condition does not hold, its engine is absent) the command has no effect, and an address that does not exist answers
UNMAPPED. [log 6 DESIGN CHOICE] -/
inductive Fault where
deriving DecidableEq, Repr

/-- Why a command is turned away. [log 6 DESIGN CHOICE] -/
inductive Refusal where
  /-- The command has no meaning in this model yet; raised by its arm alone. Safe. -/
  | notModelled (mnemonic : String)
deriving DecidableEq, Repr

/-! ### Partners, status codes, and what leaves the part -/

/-- The latest answer to a register request (R115, R272): who asked, the status code, and the word read (zero for a
write). [log 114 DESIGN CHOICE] -/
structure Response where
  who : Requester
  status : Status
  data : Word
deriving DecidableEq, Repr

/-! ### Clock and free values -/

/-- The model's own clock. [log 2 DESIGN CHOICE] -/
structure Clk where
  /-- Nanoseconds counted since power-on (the model's own) (MODEL). -/
  now : Nat
  /-- Free values drawn so far (the model's own field, no register) (MODEL). -/
  freeCtr : Nat
deriving DecidableEq, Repr

/-! ### Tester Time (02) -/

/-- A slew under way: what is left to add, its rate, and whether TT_ADJ_CTRL asked for it. -/
structure Slew where
  left : Int
  ppm : Nat
  requested : Bool
deriving DecidableEq, Repr

/-- A step that waits for its instant: requested here, or announced by the head. -/
structure StepPending where
  at_ : TT64
  amount : Int
  announced : Bool
  pairsWithout : Nat
deriving DecidableEq, Repr

/-- Tester Time (02). -/
structure TtS where
  /-- Tester Time (R39 R43). -/
  tt : TT64
  /-- TT counted since the Pilot reset, steps and loads left out, in 1/64 ns (R76). -/
  run : Nat
  /-- Latched high half of TT_NOW (R42). -/
  latchHi : Word
  /-- Slew under way (R49 R65). -/
  slew : Option Slew
  /-- Part of a 1/64 ns not yet added, in millionths (R65). -/
  slewAcc : Int
  /-- Step that waits for its instant (R67 R159). -/
  step : Option StepPending
  /-- When the latest step happened (R94). -/
  lastStep : Option Nat
  /-- The next phase measurement is the first one (R62 R981). -/
  phasePending : Bool
  /-- Measured TT_REF frequency, 0 when absent (R46). -/
  refKhz : Nat
  /-- The TT_REF multiplier is locked (R58 R980). -/
  refLocked : Bool
  /-- Holdover because received words carry HOLDOVER (R59 R982). -/
  holdRx : Bool
  /-- The oscillator trim has been learned since the Pilot reset (R57). -/
  trimmed : Bool
  /-- Sync pairs missed in a row (R59 R156). -/
  missed : Nat
  /-- Latest hop-delay measurements, at most 16 (R53). -/
  hopMeas : List Nat
  /-- Tag of the latest ECHO_REQ (R157). -/
  echoTag : Byte
  /-- When the latest ECHO_REQ left, until its answer (R157). -/
  echoAt : Option Nat
  /-- When the next echo measurement is due (R53). -/
  echoNext : Nat
  /-- 1.024 us interval of TT for which a sync pair was last sent (R155). -/
  syncIdx : Nat
  /-- When a sync pair was last due (R155). -/
  syncAt : Nat
  /-- When a word of a sync pair last arrived bad (R156). -/
  badSync : Option Nat
  /-- Lane Symbol Count (R79). -/
  lsc : BitVec 48
  /-- Bits of a PCS code unit not yet complete (R80). -/
  lscRem : Nat
  /-- When LSC last froze (R83 R94). -/
  frozeAt : Option Nat
  /-- Latched high bits of LSC (R95). -/
  lscHi : BitVec 16
  /-- LSC at each of the last 64 ns, latest first (R584). -/
  lscHist : List (BitVec 48)
  /-- TT of the nanoseconds before, latest first (R18). -/
  ttHist : List TT64
  /-- TT match comparators 0 to 3 armed (R986). -/
  cmpArmed : Vector Bool 4
  /-- Outputs of comparators 4 to 7 (R90 R985). -/
  cmpOut : Vector Bool 4
  /-- Inputs of comparators 4 to 6 (R87). -/
  cmpIn : Vector Int 3
  /-- Level of PILOT_WAKE (R87). -/
  wakePin : Bool
deriving DecidableEq, Repr

/-! ### The Filament chain (03) -/

/-- The link states of R191. -/
inductive LinkState where
  | down | training | active | doze | sleep | idleHeld
deriving DecidableEq, Repr

/-- A packet: its virtual channel, the WORDS of its SOP, and its bytes, header first (R111, R113). -/
structure Packet where
  vc : Nat
  words : Nat
  bytes : List Byte
deriving DecidableEq, Repr

/-- A packet that has been sent and not acknowledged, with its SEQ and how often it has been replayed (R149, R150). -/
structure Sent where
  seq : Nat
  packet : Packet
  replays : Nat
deriving DecidableEq, Repr

/-- Link words that wait to be sent (R144): a word, or what takes its contents from the instant it leaves, namely a sync pair
with its STEP triple (R153, R158), an ECHO_REQ with its tag, and the answer to an ECHO_REQ that arrived at `arrived` (R157). -/
inductive LinkOut where
  | word (bytes : List Byte)
  | syncPair
  | echoReq (tag : Byte)
  | echoRsp (tag : Byte) (arrived : Nat)
deriving DecidableEq, Repr

/-- What the transmitter last put on a link: a link word, two link words that leave together on lanes 0 and 1, or a packet with
its SEQ (R103, R108, R111). -/
inductive WireItem where
  | word (bytes : List Byte)
  | pair (lane0 lane1 : List Byte)
  | packet (seq : Nat) (p : Packet) (crc : Word)
deriving DecidableEq, Repr

/-- A block on a lane (R103, R105): its lane, its 8 bytes, and its 66 bits in the order they are sent, the sync header first and
the rest scrambled (R101). -/
structure Block where
  lane : Nat
  control : Bool
  bytes : List Byte
  line : List Bool
deriving DecidableEq, Repr

/-- A Filament link (03). -/
structure Link where
  /-- Reset TRAINING upstream, IDLE_HELD downstream -/
  state : LinkState
  /-- SEQ restarts when the link next becomes Active (R146). -/
  fromDown : Bool
  /-- Returning to Active from Doze or Sleep (R123 R168). -/
  waking : Bool
  /-- Consecutive TRAIN words with READY on lane 0 (R110). -/
  ready0 : Nat
  /-- Consecutive TRAIN words with READY on lane 1 (R110). -/
  ready1 : Nat
  /-- When training started (R137). -/
  since : Nat
  /-- When the link became Active (R132). -/
  activeAt : Nat
  /-- When the latest valid block arrived (R136). -/
  lastRx : Nat
  /-- Neighbour's address from its TRAIN words (R108 R139). -/
  neighbour : Byte
  /-- Initial credits from the neighbour's TRAIN words (R143). -/
  initCredits : Vector Nat 4
  /-- Credits held for VC0 to VC3 (R143). -/
  credits : Vector Nat 4
  /-- Freed buffers not yet returned in a CREDIT word (R143). -/
  owed : Vector Nat 4
  /-- Receive buffers that hold no packet, of each virtual channel (R142). -/
  room : Vector Nat 4
  /-- Link words waiting to be sent (R144). -/
  words : List LinkOut
  /-- Packets waiting to be sent (R122 R144). -/
  queue : List Packet
  /-- Sent packets not yet acknowledged, with their SEQ (R149). -/
  unacked : List Sent
  /-- SEQs of the packets to be sent again (R149). -/
  replay : List Nat
  /-- Since when packets have waited for an ACK (R150). -/
  unackedAt : Nat
  /-- Next SEQ to send (R146). -/
  txSeq : Nat
  /-- SEQ expected (R146). -/
  rxSeq : Nat
  /-- Packets accepted since SEQ restarted (R148). -/
  accepted : Nat
  /-- A NAK was sent and its SEQ has not arrived (R148). -/
  nakSent : Bool
  /-- Packets accepted since the latest ACK (R147). -/
  ackOwed : Nat
  /-- Round-robin position among VC1, VC0, VC3 (R144). -/
  rr : Nat
  /-- What was last put on the link (R144). -/
  wire : Option WireItem
  /-- Blocks sent since training began (R103). -/
  blockNo : Nat
  /-- The blocks of what was last put on the link (R103 R111). -/
  blocks : List Block
  /-- Scrambler of each lane (R101). -/
  scr : Vector (BitVec 58) 2
deriving DecidableEq, Repr

/-- A word of a bulk write that waits for the words before it (R176). -/
structure BulkWord where
  tag : Byte
  index : Nat
  addr : Nat
  data : List Byte
deriving DecidableEq, Repr

/-- An open bulk write (R176 to R178). -/
structure Bulk where
  tag : Byte
  orig : Byte
  waiting : Nat
  written : Nat
  words : Nat
  fail : Option (Nat × Nat × Status)
  last : Bool
deriving DecidableEq, Repr

/-- A read or write request being executed: the address and length of each of its accesses, and what it answered. -/
structure OpenReq where
  id : Nat
  tag : Byte
  orig : Byte
  addr : Nat
  vc : Nat
  last : Bool
  pieces : List (Nat × Nat × Option (Status × List Byte))
deriving DecidableEq, Repr

/-- A bulk read under way (R179): the next address and the bytes still to be read. -/
structure BulkRd where
  tag : Byte
  orig : Byte
  addr : Nat
  left : Nat
deriving DecidableEq, Repr

/-- The Filament ports and the requests taken from them (03). -/
structure FilS where
  us : Link
  ds : Link
  /-- The unit's chain address, 0 when unaddressed (R127 R133). -/
  addr : Byte
  /-- The move at addressing has not yet raised its event (R31 R36). -/
  moveDue : Bool
  /-- Another unit, or the host, drives FIL_WAKE_N low (R166 R168 R191). -/
  wakeIn : Bool
  /-- Accepted packets that this unit took, oldest first (R119 R147). -/
  inbox : List Packet
  /-- VC2 packets for downstream from the oldest ENUM on, oldest first (R122 R128). -/
  behind : List Packet
  /-- Packets from downstream to be forwarded upstream (R120). -/
  upQueue : List Packet
  /-- An ENUM has arrived since the reset (R132). -/
  enumSeen : Bool
  /-- The activation of the upstream link for which ENUM_WAIT was set (R132). -/
  enumTold : Option Nat
  /-- A forwarded ENUM that waits for the downstream link, and since when (R130). -/
  enumHeld : Option (Packet × Nat)
  /-- Read requests being executed (R113 R118). -/
  reads : List OpenReq
  /-- Write requests being executed (R114 R118). -/
  writes : List OpenReq
  /-- Open bulk writes (R178). -/
  bulks : List Bulk
  /-- Words of bulk writes not yet executed, in arrival order (R176). -/
  bulkTodo : List BulkWord
  /-- Bulk reads of which packets are still to be sent (R179). -/
  bulkRds : List BulkRd
  /-- When the RESET_RSP of an accepted RESET left (R185). -/
  resetAt : Option Nat
  /-- Name of the next read or write request (the model's own) (MODEL). -/
  nextReq : Nat
deriving DecidableEq, Repr

/-! ### Reset and power (04) -/

/-- The causes of R249. -/
inductive Cause where
  | pilotPor | corePor | brownout | resetPin | deepWake | watchdog | software | chainReset | debug | clockFail
  | cfgLockup | critParity | startTimeout | bowRecover | nlExit
deriving DecidableEq, Repr

/-- The boot policy read from the boot header at bring-up step 3. -/
structure Boot where
  blank : Bool
  cfgSrc : Nat
  cfgAddr : Nat
  failLimit : Nat
  timeoutMs : Nat
  memInit : Nat
  mcCfg : List Nat
  populated : Nat
  bfpCs : Nat
  freq : Nat
  dummy : Nat
  entry : List Byte
deriving DecidableEq, Repr

/-- Resets and power (04). -/
structure RstS where
  /-- The core is out of reset (R201 R210). -/
  coreUp : Bool
  /-- The core rails are valid (R936 R938). -/
  powered : Bool
  /-- Time 0 of the latest bring-up (R201). -/
  bringAt : Nat
  /-- Bring-up steps begun (R201). -/
  phase : Nat
  /-- When bring-up begins after a Warm reset (R195). -/
  bringFrom : Option Nat
  /-- When configuration became DONE after this bring-up (R214). -/
  doneAt : Option Nat
  /-- A Warm reset that has been requested (R195 R213). -/
  warm : Option Cause
  /-- When it was requested (R195). -/
  warmAt : Nat
  /-- A reset that waits for a Psiom pulse (true: Cold) (R225). -/
  deferred : Option (Bool × Cause)
  /-- Level of RESET_N (R209). -/
  resetN : Bool
  /-- Engines whose Engine reset is running (R197 R199). -/
  engines : List Nat
  /-- When the brown-out early warning tripped (R229 R233). -/
  bowAt : Option Nat
  /-- Level of CORE_PWR_EN (R244). -/
  corePwrEn : Bool
  /-- Leaving standby (R242). -/
  exiting : Bool
  /-- User I/O and SCH_OUT released at DONE (R234 R437). -/
  ioReleased : Bool
  /-- Boot Flash Port balls released (R237). -/
  bfpReleased : Bool
  /-- The chain address has failed its parity check (R924). -/
  addrBad : Bool
  /-- Boot policy (R201 R864). -/
  boot : Boot
deriving DecidableEq, Repr

/-- The states of a test access port (R239, IEEE 1149.1). -/
inductive TapState where
  | reset | idle | selectDr | captureDr | shiftDr | exit1Dr | pauseDr | exit2Dr | updateDr
  | selectIr | captureIr | shiftIr | exit1Ir | pauseIr | exit2Ir | updateIr
deriving DecidableEq, Repr

/-- The JTAG port (R239 R954). [log 125 PRESUMED] -/
structure TapS where
  /-- TAP controller state (R239). -/
  state : TapState
  /-- Instruction in effect (R239). -/
  ir : List Bool
  /-- Register between TDI and TDO, the bit next to TDO first (R239). -/
  shift : List Bool
  /-- Boundary register's update latches (R954). -/
  boundary : List Bool
  /-- What the latest cycle of TCK gave on TDO (R239). -/
  tdo : List Bool
deriving DecidableEq, Repr

/-! ### Service Port and Boot Flash Port (05) -/

/-- An accepted WR frame: its next word's address and index, and the words not yet committed. -/
structure WrFrame where
  addr : Nat
  index : Nat
  words : List Word
deriving DecidableEq, Repr

/-- A RD frame under way: the next word's address and index, how many words remain, the Backbone reads the word waits for
and since when, and the first failure. -/
structure RdFrame where
  addr : Nat
  index : Nat
  left : Nat
  waiting : Option (List Nat × Nat)
  failStatus : Status
  failIndex : Nat
deriving DecidableEq, Repr

/-- The Service Port (05). -/
structure SvpS where
  /-- Accepted WR frames not yet committed (R267). -/
  wr : List WrFrame
  /-- Backbone writes that the front word waits for (R266). -/
  wrWait : List Nat
  /-- RD frame under way (R268 R270). -/
  rd : Option RdFrame
  /-- Words returned in the latest frame (R264). -/
  ret : List Word
  /-- A TAKE frame waits for the words of earlier WR frames (R268). -/
  take : Bool
  /-- When the latest Take of the Service Port acted, and whether it moved the token (R35). -/
  takeAt : Option (Nat × Bool)
deriving DecidableEq, Repr

/-- A command that the Boot Flash Port drives on its bus (R284, R288). -/
structure FlashCmd where
  cs : Nat
  octal : Bool
  opcode : List Byte
  addr : Option Word
  dummy : Nat
  write : Bool
  data : List Byte
  len : Nat
deriving DecidableEq, Repr

/-- The Boot Flash Port (05). -/
structure BfpS where
  /-- The command running (R288). -/
  cmd : Option FlashCmd
  /-- Commands issued by the latest release, write of GO or configuration read (R285 R286). -/
  issued : List FlashCmd
  /-- When the port was released, until its entry sequence has been sent (R285). -/
  relAt : Option Nat
deriving DecidableEq, Repr

/-! ### Configuration engine (06) -/

/-- The fields of an image header that a load uses (R303). -/
structure ZHdr where
  hold : Bool
  full : Bool
  regions : Nat
  dictFrames : Nat
  places : Nat
  placeOff : Nat
  dictOff : Nat
  dictLen : Nat
  streamLen : Nat
  digest : List Byte
  designId : Nat
deriving DecidableEq, Repr

/-- One region of a load: its number (24 is the static region), its start state, and its placed (frame, index) pairs. -/
structure ZRgn where
  region : Nat
  init : Bool
  pairs : List (Nat × Nat)
deriving DecidableEq, Repr

/-- A load under way (R335): its source; the bytes received and not yet checked, how many were received, how many blocks
passed; the logical stream; the header; the regions still to be written and the names of all of them; the frame cursor in
the current region; the decoded dictionary and how far its tokens were read; where each index was first written; the
frames written; the digest stream and the current region's reference stream; the first error with its offset. -/
structure Load where
  src : Nat
  cs : Nat
  addr : Nat
  raw : List Byte
  got : Nat
  blocks : Nat
  stream : List Byte
  hdr : Option ZHdr
  checked : Bool
  todo : List ZRgn
  names : List (Nat × Bool)
  frame : Nat
  dictOut : List Byte
  tokPos : Nat
  firstAt : List (Nat × Nat)
  written : List Nat
  digestIn : List Byte
  refIn : List Byte
  error : Option (Nat × Nat)
  /-- When ABORT was written (R341 R352). -/
  abortAt : Option Nat
  /-- The Fabric reset of a full image has begun (R324). -/
  cleared : Bool
  lastProgress : Nat
  reload : Option Nat
deriving DecidableEq, Repr

/-- The configuration engine (06). -/
structure CfgS where
  /-- The load under way (R335). -/
  load : Option Load
  /-- Region reloads that wait for the engine (R342). -/
  waiting : List Nat
  /-- Regions that wait in Initializing for RELEASE (R329 R332). -/
  held : List (Nat × Bool)
  /-- The held load is a full image (R329). -/
  heldFull : Bool
  /-- Logic frames, byte 256 f + b of frame f (R296). -/
  frames : List Host.Cell
  /-- Reference SHA-256 of each started region (R348). -/
  refs : List (Nat × List Byte)
  /-- Elapsed TT at the latest verify pass, in ns (R349). -/
  lastVerify : Nat
  /-- Loads whose regions start: full image or not, since when, and the regions (R328 R331 R332). -/
  starting : List (Bool × Nat × List Nat)
deriving DecidableEq, Repr

/-! ### Regions (07) -/

/-- A region beside its registers (07). -/
structure RgnS where
  /-- When Isolating was entered (R365). -/
  drainAt : Option Nat
  /-- RESTART: Initializing follows Isolating (R372). -/
  again : Bool
  /-- The configuration engine has taken the region, or a load error keeps it Unloaded (R319 R345 R375). -/
  claimed : Bool
  /-- Isolation cells clamped (R359). -/
  clamped : Bool
  /-- The region's clocks run (R365 R370). -/
  clocks : Bool
  /-- When the clocks of Initializing started (R370). -/
  initAt : Option Nat
  /-- Cause with which the region leaves Running as soon as Initializing completes (R388). -/
  nextCause : Option Nat
  /-- Levels of the boundary signals at the clamp step (R358). -/
  hold : List Bool
deriving DecidableEq, Repr

/-! ### Fabric resources (08) -/

/-- A received character with its error flags (R422). -/
structure UrtChar where
  ch : Byte
  brk : Bool
  frameErr : Bool
  parityErr : Bool
deriving DecidableEq, Repr

/-- A UART (08). [log 118 DESIGN CHOICE] -/
structure Uart where
  /-- Transmit FIFO (R422). -/
  tx : List Byte
  /-- Character being shifted out (R422). -/
  shift : Option Byte
  /-- Receive FIFO (R422). -/
  rx : List UrtChar
  /-- URT_CFG (R422). -/
  cfg : Word
  /-- URT_BAUD (R422). -/
  baud : Word
  /-- URT_FIFO.RX_THRESH (R422). -/
  thresh : Nat
  /-- URT_PEND bits 5:2 (sticky flags) (R422). -/
  pend : Word
  /-- URT_IRQ_EN (R422). -/
  irqEn : Word
  /-- Level of CTS_N (R422). -/
  ctsHigh : Bool
  /-- What the latest read of URT_RX returned (R422). -/
  lastRead : Word
  /-- When the latest character arrived (R422). -/
  lastRx : Nat
deriving DecidableEq, Repr

/-- What the stored check bits of a word say of it. -/
inductive Mark where
  | correctable (injected : Bool) | uncorrectable (injected : Bool) | poison
deriving DecidableEq, Repr

/-- The latest write of a port of a block RAM tile, for accesses of the other port in the same cycle (R397 to R399): the ECC
word, the stored bits it names with what they held before, and the check mark before. -/
structure BramLast where
  tile : Nat
  portB : Bool
  at_ : Nat
  word : Nat
  old : List (Nat × Bool)
  mark : Option Mark
deriving DecidableEq, Repr

/-- The registers of a Pewter slice (R406). -/
structure Pewter where
  pre : BitVec 25
  mul : BitVec 42
  acc : BitVec 56
deriving DecidableEq, Repr

/-- A fabric slave access that has been accepted and not answered (R431 to R433). -/
structure SlvAcc where
  port : Nat
  id : Nat
  since : Nat
deriving DecidableEq, Repr

/-- The hard resources of the fabric (08). -/
structure FabS where
  /-- Block RAM, byte 4608 t + b of tile t (R395 R297). -/
  bram : List Host.Cell
  /-- Words in ECC mode whose stored check bits find an error, key 512 t + w (R400 R403). -/
  bramMark : List (Nat × Mark)
  /-- Block RAM writes of this cycle (R397 R398). -/
  bramLast : List BramLast
  /-- Data returned by the latest block RAM read (R398). -/
  bramOut : Nat
  /-- COLLIDED pulse of the latest access (R397). -/
  collided : Bool
  /-- ECC_CORR pulse of the latest access (R400). -/
  eccCorr : Bool
  /-- ECC_UNCORR pulse of the latest access (R400 R403). -/
  eccUncorr : Bool
  uarts : Vector Uart 4
  /-- Levels of the fabric event lines (R425). -/
  evt : BitVec 64
  /-- Slave accesses accepted and not answered (R433). -/
  slv : List SlvAcc
  /-- Flip-flops that hold 1 in each region (24 is the static one): twice the cell, one more for the second (R392 R393). -/
  flops : Vector (List Nat) 25
  /-- Registers of the Pewter slices of each region that are not all zero (R406). -/
  pewter : Vector (List (Nat × Pewter)) 25
  /-- The value on the TT read port (R419). -/
  ttPort : TT64
deriving DecidableEq, Repr

/-! ### Probe lanes (09) -/

/-- A probe lane beside its registers (09). -/
structure XcvS where
  /-- When the lane entered its state (R453). -/
  since : Nat
  /-- Live PRBS bit count (R477). -/
  bits : BitVec 48
  /-- Live PRBS error count (R477). -/
  errs : Word
  /-- When the eye scan under way started (R478). -/
  eye : Option Nat
  /-- Transmit source in effect (R459 R471). -/
  txLive : Nat
  /-- The loss mark stands in the lane's streams (R464). -/
  marked : Bool
  /-- The lane is Running (R452). -/
  up : Bool
  /-- Part of a symbol left over, in 1/64000000 (R445). -/
  txRem : Nat
  /-- Line bits sent since the latest word boundary (R472). -/
  txPos : Nat
  /-- Line bits of the word or unit under way that are still to be sent, none being electrical idle (R461). -/
  txQueue : List (Option Bool)
  /-- Symbols sent in the latest nanosecond, none being electrical idle (R471). -/
  txOut : List (Option Nat)
  /-- Scrambler (R461): the last 58 bits sent. -/
  txScr : BitVec 58
  /-- Running disparity is positive (R461). -/
  txPlus : Bool
  /-- The last unit that a Beacon sent on the lane (R560). -/
  txLast : Option (List Byte)
  /-- PRBS generator (R475): its last 31 bits. -/
  gen : BitVec 31
  /-- Line bits received since the latest word of the receive port (R472). -/
  rxBits : List Bool
  /-- The fabric receive port, bit 0 first (R472). -/
  rxWord : List Bool
  /-- Descrambler (R460): the last 58 bits received. -/
  rxScr : BitVec 58
  /-- PRBS checker (R476): its last 31 bits. -/
  chk : BitVec 31
  /-- Bits that matched in a row while the checker was not locked (R476). -/
  chkRun : Nat
  /-- Bits compared in the checker's window (R476). -/
  chkBits : Nat
  /-- Errors in the checker's window (R476). -/
  chkErrs : Nat
  /-- Blocks of an uncorrectable codeword still to come at the receive port (R463). -/
  fecBad : Nat
deriving DecidableEq, Repr

/-! ### Lanterns (10) -/

/-- A stream unit in a tap's window: its bytes, the TT at which it reached the tap, the tap's counts there, and whether
it carries an error. -/
structure TapUnit where
  bytes : List Byte
  tt : TT64
  tsc : Nat
  lsc : BitVec 48
  frozen : Bool
  bad : Bool
  unaligned : Bool
deriving DecidableEq, Repr

/-- A frame in progress on a tap. -/
structure Frame where
  tt : TT64
  tsc : Nat
  lsc : BitVec 48
  lscFrozen : Bool
  units : List (List Byte)
  len : Nat
  hits : Nat
  trig : Bool
  err : Bool
  unaligned : Bool
  keep : Bool
  cut : Bool
deriving DecidableEq, Repr

/-- A loss episode in progress (R531). -/
structure Episode where
  cause : Nat
  ttFrom : TT64
  tscFrom : Nat
  symbols : Nat
  frames : Nat
  bytes : Nat
deriving DecidableEq, Repr

/-- A tap of a Lantern (10). -/
structure Tap where
  /-- Tap symbol count (R488). -/
  tsc : Nat
  /-- Units delivered and not yet compared (R489). -/
  window : List TapUnit
  /-- Frame in progress (R486 R487). -/
  frame : Option Frame
  /-- Frames are kept from the next frame start (R495). -/
  keeping : Bool
  /-- Loss episode in progress (R531). -/
  loss : Option Episode
  /-- Latched high bits of the byte count (R546). -/
  bytesHi : BitVec 16
  /-- Blocks of an uncorrectable codeword still to come (R463). -/
  fecBad : Nat
deriving DecidableEq, Repr

/-- What the index ring and the pointers need to know of a record laid out in the ring. -/
structure Placed where
  off : Nat
  len : Nat
  kind : Nat
  trig : Bool
  tt : TT64
  seq : Nat
  tap : Nat
  tsc : Nat
  symbols : Nat
  bytes : Nat
  frames : Nat
deriving DecidableEq, Repr

/-- A ring or index burst on its way to memory. -/
structure LntBurst where
  id : Nat
  off : Nat
  len : Nat
  index : Bool
  /-- A ring burst that was on its way when another one failed: its outcome counts for nothing (R535). -/
  void : Bool
deriving DecidableEq, Repr

/-- A Lantern beside its registers (10). [log 65 DESIGN CHOICE] -/
structure LntS where
  taps : Vector Tap 4
  /-- Match units that hit in this core cycle (R491). -/
  cycleHits : Nat
  /-- Frame starts since the latest sequencer cycle (R497). -/
  starts : Nat
  /-- Frames closed with ERR since the latest sequencer cycle (R497). -/
  errFrames : Nat
  /-- Hits of each match unit since the latest sequencer cycle (R497). -/
  mhits : Vector Nat 8
  /-- When the sequencer last ran (R492). -/
  seqAt : Nat
  /-- Number of the next record (R513). -/
  seq : Nat
  /-- FIFO words whose write COLLIDED: their offsets in Staging SRAM and their bytes (R506). -/
  again : List (Nat × List Byte)
  /-- Records sent and not yet committed, from WR_PTR on (R507 R523). -/
  sent : List Byte
  /-- Since when closed records have waited (R508). -/
  fifoSince : Nat
  /-- Ring position of the first byte of the FIFO, wraps counted (R507 R524). -/
  issuePos : Nat
  /-- Ring position after the last record laid out, wraps counted (R524). -/
  layPos : Nat
  /-- Ring position after the last committed record, wraps counted (R522). -/
  wrPos : Nat
  /-- Ring position up to which short bursts are issued (R508 R540). -/
  flushTo : Nat
  /-- Records laid out and not yet accounted in an index entry (R523 R528). -/
  placed : List Placed
  /-- Bursts on their way to memory (R507). -/
  bursts : List LntBurst
  /-- Committed spans beyond the first one outstanding (R523). -/
  acked : List (Nat × Nat)
  /-- Ring position up to which everything is committed (R523). -/
  commitPos : Nat
  /-- Chunks for which an index entry was written (R528). -/
  chunkDone : Nat
  /-- Failed bursts in a row (R535). -/
  fails : Nat
  /-- The previous capture ended by Engine reset (R519 R543). -/
  prevReset : Bool
  /-- Cause of the stop under way (R519 R540). -/
  stopping : Option Nat
  /-- The PARTIAL entry of the stop has been issued (R529). -/
  partialOut : Bool
deriving DecidableEq, Repr

/-! ### Beacons and the Schedule Unit (11) -/

/-- A Beacon beside its registers (11). -/
structure BcnS where
  /-- The descriptor store (R553). -/
  prog : List Byte
  /-- The fill unit (R550). -/
  fill : List Byte
  /-- How long Playing has gone on, in 1/64 ns of its lanes' transmit clock (R448 R557). -/
  ran : Nat
  /-- Units of the program before the current pass, underruns included (R558). -/
  base : Nat
  /-- Passes of the current segment done (R558). -/
  pass : Nat
  /-- Units sent in finished passes since the last clear (R611). -/
  sent : Nat
  /-- Underrun units of the current pass (R573). -/
  late : Nat
  /-- Latched high bits of the unit count (R611). -/
  unitsHi : BitVec 16
  /-- When in Playing each jump line was set (R568). -/
  lineAt : Vector (Option Nat) 8
  /-- Start held during Loading: its entry and whether it is late (R565 R589). -/
  held : Option (Option Nat × Bool)
  /-- Stream data received and not yet used (R571). -/
  buf : List Byte
  /-- Stream position of the first byte in the buffer (R571). -/
  used : Nat
  /-- Stream position at which the current pass of a STREAM segment begins (R571). -/
  segPos : Nat
  /-- Stream position behind the bursts issued (R570). -/
  next : Nat
  /-- Segment being streamed (R572). -/
  streamSeg : Option Nat
  /-- Pass of that segment of the next burst (R570). -/
  streamPass : Nat
  /-- Offset in that pass of the next burst (R570). -/
  streamOff : Nat
  /-- Stream bursts on their way, with their lengths (R570). -/
  out : List (Nat × Nat)
  /-- Failed stream bursts in a row (R574). -/
  fails : Nat
  /-- Unreadable words of the pattern area accounted in this pass (R573 R785). -/
  badSeen : List Nat
deriving DecidableEq, Repr

/-- A schedule entry (R577), and whether it is late (R587). [log 10 DESIGN CHOICE] -/
structure SchEntry where
  time : BitVec 64
  w2 : Word
  result : Nat
  arg2 : Nat
  late : Bool
deriving DecidableEq, Repr

/-- A statistics group at work (R597 to R603). -/
structure GrpS where
  /-- TT at which the next interval ends, steps followed (R597). -/
  nextEnd : Int
  /-- TT of the previous sample, or START (R600). -/
  prevTt : TT64
  /-- Backbone writes of the snapshot under way (R603). -/
  busy : List Nat
  /-- A write of that snapshot got an error (R603). -/
  failed : Bool
  /-- COMPLETED bit (R607). -/
  done : Bool
  /-- FAILED bit (R607). -/
  fail : Bool
deriving DecidableEq, Repr

/-- The Schedule Unit beside its registers (11). -/
structure SchS where
  /-- Entry 1024 t + i of table t (R577). -/
  tab : List (Nat × SchEntry)
  /-- Staging copies of words 0, 1 and 3 (R578). -/
  stage : List (Nat × SchEntry)
  /-- Pending pulse end of each pin, and the level it returns to (R582). -/
  pulse : Vector (Option (Nat × Bool)) 16
  grps : Vector GrpS 16
  /-- Last nanosecond processed before a freeze (R607). -/
  frozenTt : TT64
  /-- LSC at the freeze (R607). -/
  frozenLsc : BitVec 48
  /-- The retention record has been written (R607). -/
  recorded : Bool
  /-- A table swap is armed (R591). -/
  swapArmed : Bool
  /-- When an armed swap may happen, at the earliest (R592). -/
  swapFrom : Nat
deriving DecidableEq, Repr

/-! ### Event Controller (18) -/

/-- The source states of R883. -/
inductive SrcState where
  | idle | pending | inService
deriving DecidableEq, Repr

/-- One event source: its state, its EVC_SRCn fields, and the target in effect (R881). -/
structure Source where
  /-- Reset Idle -/
  state : SrcState
  /-- Reset false -/
  lost : Bool
  /-- Reset 0 for n < 64, 1 otherwise -/
  en : Bool
  /-- Reset 1 -/
  autoEnd : Bool
  /-- TARGET as written (R907). -/
  cfgTarget : Nat
  /-- The target in effect (R881). -/
  target : Nat
deriving DecidableEq, Repr

/-- The moderation timer while it runs (R890 to R892). -/
structure ModTimer where
  start : Nat
  delay : Nat
  limit : Nat
  count : Nat
deriving DecidableEq, Repr

/-- A released EVENT message (R170, R893). -/
structure HostMsg where
  tag : Byte
  tt : TT64
  bitmap : List Nat
  held : Bool
deriving DecidableEq, Repr

/-- The Event Controller (18). -/
structure EvcS where
  /-- Sources away from their reset (R876). -/
  src : List (Nat × Source)
  /-- Moderation timer (R890). -/
  timer : Option ModTimer
  /-- The held message (R172 R896). -/
  held : Option HostMsg
  /-- Released messages not yet handed to the link (R170). -/
  out : List HostMsg
  /-- TAG of the latest message (R896). -/
  tag : Byte
  /-- EVC_HOST_MOD.COUNT (R907). -/
  count : Byte
  /-- EVC_HOST_MOD.DELAY_NS (R907). -/
  delay : Nat
  /-- EVC_MERGED (R884). -/
  merged : Word
  /-- EVC_MSGS (R907). -/
  msgs : Word
  /-- EVC_STATUS.LOST_ANY (R885). -/
  lostAny : Bool
  /-- EVC_STATUS.BAD_TARGET (R880). -/
  badTarget : Bool
  /-- The core cycle that the next four fields are about (R889). -/
  cycle : Nat
  /-- Sources taken in it (R889). -/
  taken : List Nat
  /-- A message has been released in it (R889 R893). -/
  rel : Bool
  /-- Sources whose events of it were lost, with their LOST bit before (R889). -/
  gone : List (Nat × Bool)
  /-- LOST_ANY before the first of them (R889). -/
  anyBefore : Bool
deriving DecidableEq, Repr

/-! ### Backbone (13) -/

/-- Who waits for the answer to a Backbone request; nobody once its master has been fenced (R707 step 3). -/
inductive Origin where
  | filRead (id word : Nat)
  | filWrite (id word : Nat)
  | filBulk (tag : Byte) (word addr : Nat) (whole : Bool)
  | svpRead
  | svpWrite
  | lantern (n : Nat)
  | beacon (n : Nat)
  | snapshot (g : Nat)
  | taper (core ch : Nat)
  | fabric (master : Nat)
  | nobody
deriving DecidableEq, Repr

/-- A request in the Backbone (R665, R672 to R674): its bytes or their number, its byte enables, its class, its deadline (a TT
as a plain number, which steps and the wrap move, R77) and displacement count, and the rule version its check passed under. -/
structure Req where
  id : Nat
  master : Nat
  write : Bool
  addr : Nat
  len : Nat
  data : List Byte
  be : List Bool
  cls : Nat
  deadline : Int
  displaced : Nat
  version : Nat
  origin : Origin
deriving DecidableEq, Repr

/-- The burst that holds a point, since when, and whether its master withholds its beats. -/
structure Own where
  req : Req
  start : Nat
  withheld : Bool
deriving DecidableEq, Repr

/-- A request that has not been answered: pieces still missing (1 while it waits at its point), the first error, and the
bytes read by address. -/
structure Burst where
  req : Req
  left : Nat
  status : Status
  got : List (Nat × List Byte)
deriving DecidableEq, Repr

/-- The answer to a request, until its master's engine consumes it. -/
structure Reply where
  id : Nat
  origin : Origin
  status : Status
  data : List Byte
deriving DecidableEq, Repr

/-- A hardware lock. -/
structure HwLock where
  owner : Option Nat
  abandoned : Bool
deriving DecidableEq, Repr

/-- An arbitration point (13). -/
structure Point where
  /-- Requests not granted, in issue order (R679). -/
  pending : List Req
  /-- The burst that holds the point (R680). -/
  owner : Option Own
  /-- The next owner, decided (R680). -/
  next : Option Req
  /-- When the window in progress began (R675 R681). -/
  winAt : Option Nat
  /-- Grants in this window (R675). -/
  grants : Nat
  /-- Grants of each class in this window (R676). -/
  classGrants : Vector Nat 4
  /-- Grants of each master in this window (R677). -/
  masterGrants : List (Nat × Nat)
  /-- Master last granted of each class (R679). -/
  rr : Vector Nat 4
  /-- Master last granted in deadline mode (R679). -/
  rrDl : Nat
deriving DecidableEq, Repr

/-- The Backbone beside its registers (13). -/
structure BbS where
  points : Vector Point 21
  /-- Name of the next request (the model's own) (MODEL). -/
  nextId : Nat
  /-- Bursts being gathered or written line by line (R670). -/
  bursts : List Burst
  /-- Answers on the response channels (R671). -/
  done : List Reply
  /-- Fabric master ports whose PANIC input is high (R674). -/
  panicIn : List Nat
  /-- Active access rules (R697). -/
  rules : List (Nat × Word)
  /-- Active ENFORCE (R694 R697). -/
  enforce : Bool
  /-- The set that the latest commit replaced, its version, and when that was (R697 R698). -/
  before : Option (Nat × List (Nat × Word) × Bool × Nat)
  /-- Rule commits since the reset (R697). -/
  version : Nat
  /-- Checked accesses not complete, with their rule version (R700). -/
  inFlight : List (Nat × Nat)
  /-- Reset free, ABANDONED 0 -/
  locks : Vector HwLock 64
  /-- Throttled masters and when their throttle ends (R749). -/
  throttle : List (Nat × Nat)
deriving DecidableEq, Repr

/-! ### Shade (16) -/

/-- How a line is protected, looked up when its operation reaches Shade (R829): the region (16 outside every region),
its mode and ACTION, its key if its slot holds one, the numbers its tweak and tag address come from, and the version of
the active set. -/
structure Prot where
  region : Nat
  mode : Nat
  halt : Bool
  key : Option (List Byte)
  base : Nat
  lbn : Nat
  sector : Nat
  tagBase : Nat
  version : Nat
deriving DecidableEq, Repr

/-- What a commit makes active (R801, R828): the regions, the keys, and the number of the commit. -/
structure ShadeSet where
  regions : List (Nat × Word)
  keys : Vector (Option (List Byte)) 16
  version : Nat
deriving DecidableEq, Repr

/-- Shade beside its registers (16). -/
structure ShdS where
  /-- Active region set (R801). -/
  regions : List (Nat × Word)
  /-- Staged keys (R805). -/
  staged : Vector (Option (List Byte)) 16
  /-- Active keys (R805). -/
  active : Vector (Option (List Byte)) 16
  /-- Slots being loaded (R806). -/
  loading : List Nat
  /-- Commits since the reset (R828). -/
  version : Nat
  /-- The core cycle of the latest commit, and the regions, keys and version before it (R829). -/
  before : Option (Nat × ShadeSet)
  /-- The core cycle of the halt, and whether it wrote SHD_HALT_LOG (R825 R838). -/
  halt : Option (Nat × Bool)
deriving DecidableEq, Repr

/-! ### External memory controllers (14) -/

/-- One line operation at a controller (R737 to R740): the burst it belongs to, its line, the bytes and byte enables of
a write, how the line is protected, and its age. -/
structure MemReq where
  id : Nat
  master : Nat
  write : Bool
  line : Nat
  data : List Byte
  be : List Bool
  prot : Prot
  age : Nat
deriving DecidableEq, Repr

/-- An open row of a bank, with its streak (R739). -/
structure OpenRow where
  bank : Nat
  row : Nat
  streak : Nat
deriving DecidableEq, Repr

/-- A tracker entry (R745). -/
structure TrackEntry where
  bank : Nat
  row : Nat
  count : Nat
  hist : List Nat
deriving DecidableEq, Repr

/-- A memory subchannel beside its registers (14). -/
structure SubS where
  /-- Read queue (R737). -/
  reads : List MemReq
  /-- Write queue (R737). -/
  writes : List MemReq
  /-- Request chosen and not yet performed (R740). -/
  service : Option MemReq
  /-- Write turn (R738). -/
  writeTurn : Bool
  /-- Open rows (R741). -/
  rows : List OpenRow
  /-- Row-disturbance trackers (R745). -/
  track : List TrackEntry
  /-- When each rank's latest refresh fell due (R742). -/
  refAt : Vector Nat 2
  /-- Postponed refreshes of each rank (R743). -/
  postponed : Vector Nat 2
  /-- When the latest retraining was over (R733). -/
  retrainAt : Nat
  /-- Since when a retraining is due (R735). -/
  retrainDue : Option Nat
  /-- When the subchannel entered its state (R723). -/
  since : Nat
  /-- The subchannel's balls have been released, its SDRAM reset deasserted (R234 R237 R238). -/
  driven : Bool
deriving DecidableEq, Repr

/-- A memory controller beside its registers (14). -/
structure CtlS where
  /-- When the tracker window began (R747). -/
  windowAt : Nat
  /-- The devices report 2x refresh rate (R718). -/
  double : Bool
  /-- When the refresh rate was last read (R718). -/
  polledAt : Nat
  /-- An Engine reset waits for self-refresh (R730). -/
  engine : Bool
deriving DecidableEq, Repr

/-- What the check bits of a stored line are: Spare or Full ECC, the tag they hold, and an error in them. -/
structure LineAttr where
  spare : Bool
  tag : List Byte
  mark : Option Mark
deriving DecidableEq, Repr

/-- External memory and its controllers (14). -/
structure MemS where
  /-- External memory as stored, by local address (R717 R720). -/
  bytes : List Host.Cell
  /-- Check bits of each line, by line address (R750 R752). -/
  attr : List (Nat × LineAttr)
  /-- How often each subchannel's contents have been lost (MODEL R194 R724 R928). -/
  lost : Vector Nat 8
  /-- Line operations that have arrived (R740). -/
  age : Nat
  subs : Vector SubS 8
  ctls : Vector CtlS 4
deriving DecidableEq, Repr

/-! ### Staging SRAM (15) -/

/-- A near-side access at a bank's port B (R764): the agent (2 core + channel of a Taper, 16 + n for a word of the FIFO of
Lantern n), what it wants, and where. -/
structure PortB where
  agent : Nat
  write : Bool
  off : Nat
  data : List Byte
  len : Nat
deriving DecidableEq, Repr

/-- What port A did to words in a cycle (R766 to R768): each word with its bytes and check bits before. -/
structure PortALast where
  at_ : Nat
  words : List (Nat × List Byte × Option Mark)
  write : Bool
deriving DecidableEq, Repr

/-- A word that port B wrote: its bytes and check bits before, and that part of the write (R766, R767). -/
structure WordB where
  word : Nat
  old : List Byte
  mark : Option Mark
  req : PortB
deriving DecidableEq, Repr

/-- The words that port B wrote in a cycle, the latest first (R766, R767). -/
structure PortBLast where
  at_ : Nat
  words : List WordB
deriving DecidableEq, Repr

/-- A Staging bank beside its register (15). -/
structure BankS where
  /-- When the bank's transition began (R776). -/
  since : Nat
  /-- The state a transition leads to (R776). -/
  target : Nat
  /-- REQ written during a transition (R778). -/
  held : Option Nat
  /-- On before the entry to standby (R783). -/
  retFrom : Bool
  /-- The state a transition leaves (R776). -/
  source : Nat
  /-- Agent last served by port B (R764). -/
  rr : Nat
deriving DecidableEq, Repr

/-- Staging SRAM (15). -/
structure StgS where
  /-- Staging SRAM by offset (R761 R762). -/
  bytes : List Host.Cell
  /-- Words whose check bits are not what they were at reset, by word number (R762). -/
  mark : List (Nat × Option Mark)
  /-- How often each bank's contents have been lost (MODEL R776 R782). -/
  lost : Vector Nat 48
  /-- Accesses accepted at port A, oldest first (R763). -/
  portA : List Req
  /-- Near-side accesses waiting, oldest first (R764). -/
  portB : List PortB
  /-- Latest port A access (R766). -/
  lastA : Option PortALast
  /-- What port B wrote in its latest cycle (R766 R767). -/
  lastB : Option PortBLast
  /-- Agents whose latest write got COLLIDED (R766). -/
  collided : List Nat
  banks : Vector BankS 48
  /-- Next word of the scrubber (R790). -/
  scrub : Nat
  /-- When the scrubber read its latest word (R790). -/
  scrubAt : Nat
deriving DecidableEq, Repr

/-! ### Psiom store (17) -/

/-- What a program unit of the store holds (R841, R849): erased, data with good check bits, data with an error in them,
or what a failed verify left. -/
inductive UnitS where
  | erased | good | correctable | uncorrectable | unverified
deriving DecidableEq, Repr

/-- The sector states of R858. -/
inductive SecState where
  | erased | written | erasing | suspended | incomplete | bad
deriving DecidableEq, Repr

/-- A sector's status record. -/
structure Sector where
  state : SecState
  erases : Nat
  worn : Bool
deriving DecidableEq, Repr

/-- A command that runs (R848, R850, R869, R871): 1 PROGRAM, 2 ERASE, 3 key WRITE, 4 key ERASE; the sectors it still
has to erase, the slices run on the first of them, the units it still has to program, and whether SUSPEND waits. -/
structure PsmCmd where
  op : Nat
  sectors : List Nat
  slices : Nat
  units : List (Nat × List Byte)
  suspend : Bool
deriving DecidableEq, Repr

/-- A read of the store window that waits to be served (R843, R855). -/
structure PsmRead where
  id : Nat
  addr : Nat
  len : Nat
deriving DecidableEq, Repr

/-- The Psiom store (17). -/
structure PsmS where
  /-- The store's bytes (R840). -/
  bytes : List Host.Cell
  /-- Program units that are not erased (R841). -/
  units : List (Nat × UnitS)
  /-- Status records (R858). -/
  sectors : List (Nat × Sector)
  /-- Command running (R847). -/
  cmd : Option PsmCmd
  /-- Erase that is suspended (R852). -/
  suspended : Option PsmCmd
  /-- PSM_KEY_BUF (R869). -/
  keyBuf : List Byte
  /-- Window reads that wait (R855). -/
  reads : List PsmRead
  /-- Which of the three copies of the trim pass their check (R846). -/
  trim : Vector Bool 3
  /-- The copy of the trim in use; none is the default trim (R846). -/
  trimUse : Option (Fin 3)
  /-- Next unit of the store scan (R921). -/
  scan : Nat
  /-- Sectors whose erase began during a load from the store (R874). -/
  cut : List Nat
  /-- When the store scan read its latest unit (R921). -/
  scanAt : Nat
  /-- When the erase slice under way began (R226, R850). -/
  sliceAt : Nat
deriving DecidableEq, Repr

/-! ### Detectors (19) -/

/-- A log entry (R916). -/
structure RasEntry where
  at_ : Nat
  tt : TT64
  inj : Bool
  det : Nat
  inst : Nat
  kind : Nat
  addr : Nat
  info : Nat
deriving DecidableEq, Repr

/-- Detectors, scrubbers and the watchdog (19). -/
structure RasS where
  /-- Error log, oldest first (R914). -/
  log : List RasEntry
  /-- Time the watchdog has counted (R926). -/
  wdogRun : Nat
  /-- Next line of the external memory scrubber (R918). -/
  mcPos : Nat
  /-- Next block RAM word of its scrubber (R920). -/
  bramPos : Nat
  /-- When the block RAM scrubber read its latest word (R920). -/
  bramAt : Nat
  /-- When the memory scrubber read its latest line (R918). -/
  mcAt : Nat
deriving DecidableEq, Repr

/-! ### Taper cores (12) -/

/-- A loop entry (R621): the count, and the first and last instruction of the body. -/
structure Loop where
  count : Nat
  first : Nat
  last : Nat
  cached : Bool
deriving DecidableEq, Repr

/-- The repeat cache (R638): the body's first address, its words, and whether the first pass has filled it. -/
structure Cache where
  first : Nat
  words : List Word
  full : Bool
deriving DecidableEq, Repr

/-- A word that instructions already fetched still execute as it was (R643, R644). -/
structure Stale where
  addr : Nat
  word : Word
  left : Nat
deriving DecidableEq, Repr

/-- A DMA channel (R649 to R652): the descriptor's place, its fields, how many bytes have been issued and how many are
done, whether a burst is on its way, the local bytes it reserved or sends, and the first failure's status. -/
structure Chan where
  busy : Bool
  desc : Nat
  ext : Nat
  len : Nat
  space : Nat
  word : Nat
  toExt : Bool
  evt : Bool
  chain : Bool
  next : Nat
  issued : Nat
  done : Nat
  err : Option Status
deriving DecidableEq, Repr

/-- A Backbone access to a core's memories that waits for a free cycle (R615). -/
structure TprAcc where
  id : Nat
  off : Nat
  write : Bool
  data : List Byte
  len : Nat
deriving DecidableEq, Repr

/-- A Taper core (12). -/
structure TaperCore where
  /-- Core registers by number (lc is the top loop's count) (R617 R645). -/
  regs : Vector (BitVec 16) 40
  /-- Accumulators a0 and a1 (R617 R645). -/
  acc : Vector (BitVec 40) 2
  /-- Call stack, top first (R621). -/
  calls : List Nat
  /-- Loop stack, top first (R621). -/
  loops : List Loop
  /-- Repeat cache (R638). -/
  cache : Option Cache
  /-- Words already fetched before a write (R643 R644). -/
  stale : List Stale
  /-- P RAM (R613 R616). -/
  pram : List (Nat × Word)
  /-- X RAM (R613 R616). -/
  xram : List (Nat × BitVec 16)
  /-- Y RAM (R613 R616). -/
  yram : List (Nat × BitVec 16)
  /-- P words whose parity is wrong (R616). -/
  badP : List Nat
  /-- X words whose parity is wrong (R616). -/
  badX : List Nat
  /-- Y words whose parity is wrong (R616). -/
  badY : List Nat
  /-- Time counted by the watchdog while Running (R653). -/
  wdogRun : Nat
  /-- When the core last became Running or the watchdog restarted (R653). -/
  wdogFrom : Nat
  chans : Vector Chan 2
  /-- Backbone accesses to the core's memories that wait (R615). -/
  access : List TprAcc
deriving DecidableEq, Repr

/-! ### The whole part -/

/-- The state of one HX-9640 unit. -/
structure State where
  /-- Every register of the register tables away from its reset value -/
  regs : List (Nat × Word)
  clk : Clk
  /-- Answer to the latest register request (R115). -/
  resp : Option Response
  tt : TtS
  fil : FilS
  rst : RstS
  jtag : TapS
  svp : SvpS
  bfp : BfpS
  cfg : CfgS
  rgn : Vector RgnS 24
  fab : FabS
  xcv : Vector XcvS 64
  lnt : Vector LntS 16
  bcn : Vector BcnS 16
  sch : SchS
  tpr : Vector TaperCore 8
  bb : BbS
  mem : MemS
  stg : StgS
  shd : ShdS
  psm : PsmS
  evc : EvcS
  ras : RasS
  /-- Commands that wait, first in, first out (MODEL). -/
  pending : List Instr
deriving DecidableEq, Repr

/-- What executing a command answers. -/
abbrev Out := Host.Outcome State Fault Refusal

/-! ### Values after reset -/

/-- A link after reset, in a state (R131, R162). -/
def Link.init (st : LinkState) : Link :=
  { state := st, fromDown := true, waking := false, ready0 := 0, ready1 := 0, since := 0, activeAt := 0, lastRx := 0
    neighbour := 0, initCredits := Vector.replicate 4 0, credits := Vector.replicate 4 0, owed := Vector.replicate 4 0
    room := #v[16, 16, 8, 32], words := [], queue := [], unacked := [], replay := [], unackedAt := 0, txSeq := 0, rxSeq := 0
    accepted := 0, nakSent := false, ackOwed := 0, rr := 0, wire := none, blockNo := 0, blocks := []
    scr := Vector.replicate 2 0 }

/-- Tester Time after a power-on reset (R47, log 8). -/
def TtS.init : TtS :=
  { tt := 0, run := 0, latchHi := 0, slew := none, slewAcc := 0, step := none, lastStep := none, phasePending := true
    refKhz := 10000, refLocked := false, holdRx := false, trimmed := false, missed := 0, hopMeas := []
    echoTag := 0, echoAt := none, echoNext := 0, syncIdx := 0, syncAt := 0, badSync := none, lsc := 0, lscRem := 0, frozeAt := none, lscHi := 0, lscHist := [], ttHist := []
    cmpArmed := Vector.replicate 4 false
    cmpOut := Vector.replicate 4 false, cmpIn := Vector.replicate 3 0, wakePin := false }

/-- The chain port after a power-on reset (R127, R131). -/
def FilS.init : FilS :=
  { us := Link.init .training, ds := Link.init .idleHeld, addr := 0, moveDue := false, wakeIn := false, inbox := [], behind := []
    upQueue := [], enumSeen := false, enumTold := none, enumHeld := none, reads := [], writes := [], bulks := [], bulkTodo := []
    bulkRds := [], resetAt := none, nextReq := 0 }

/-- The boot policy when the boot record fails its check (R203, R864). -/
def Boot.init : Boot :=
  { blank := true, cfgSrc := 0, cfgAddr := 0, failLimit := 3, timeoutMs := 0, memInit := 0, mcCfg := [0, 0, 0, 0]
    populated := 0, bfpCs := 0, freq := 0, dummy := 0, entry := [] }

/-- Reset and power control after the power-on bring-up, all of whose steps have begun. -/
def RstS.init : RstS :=
  { coreUp := true, powered := true, bringAt := 0, phase := 8, bringFrom := none, doneAt := none, warm := none, warmAt := 0
    deferred := none, resetN := true, engines := [], bowAt := none, corePwrEn := true, exiting := false, ioReleased := false, bfpReleased := false, addrBad := false
    boot := Boot.init }

/-- A region after reset (R360). -/
def RgnS.init : RgnS :=
  { drainAt := none, again := false, claimed := false, clamped := true, clocks := false, initAt := none
    nextCause := none, hold := [] }

/-- A UART after reset (R422). -/
def Uart.init : Uart :=
  { tx := [], shift := none, rx := [], cfg := 3, baud := 0x364, thresh := 16, pend := 0, irqEn := 0, ctsHigh := true
    lastRead := 0, lastRx := 0 }

/-- The fabric's hard resources after reset. -/
def FabS.init : FabS :=
  { bram := [], bramMark := [], bramLast := [], bramOut := 0, collided := false, eccCorr := false, eccUncorr := false
    uarts := Vector.replicate 4 Uart.init, evt := 0, slv := [], flops := Vector.replicate 25 []
    pewter := Vector.replicate 25 [], ttPort := 0 }

/-- The instruction BYPASS: every bit 1 (IEEE 1149.1), in a register of at least two bits. [log 125 PRESUMED] -/
def tapBypass : List Bool := List.replicate (max 2 Config.tapIrLength) true

/-- The JTAG port in Test-Logic-Reset. [log 125 PRESUMED] -/
def TapS.init : TapS := { state := .reset, ir := tapBypass, shift := [], boundary := [], tdo := [] }

/-- The Service Port after reset. -/
def SvpS.init : SvpS := { wr := [], wrWait := [], rd := none, ret := [], take := false, takeAt := none }

/-- The Boot Flash Port after reset. -/
def BfpS.init : BfpS := { cmd := none, issued := [], relAt := none }

/-- The configuration engine after reset. -/
def CfgS.init : CfgS :=
  { load := none, waiting := [], held := [], heldFull := false, frames := [], refs := [], lastVerify := 0, starting := [] }

/-- A lane after reset. -/
def XcvS.init : XcvS :=
  { since := 0, bits := 0, errs := 0, eye := none, txLive := 0, marked := false, up := false, txRem := 0, txPos := 0
    txQueue := [], txOut := [], txScr := BitVec.allOnes 58, txPlus := false, txLast := none, gen := BitVec.allOnes 31
    rxBits := [], rxWord := [], rxScr := BitVec.allOnes 58, chk := 0, chkRun := 0, chkBits := 0, chkErrs := 0, fecBad := 0 }

/-- A tap after reset. -/
def Tap.init : Tap := { tsc := 0, window := [], frame := none, keeping := false, loss := none, bytesHi := 0, fecBad := 0 }

/-- A Lantern after reset. -/
def LntS.init : LntS :=
  { taps := Vector.replicate 4 Tap.init, cycleHits := 0, starts := 0, errFrames := 0, mhits := Vector.replicate 8 0
    seqAt := 0, seq := 0, again := [], sent := [], fifoSince := 0, issuePos := 0, layPos := 0, wrPos := 0, flushTo := 0, placed := []
    bursts := [], acked := [], commitPos := 0, chunkDone := 0, fails := 0, prevReset := false, stopping := none
    partialOut := false }

/-- A Beacon after reset. -/
def BcnS.init : BcnS :=
  { prog := [], fill := [], ran := 0, base := 0, pass := 0, sent := 0, late := 0, unitsHi := 0
    lineAt := Vector.replicate 8 none, held := none, buf := [], used := 0, segPos := 0, next := 0, streamSeg := none
    streamPass := 0, streamOff := 0, out := [], fails := 0, badSeen := [] }

/-- A statistics group after reset. -/
def GrpS.init : GrpS := { nextEnd := 0, prevTt := 0, busy := [], failed := false, done := false, fail := false }

/-- The Schedule Unit after reset. -/
def SchS.init : SchS :=
  { tab := [], stage := [], pulse := Vector.replicate 16 none, grps := Vector.replicate 16 GrpS.init, frozenTt := 0
    frozenLsc := 0, recorded := false, swapArmed := false, swapFrom := 0 }

/-- A DMA channel after reset. -/
def Chan.init : Chan :=
  { busy := false, desc := 0, ext := 0, len := 0, space := 0, word := 0, toExt := false, evt := false, chain := false
    next := 0, issued := 0, done := 0, err := none }

/-- A Taper core after a power-on reset (R645; its memories: log 9). -/
def TaperCore.init : TaperCore :=
  { regs := Vector.replicate 40 0, acc := Vector.replicate 2 0, calls := [], loops := [], cache := none, stale := []
    pram := [], xram := [], yram := [], badP := [], badX := [], badY := [], wdogRun := 0, wdogFrom := 0
    chans := Vector.replicate 2 Chan.init, access := [] }

/-- An arbitration point after reset (R679, log 11). -/
def Point.init : Point :=
  { pending := [], owner := none, next := none, winAt := none, grants := 0, classGrants := Vector.replicate 4 0
    masterGrants := [], rr := Vector.replicate 4 127, rrDl := 127 }

/-- The Backbone after reset (R716). -/
def BbS.init : BbS :=
  { points := Vector.replicate 21 Point.init, nextId := 0, bursts := [], done := [], panicIn := [], rules := []
    enforce := false, before := none, version := 0, inFlight := [], locks := Vector.replicate 64 ⟨none, false⟩, throttle := [] }

/-- A memory subchannel after reset. -/
def SubS.init : SubS :=
  { reads := [], writes := [], service := none, writeTurn := false, rows := [], track := [], refAt := Vector.replicate 2 0
    postponed := Vector.replicate 2 0, retrainAt := 0, retrainDue := none, since := 0, driven := false }

/-- A memory controller after reset. -/
def CtlS.init : CtlS := { windowAt := 0, double := false, polledAt := 0, engine := false }

/-- External memory after a power-on reset (log 9). -/
def MemS.init : MemS :=
  { bytes := [], attr := [], lost := Vector.replicate 8 0, age := 0, subs := Vector.replicate 8 SubS.init, ctls := Vector.replicate 4 CtlS.init }

/-- A Staging bank after reset (R782). -/
def BankS.init : BankS := { since := 0, target := 0, held := none, retFrom := false, source := 0, rr := 15 }

/-- Staging SRAM after a power-on reset (log 9). -/
def StgS.init : StgS :=
  { bytes := [], mark := [], lost := Vector.replicate 48 0, portA := [], portB := [], lastA := none, lastB := none, collided := []
    banks := Vector.replicate 48 BankS.init, scrub := 0, scrubAt := 0 }

/-- Shade after a power-on reset with no key in the store. -/
def ShdS.init : ShdS :=
  { regions := [], staged := Vector.replicate 16 none, active := Vector.replicate 16 none, loading := [], version := 0
    before := none, halt := none }

/-- An erased Psiom store (log 12). -/
def PsmS.init : PsmS :=
  { bytes := [], units := [], sectors := [], cmd := none, suspended := none, keyBuf := List.replicate 96 0, reads := []
    trim := Vector.replicate 3 true, trimUse := some 0, cut := [], scan := 0, scanAt := 0, sliceAt := 0 }

/-- The Event Controller after reset (R904). -/
def EvcS.init : EvcS :=
  { src := [], timer := none, held := none, out := [], tag := 0, count := 0, delay := 0, merged := 0, msgs := 0
    lostAny := false, badTarget := false, cycle := 0, taken := [], rel := false, gone := [], anyBefore := false }

/-- The detectors after a power-on reset. -/
def RasS.init : RasS := { log := [], wdogRun := 0, mcPos := 0, bramPos := 0, bramAt := 0, mcAt := 0 }

/-- The part right after the bring-up that follows power-on, its Psiom store erased: every register at its table's reset
value, but for the start timeout, which a blank boot record turns off (R203, R254), and the record of that blank (R864).
[log 3 DESIGN CHOICE, log 4 DESIGN CHOICE, log 8 DESIGN CHOICE, log 9 DESIGN CHOICE, log 10 DESIGN CHOICE, log 11
DESIGN CHOICE, log 12 DESIGN CHOICE] -/
def State.reset : State :=
  { regs := [(R.RST_START_TIMEOUT, 0), (R.PSM_STATUS, 0x1000)]
    clk := ⟨0, 0⟩, resp := none, tt := TtS.init, fil := FilS.init, rst := RstS.init, jtag := TapS.init
    svp := SvpS.init, bfp := BfpS.init, cfg := CfgS.init
    rgn := Vector.replicate 24 RgnS.init, fab := FabS.init, xcv := Vector.replicate 64 XcvS.init
    lnt := Vector.replicate 16 LntS.init, bcn := Vector.replicate 16 BcnS.init, sch := SchS.init
    tpr := Vector.replicate 8 TaperCore.init, bb := BbS.init, mem := MemS.init, stg := StgS.init, shd := ShdS.init
    psm := PsmS.init, evc := EvcS.init, ras := RasS.init, pending := [] }

end Sys2Proof.Machine
end

