-- ==== Sys2Proof/Machine/Ops.lean ====
section
/-!
DEFINITION. Sys2Proof/Machine/Ops.lean: the named operations over registers, Tester Time and free values, and the
checks that a partner's register request passes before it acts.
-/

namespace Sys2Proof.Machine

/-! ### Registers -/

/-- The word a register holds (R9). -/
def State.rd (s : State) (a : Nat) : Word := sget resetValue s.regs a

/-- Store a register's word. -/
def State.wr (s : State) (a : Nat) (v : Word) : State := { s with regs := sset resetValue s.regs a v }

/-- The value of a field. -/
def State.get (s : State) (f : Field) : Nat := (fieldGet (s.rd f.addr) f.hi f.lo).toNat

/-- Set a field to a value, cut to the field's width. -/
def State.set (s : State) (f : Field) (v : Nat) : State :=
  s.wr f.addr (fieldSet (s.rd f.addr) f.hi f.lo (BitVec.ofNat 32 v))

/-- A field read as a flag. -/
def State.flag (s : State) (f : Field) : Bool := s.get f != 0

/-- Set a field to a flag. -/
def State.setB (s : State) (f : Field) (b : Bool) : State := s.set f (b2n b)

/-- Add one to a saturating count. -/
def State.incSat (s : State) (f : Field) : State := s.set f (satInc (s.get f) (2 ^ (f.hi + 1 - f.lo) - 1))

/-- Add to a wrapping count. -/
def State.addWrap (s : State) (f : Field) (n : Nat) : State := s.set f (s.get f + n)

/-- A field's bits of a word being written. -/
def Field.of (f : Field) (v : Word) : Nat := (fieldGet v f.hi f.lo).toNat

/-- A field's bits of a word being written, as a flag. -/
def Field.on (f : Field) (v : Word) : Bool := f.of v != 0

/-- Two 32-bit registers as one value, low word first (R40). -/
def State.get64 (s : State) (lo hi : Nat) : Nat := (s.rd lo).toNat + 2 ^ 32 * (s.rd hi).toNat

/-- Store a value in two 32-bit registers, low word first (R40). -/
def State.set64 (s : State) (lo hi : Nat) (v : Nat) : State :=
  (s.wr lo (BitVec.ofNat 32 v)).wr hi (BitVec.ofNat 32 (v / 2 ^ 32))

/-- The mask of the bits of a register that have one of the access codes. -/
def accMask (a : Nat) (p : FieldSpec → Bool) : Word :=
  match findRow a with
  | none => 0
  | some r => r.mask p

/-- A whole-word write under the access codes of R11: RW bits are set, W1C bits cleared, W1S bits set, every other
bit, Reserved ones included (R978), keeps its value. -/
def State.writeByAcc (s : State) (a : Nat) (v : Word) : State :=
  let rw := accMask a (fun f => f.acc == .rw)
  let c := accMask a (fun f => f.acc == .w1c)
  let t := accMask a (fun f => f.acc == .w1s)
  let old := s.rd a
  s.wr a ((((old &&& ~~~ rw) ||| (v &&& rw)) &&& ~~~ (v &&& c)) ||| (v &&& t))

/-- What a read returns under R11 and R12: WO and Reserved bits read as zero. -/
def State.readByAcc (s : State) (a : Nat) : Word := s.rd a &&& accMask a (fun f => f.acc != .wo)

/-- The state after a read: RC fields clear (R11). -/
def State.clearByAcc (s : State) (a : Nat) : State :=
  let rc := accMask a (fun f => f.acc == .rc)
  if rc = 0 then s else s.wr a (s.rd a &&& ~~~ rc)

/-- Return to their reset values the fields whose Restored by value is among the given ones (R14). [log 17 DEDUCED] -/
def restoreRegs (p : Scope → Bool) (m : List (Nat × Word)) : List (Nat × Word) :=
  m.filterMap fun (a, w) =>
    let k := accMask a (fun f => p f.scope)
    let v := (w &&& ~~~ k) ||| (resetValue a &&& k)
    if v = resetValue a then none else some (a, v)

/-- Registers of an address range whose fields have one of the scopes return to their reset values. -/
def restoreIn (lo hi : Nat) (p : Scope → Bool) (m : List (Nat × Word)) : List (Nat × Word) :=
  m.filterMap fun (a, w) =>
    if lo ≤ a ∧ a ≤ hi then
      let k := accMask a (fun f => p f.scope)
      let v := (w &&& ~~~ k) ||| (resetValue a &&& k)
      if v = resetValue a then none else some (a, v)
    else some (a, w)

/-! ### Time and free values -/

/-- Count one free value as drawn. [log 2 DESIGN CHOICE] -/
def State.draw (s : State) : State := { s with clk := { s.clk with freeCtr := s.clk.freeCtr + 1 } }

/-- The free value that the next draw takes. [log 2 DESIGN CHOICE] -/
def State.free (s : State) : Nat := Config.freeValue s.clk.freeCtr

/-- The whole nanoseconds of a TT value (R39). -/
def ttNs (t : TT64) : Nat := t.toNat / 64

/-- A TT value moved by a signed count of 1/64 ns. -/
def ttAdd (t : TT64) (d : Int) : TT64 := t + BitVec.ofInt 64 d

/-- How far a TT value lies ahead of another, as a signed count of 1/64 ns. -/
def ttDiff (a b : TT64) : Int := (a - b).toInt

/-- Elapsed TT in nanoseconds: it stands still with TT, and no step, load or wrap moves it (R1, R76).
[log 110 DEDUCED] -/
def State.elapsed (s : State) : Nat := s.tt.run / 64

/-- The deadline of a request issued now with `ns` of slack (R510, R570, R602, R650, R673). -/
def State.deadlineIn (s : State) (ns : Nat) : Int := ((s.tt.tt.toNat + 64 * ns : Nat) : Int)

/-- TT shown with fraction zero. -/
def ttFloor (t : TT64) : TT64 := t &&& ~~~ (63#64)

/-! ### Who owns the register space, and what a request answers -/

/-- The partner that owns the register space (R6, R37). -/
def State.owner (s : State) : Partner := if s.flag F.OWN_STATUS_OWNER then .fil else .svp

/-- The part is halted by a Shade integrity failure (R825). -/
def State.halted (s : State) : Bool := s.flag F.SHD_STATUS_HALTED

/-- The core works: it is out of reset and no Shade failure has halted it (R825). -/
def State.works (s : State) : Bool := s.rst.coreUp && !s.halted

/-- The fabric clocks run: not in standby, not in deep sleep, not halted (R241, R825). -/
def State.fabricOn (s : State) : Bool := s.works && s.get F.PWR_STATUS_STATE == 0

/-- The part is in Nightlight mode (R218). -/
def State.nightlight (s : State) : Bool := s.flag F.RST_FAIL_NIGHTLIGHT

/-- The local address lies in the restricted register set of Nightlight mode (R220). [log 14 DEDUCED] -/
def inRestricted (a : Nat) : Bool :=
  (0x00F000000000 ≤ a && a ≤ 0x00F00003FFFF) || (0x00F000A00000 ≤ a && a ≤ 0x00F000A0FFFF) ||
  (0x00F000B00000 ≤ a && a ≤ 0x00F000B0FFFF) ||
  (0x00F000FF0000 ≤ a && a ≤ 0x00F000FFFFFF) || (0x00F800000000 ≤ a && a ≤ 0x00F8007FFFFF)

/-- An access of the Service Port to SVP_HOLD in the cycle in which the chain address has arrived comes before the move of the
token (R36). -/
def beforeMove (s : State) (p : Partner) (a : Nat) : Bool := s.fil.moveDue && p == .svp && a == R.SVP_HOLD

/-- The checks a partner's request passes when it enters (R7, R32, R36, R186, R187): none when it may act. [log 14 DEDUCED] -/
def State.gate (s : State) (p : Partner) (a : Nat) : Option Status :=
  if s.halted then some .halted
  else if s.owner ≠ p && !beforeMove s p a then some .notOwner
  else if s.nightlight && !inRestricted a then some .restricted
  else none

/-- Record the answer to a register request. [log 114 DESIGN CHOICE] -/
def State.answer (s : State) (p : Requester) (st : Status) (data : Word) : State :=
  { s with resp := some ⟨p, st, data⟩ }

/-- The Service Port is accepted: the core is out of reset and bring-up step 5 has begun (R201, R205). -/
def State.svpUp (s : State) : Bool := s.rst.coreUp && decide (5 ≤ s.rst.phase)

/-- The Filament ports work: bring-up step 8 has begun (R201). -/
def State.filUp (s : State) : Bool := s.rst.coreUp && decide (8 ≤ s.rst.phase)

/-- A partner's request can reach the part: its port has been opened by the bring-up, and a Filament request needs an address
(R125, R201). [log 14 DEDUCED] -/
def State.reaches (s : State) (p : Partner) : Bool :=
  match p with
  | .svp => s.svpUp
  | .fil => s.filUp && s.fil.addr != 0

/-- A partner's write of the register at `a`: checked (R7, R32), then the write's effect, then the answer.
[log 14 DEDUCED] -/
def viaPartner (p : Partner) (a : Nat) (effect : State → State) (s : State) : State :=
  if s.reaches p then
    match s.gate p a with
    | some e => s.answer (.partner p) e 0
    | none => (effect s).answer (.partner p) .ok 0
  else s

/-- A partner's read of the register at `a`: checked, then the value and the read's effect. -/
def viaPartnerRead (p : Partner) (a : Nat) (read : State → Word × State) (s : State) : State :=
  if s.reaches p then
    match s.gate p a with
    | some e => s.answer (.partner p) e 0
    | none => (read s).2.answer (.partner p) .ok (read s).1
  else s

/-- The command has no effect unless its condition holds. -/
def whenB (c : Bool) (f : State → State) (s : State) : State := if c then f s else s

/-- Apply an effect for each element of a list, in order. -/
def forEach {α : Type} (l : List α) (f : α → State → State) (s : State) : State := l.foldl (fun s x => f x s) s

/-- The numbers of the bits set in the low `n` bits of a mask, ascending. -/
def maskBits (n m : Nat) : List Nat := (List.range n).filter (fun i => bitOf m i)

/-- A number as one of `n + 1`, taken modulo. -/
def finOf (n : Nat) (i : Nat) : Fin (n + 1) := Fin.ofNat (n + 1) i

/-- What the check bits of lost contents find is free (log 9). [log 9 DESIGN CHOICE] -/
def lostMark (v : Nat) : Option Mark :=
  match v % 4 with
  | 0 => none
  | 1 => some (.correctable false)
  | 2 => some (.uncorrectable false)
  | _ => some .poison

end Sys2Proof.Machine
end

