-- ==== Sys2Proof/Machine/Evc.lean ====
section
/-!
DEFINITION. Sys2Proof/Machine/Evc.lean: the Event Controller (18_event_controller.md): source states, routing, host
moderation, and the commands that raise, take and end sources.
-/

namespace Sys2Proof.Machine

/-- A source after a reset (R904, R907). -/
def Source.init (n : Nat) : Source := ⟨.idle, false, decide (64 ≤ n), true, 0, 0⟩

/-- The state of source `n`. -/
def EvcS.source (e : EvcS) (n : Nat) : Source := sget Source.init e.src n

/-- Replace the state of source `n`. -/
def EvcS.put (e : EvcS) (n : Nat) (x : Source) : EvcS := { e with src := sset Source.init e.src n x }

/-- A source that returns to Idle takes the target written meanwhile (R881). -/
def Source.toIdle (x : Source) : Source := { x with state := .idle, target := x.cfgTarget }

/-- What the Event Controller reads of the rest of the part. [log 109 DEDUCED] -/
structure EvcEnv where
  allowed : Bool
  linkActive : Bool
  now : Nat
  tt : TT64
  cycle : Nat
  level253 : Bool
  level255 : Bool
deriving DecidableEq, Repr

/-- Source 253 is defined by the level of RGN_EVENT and RGN_FAULT, source 255 by the level of XCV_EVT (R391, R483).
[log 109 DEDUCED] -/
def State.evcEnv (s : State) : EvcEnv :=
  { allowed := s.fil.addr != 0 && !s.halted
    linkActive := s.fil.us.state == .active
    now := s.tt.run
    tt := s.tt.tt
    cycle := s.clk.now
    level253 := s.rd R.RGN_EVENT != 0 || s.rd R.RGN_FAULT != 0
    level255 := s.rd (R.XCV_EVT 0) != 0 || s.rd (R.XCV_EVT 1) != 0 }

/-- The host-targeted sources that are Pending, ascending. -/
def EvcS.hostPending (e : EvcS) : List Nat :=
  (e.src.filter fun p => decide (p.2.state = .pending ∧ p.2.target = 0)).map (·.1)

/-- What has happened in this core cycle; nothing yet in a new one (R889). [log 128 DEDUCED] -/
def EvcS.fresh (e : EvcS) (v : EvcEnv) : EvcS :=
  if e.cycle = v.cycle then e else { e with cycle := v.cycle, taken := [], rel := false, gone := [], anyBefore := false }

/-- An event merges (R884): EVC_MERGED, saturating. -/
def EvcS.merge (e : EvcS) : EvcS := { e with merged := if e.merged = BitVec.allOnes 32 then e.merged else e.merged + 1 }

/-- The level of a source that a level defines (R877). -/
def EvcEnv.level (v : EvcEnv) (n : Nat) : Bool := (n == 253 && v.level253) || (n == 255 && v.level255)

/-- Start the moderation timer with a count, taking DELAY_NS and COUNT (R890, R892); it measures elapsed TT (R76, R894). [log 110 DEDUCED] -/
def EvcS.startTimer (e : EvcS) (v : EvcEnv) (count : Nat) : EvcS :=
  { e with timer := some ⟨v.now, e.delay, e.count.toNat, count⟩ }

/-- A level source whose service has ended is raised again while its level is 1 (R877). [log 109 DEDUCED] -/
def EvcS.relevel (v : EvcEnv) (e : EvcS) (n : Nat) : EvcS :=
  if v.level n && (e.source n).en && (e.source n).state == .idle then
    let first := e.hostPending.isEmpty
    let e := e.put n { e.source n with state := .pending }
    if (e.source n).target = 0 && first && e.timer.isNone && e.held.isNone && v.allowed then e.startTimer v 1 else e
  else e

/-- A host-targeted source is taken by the release of its message (R886, R887). -/
def EvcS.takeHost (e : EvcS) (n : Nat) : EvcS :=
  let x := e.source n
  { e.put n (if x.autoEnd then x.toIdle else { x with state := .inService }) with taken := n :: e.taken }

/-- Release the message that names every Pending host-targeted source; nothing is released when none is Pending
(R893). The link being away, the message is held (R172, R895). -/
def EvcS.release (e : EvcS) (v : EvcEnv) : EvcS :=
  let e := e.fresh v
  let l := e.hostPending
  if l.isEmpty then { e with timer := none }
  else
    let tag := e.tag + 1
    let msg : HostMsg := ⟨tag, v.tt, l, !v.linkActive⟩
    let e := { l.foldl EvcS.takeHost e with
      timer := none, rel := true, tag := tag, msgs := if e.msgs = BitVec.allOnes 32 then e.msgs else e.msgs + 1 }
    let e := if v.linkActive then { e with out := e.out ++ [msg] } else { e with held := some msg }
    l.foldl (EvcS.relevel v) e

/-- Release at once when the timer has no time to run or the count is reached (R892). [log 110 DEDUCED] -/
def EvcS.releaseIfDue (e : EvcS) (v : EvcEnv) : EvcS :=
  match e.timer with
  | none => e
  | some t =>
    if t.start + 64 * t.delay ≤ v.now || (t.limit != 0 && decide (t.limit ≤ t.count)) then e.release v else e

/-- Start the timer for the sources already Pending (R895, R897). -/
def EvcS.startPending (e : EvcS) (v : EvcEnv) : EvcS :=
  if v.allowed && e.timer.isNone && e.held.isNone && !e.hostPending.isEmpty then
    (e.startTimer v e.hostPending.length).releaseIfDue v
  else e

/-- A host-targeted event that made its source Pending or merged is counted while the timer runs (R891). -/
def EvcS.countHost (e : EvcS) (v : EvcEnv) (first : Bool) : EvcS :=
  match e.timer with
  | some t => EvcS.releaseIfDue { e with timer := some { t with count := t.count + 1 } } v
  | none => if first && e.held.isNone && v.allowed then (e.startTimer v 1).releaseIfDue v else e

/-- A message with one more source in its bitmap. -/
def HostMsg.add (m : HostMsg) (n : Nat) : HostMsg := { m with bitmap := m.bitmap.filter (· < n) ++ n :: m.bitmap.filter (n < ·) }

/-- The message released in this cycle is still in the unit. -/
def EvcS.released (e : EvcS) : Bool := e.rel && (e.held.isSome || !e.out.isEmpty)

/-- An event in the cycle of a message release is carried by that message (R889, R893, R906). [log 128 DEDUCED] -/
def EvcS.carry (e : EvcS) (n : Nat) : EvcS :=
  let e := match e.held, e.out.reverse with
    | some m, _ => { e with held := some (m.add n) }
    | none, m :: l => { e with out := (m.add n :: l).reverse }
    | none, [] => e
  e.takeHost n

/-- One event on source `n` (R882, R884, R885); one in the cycle of a take is carried by that take (R889). [log 128 DEDUCED] -/
def EvcS.event (e : EvcS) (v : EvcEnv) (n : Nat) : EvcS :=
  let x := e.source n
  if !x.en then e
  else
    let e := e.fresh v
    match x.state with
    | .idle =>
      if e.taken.contains n then e.merge
      else if x.target = 0 && e.released then e.carry n
      else
        let first := e.hostPending.isEmpty
        let e := e.put n { x with state := .pending }
        if x.target = 0 then e.countHost v first else e
    | .pending => if x.target = 0 then e.merge.countHost v false else e.merge
    | .inService =>
      if e.taken.contains n then e.merge
      else
        { e.put n { x with lost := true } with
          lostAny := true, gone := e.gone ++ [(n, x.lost)], anyBefore := if e.gone.isEmpty then e.lostAny else e.anyBefore }

/-- The events of a source that were lost in this cycle, before its service ended (R889). -/
def EvcS.goneOf (e : EvcS) (n : Nat) : List (Nat × Bool) := e.gone.filter (fun x => x.1 == n)

/-- They are not lost: LOST and LOST_ANY are as they were before them. -/
def EvcS.unlose (e : EvcS) (n : Nat) : EvcS :=
  match e.goneOf n with
  | [] => e
  | g :: _ =>
    let rest := e.gone.filter (fun x => x.1 != n)
    { e.put n { e.source n with lost := g.2 } with
      gone := rest, lostAny := if rest.isEmpty then e.anyBefore else e.lostAny }

/-- End the service of source `n` when it is In service (R886, R888): within a cycle the end comes before the events, which
are then not lost, and before the takes (R889, R906). [log 128 DEDUCED] -/
def EvcS.endService (e : EvcS) (v : EvcEnv) (n : Nat) : EvcS :=
  let e := e.fresh v
  if (e.source n).state = .inService && !e.taken.contains n then
    let k := (e.goneOf n).length
    let e := e.unlose n
    let e := e.put n (e.source n).toIdle
    (List.range (k + b2n (v.level n))).foldl (fun e _ => e.event v n) e
  else e

/-- A core that ends a service is at least a core cycle past the instruction that took the source (R641, R889). -/
def EvcS.later (e : EvcS) (n : Nat) : EvcS := { e with taken := e.taken.filter (fun x => x != n) }

/-- A target other than the host takes source `n` (R886). -/
def EvcS.take (e : EvcS) (v : EvcEnv) (n : Nat) : EvcS :=
  let e := e.fresh v
  let x := e.source n
  if x.state = .pending then { e.put n { x with state := .inService } with taken := n :: e.taken } else e

/-- Raise source `n` as its owner does (R877, R884). -/
def raise (n : Nat) (s : State) : State := { s with evc := s.evc.event s.evcEnv n }

/-- The lowest-numbered Pending source routed to a target (R426, R647). -/
def EvcS.lowestFor (e : EvcS) (target : Nat) : Option Nat :=
  (e.src.find? fun p => decide (p.2.state = .pending ∧ p.2.target = target)).map (·.1)

/-- Set a bit of a register whose level defines a source, raising the source when the level rises (R877, R391, R483).
[log 109 DEDUCED] -/
def setLevelBit (src : Nat) (a bit : Nat) (s : State) : State :=
  let before := s.evcEnv.level src
  let s := s.wr a (s.rd a ||| BitVec.ofNat 32 (2 ^ bit))
  if before then s else raise src s

/-! ### Register writes of the EVC page -/

/-- A write of EVC_SRCn (R880 to R882); EN = 0 discards the events of the cycle too (R906). [log 128 DEDUCED] -/
def evcSourceWrite (n : Nat) (v : Word) (s : State) : State :=
  let e := s.evc.fresh s.evcEnv
  let e := if bitOf v.toNat 31 then e else e.unlose n
  let x := e.source n
  let t := bitsOf v.toNat 4 0
  let bad := decide (25 ≤ t)
  let x := { x with en := bitOf v.toNat 31, autoEnd := bitOf v.toNat 30, cfgTarget := if bad then x.cfgTarget else t }
  let x := if !x.en && x.state == .pending then { x with state := .idle } else x
  let x := if x.state == .idle then { x with target := x.cfgTarget } else x
  let e := e.put n x
  { s with evc := { e with badTarget := e.badTarget || bad } }

/-- A write of EVC_ENDw (R888). -/
def evcEndWrite (w : Nat) (v : Word) (s : State) : State :=
  forEach (maskBits 32 v.toNat) (fun i s => { s with evc := s.evc.endService s.evcEnv (32 * w + i) }) s

/-- A write of EVC_RAISE (R878). -/
def evcRaiseWrite (v : Word) (s : State) : State :=
  if F.EVC_RAISE_GO.on v then raise (F.EVC_RAISE_SOURCE.of v) s else s

/-- A write of EVC_LOSTw: each 1 clears its bit (R907). -/
def evcLostWrite (w : Nat) (v : Word) (s : State) : State :=
  forEach (maskBits 32 v.toNat)
    (fun i s => { s with evc := s.evc.put (32 * w + i) { s.evc.source (32 * w + i) with lost := false } }) s

/-- EVC_STATEw (R883). -/
def evcStateWord (s : State) (w : Nat) : Word :=
  BitVec.ofNat 32 ((List.range 16).foldl (fun acc i => acc +
    (match (s.evc.source (16 * w + i)).state with | .idle => 0 | .pending => 1 | .inService => 2) * 4 ^ i) 0)

/-- EVC_LOSTw (R885). -/
def evcLostWord (s : State) (w : Nat) : Word :=
  BitVec.ofNat 32 ((List.range 32).foldl (fun acc i => acc + b2n (s.evc.source (32 * w + i)).lost * 2 ^ i) 0)

/-- EVC_SRCn as it reads (R881, R907). -/
def evcSourceWord (s : State) (n : Nat) : Word :=
  let x := s.evc.source n
  BitVec.ofNat 32 (b2n x.en * 2 ^ 31 + b2n x.autoEnd * 2 ^ 30 + x.cfgTarget)

/-- EVC_STATUS (R907). -/
def evcStatusWord (s : State) : Word :=
  BitVec.ofNat 32 (s.evc.tag.toNat * 2 ^ 16 + b2n s.evc.badTarget * 8 + b2n s.evc.timer.isSome * 4 +
    b2n s.evc.lostAny * 2 + b2n (!s.evc.hostPending.isEmpty))

/-- A write of a register of the EVC page (R907). -/
def evcWrite (a : Nat) (v : Word) (s : State) : State :=
  let o := a - R.EVC_STATUS
  if o = 0 then { s with evc := { s.evc with
      badTarget := s.evc.badTarget && !F.EVC_STATUS_BAD_TARGET.on v
      lostAny := s.evc.lostAny && !F.EVC_STATUS_LOST_ANY.on v } }
  else if o = 4 then { s with evc := { s.evc with
      count := BitVec.ofNat 8 (F.EVC_HOST_MOD_COUNT.of v), delay := F.EVC_HOST_MOD_DELAY_NS.of v } }
  else if o = 8 then evcRaiseWrite v s
  else if 0x100 ≤ o ∧ o < 0x500 then evcSourceWrite ((o - 0x100) / 4) v s
  else if 0x600 ≤ o ∧ o < 0x620 then evcLostWrite ((o - 0x600) / 4) v s
  else if 0x620 ≤ o ∧ o < 0x640 then evcEndWrite ((o - 0x620) / 4) v s
  else s

/-- A read of a register of the EVC page: its value, and the state with RC fields cleared (R907). -/
def evcRead (a : Nat) (s : State) : Word × State :=
  let o := a - R.EVC_STATUS
  if o = 0 then (evcStatusWord s, s)
  else if o = 4 then (BitVec.ofNat 32 (s.evc.count.toNat * 2 ^ 24 + s.evc.delay), s)
  else if o = 0xC then (s.evc.merged, { s with evc := { s.evc with merged := 0 } })
  else if o = 0x10 then (s.evc.msgs, { s with evc := { s.evc with msgs := 0 } })
  else if 0x100 ≤ o ∧ o < 0x500 then (evcSourceWord s ((o - 0x100) / 4), s)
  else if 0x500 ≤ o ∧ o < 0x540 then (evcStateWord s ((o - 0x500) / 4), s)
  else if 0x600 ≤ o ∧ o < 0x620 then (evcLostWord s ((o - 0x600) / 4), s)
  else (0, s)

/-! ### Commands -/

/-- SOURCE_EVENT (R884): a block raises a source. -/
def execSourceEvent (n : Fin 256) (s : State) : Out :=
  .next (whenB s.rst.coreUp (raise n.val) s)

/-- MODERATION_TIMER_EXPIRY (R892): the timer has run for DELAY_NS and the message is released. [log 110 DEDUCED] -/
def execModerationTimerExpiry (s : State) : Out :=
  .next (match s.evc.timer with
    | some t => if t.start + 64 * t.delay ≤ s.tt.run && s.evcEnv.allowed then
        { s with evc := s.evc.release s.evcEnv } else s
    | none => s)

/-- EVC_RAISE (R878). -/
def execEvcRaise (p : Partner) (v : Word) (s : State) : Out :=
  .next (viaPartner p R.EVC_RAISE (evcRaiseWrite v) s)

/-- EVC_SOURCE_CONFIG_WRITE (R881). -/
def execEvcSourceConfigWrite (p : Partner) (n : Fin 256) (v : Word) (s : State) : Out :=
  .next (viaPartner p (R.EVC_STATUS + 0x100 + 4 * n.val) (evcSourceWrite n.val v) s)

/-- EVC_END (R888). -/
def execEvcEnd (p : Partner) (w : Fin 8) (v : Word) (s : State) : Out :=
  .next (viaPartner p (R.EVC_END w.val) (evcEndWrite w.val v) s)

end Sys2Proof.Machine
end

