-- ==== Sys2Proof/Machine/Time.lean ====
section
/-!
DEFINITION. Sys2Proof/Machine/Time.lean: the parts of Tester Time (02_tester_time.md) that other blocks use: holdover,
corrections, adjustments that end, the anchor lane's count, and the Pilot comparators.
-/

namespace Sys2Proof.Machine

/-- TT is taken from this source (R45): 0 OFF, 1 REF, 2 CHAIN, 3 FREE. -/
def State.ttSource (s : State) : Nat := s.get F.TT_CTRL_SOURCE

/-- An adjustment asked for through TT_ADJ_CTRL ends: ADJ_BUSY clears and event 175 is raised (R69). [log 26 DEDUCED] -/
def endAdjust (s : State) : State := raise 175 (s.set F.TT_STATUS_ADJ_BUSY 0)

/-- Holdover is entered (R60): HOLDOVER sets, LOCKED clears, the next phase measurement is the first one, and event 172
is raised. -/
def enterHoldover (s : State) : State :=
  if s.flag F.TT_STATUS_HOLDOVER then s
  else
    let s := (s.set F.TT_STATUS_HOLDOVER 1).set F.TT_STATUS_LOCKED 0
    raise 172 { s with tt := { s.tt with phasePending := true } }

/-- The part leaves holdover (R64). -/
def leaveHoldover (s : State) : State :=
  if s.flag F.TT_STATUS_HOLDOVER then raise 173 ((s.set F.TT_STATUS_HOLDOVER 0).set F.TT_STATUS_LOCKED 1)
  else s.set F.TT_STATUS_LOCKED 1

/-- A CHAIN unit loses its source: it enters holdover for a cause of its own (R59). -/
def chainSourceLost (s : State) : State :=
  if s.ttSource = 2 then enterHoldover s else s

/-- A sync pair missed (R59, R156): eight in a row put a CHAIN unit into holdover. [log 25 DEDUCED] -/
def syncMissed (s : State) : State :=
  let s := { s with tt := { s.tt with missed := s.tt.missed + 1 } }
  if 8 ≤ s.tt.missed then chainSourceLost s else s

/-- A slew asked for through TT_ADJ_CTRL is cancelled by an epoch load or a relock correction (R69, R94).
[log 26 DEDUCED] -/
def cancelUserSlew (s : State) : State :=
  match s.tt.slew with
  | some w => if w.requested then endAdjust { s with tt := { s.tt with slew := none } } else s
  | none => s

/-- A correction of the part's own is slewed in at 200 ppm (R49, R62); a requested slew that runs takes the
correction into what is left of it. [log 26 DEDUCED] -/
def slewIn (d : Int) (s : State) : State :=
  match s.tt.slew with
  | some w => { s with tt := { s.tt with slew := some { w with left := if w.requested then w.left + d else d } } }
  | none => { s with tt := { s.tt with slew := some ⟨d, 200, false⟩ } }

/-! ### Lane Symbol Count -/

/-- The anchor lane has the lock that UNIT needs (R83, R984). -/
def lscLocked (s : State) : Bool :=
  let n := s.get F.TT_LSC_CTRL_LANE
  s.flag (F.XCV_STATUS_CDR_LOCK n) &&
    (!s.flag F.TT_LSC_CTRL_UNIT || s.get (F.XCV_CFG_PCS n) = 0 || s.flag (F.XCV_STATUS_PCS_LOCK n))

/-- LSC counts: enabled and not frozen. -/
def lscRunning (s : State) : Bool := s.flag F.TT_LSC_CTRL_EN && !s.flag F.TT_LSC_STATUS_FROZEN

/-- LSC freezes (R83, R984): FROZEN and FROZE set, event 174 is raised. -/
def lscFreeze (s : State) : State :=
  let s := { s with tt := { s.tt with frozeAt := some s.clk.now } }
  raise 174 ((s.set F.TT_LSC_STATUS_FROZEN 1).set F.TT_LSC_STATUS_FROZE 1)

/-- Lane `n` lost a lock: LSC freezes when `n` is the anchor lane and the lock was one it needs (R83). -/
def lscLaneLost (n : Nat) (s : State) : State :=
  if lscRunning s && s.get F.TT_LSC_CTRL_LANE = n && !lscLocked s then lscFreeze s else s

/-- Lane `n` gained a lock: a frozen LSC continues from its value and event 174 is raised again (R84, R984). -/
def lscLaneLocked (n : Nat) (s : State) : State :=
  if s.flag F.TT_LSC_CTRL_EN && s.flag F.TT_LSC_STATUS_FROZEN && s.get F.TT_LSC_CTRL_LANE = n && lscLocked s then
    raise 174 (s.set F.TT_LSC_STATUS_FROZEN 0)
  else s

/-- A write of TT_LSC_CTRL (R79, R86, R984); FROZEN reads 0 while EN is 0. [log 121 DEDUCED] -/
def lscCtrlWrite (v : Word) (s : State) : State :=
  if s.flag F.TT_LSC_CTRL_EN then
    let s := s.set F.TT_LSC_CTRL_EN (F.TT_LSC_CTRL_EN.of v)
    if F.TT_LSC_CTRL_EN.on v then s else s.set F.TT_LSC_STATUS_FROZEN 0
  else
    let s := s.writeByAcc R.TT_LSC_CTRL v
    if F.TT_LSC_CTRL_EN.on v then
      let s := { s with tt := { s.tt with lsc := 0, lscRem := 0, lscHist := [] } }
      if lscLocked s then s.set F.TT_LSC_STATUS_FROZEN 0 else lscFreeze s
    else s

/-! ### Pilot comparators -/

/-- A comparator fires (R986, R90): FIRED sets, event 236 + n is raised, and with WAKE set the part leaves standby or
asks for the supplies of deep sleep (R91, R242, R246). -/
def fireComparator (n : Nat) (s : State) : State :=
  let s := s.set (F.PLT_CMP_CTRL_FIRED n) 1
  let s := whenB s.rst.coreUp (raise (236 + n)) s
  if s.flag (F.PLT_CMP_CTRL_WAKE n) then
    let s := whenB (s.get F.PWR_STATUS_STATE == 1) (fun s => { s with rst := { s.rst with exiting := true } }) s
    whenB (s.get F.PWR_STATUS_STATE == 2) (fun s => { s with rst := { s.rst with corePwrEn := true } }) s
  else s

/-- The edge of a comparator's output is one that EDGE names (R100). -/
def edgeNamed (edge : Nat) (rising : Bool) : Bool := if rising then bitOf edge 0 else bitOf edge 1

/-- How far one of the two trip points of an analog comparator lies from its nominal place: at most 10 mV, or 3 degrees (R90).
[log 122 DESIGN CHOICE] -/
def tripError (i : Nat) (rising : Bool) : Int :=
  let w : Int := if i = 2 then 3000 else 10
  Config.tripError (2 * i + b2n rising) % (2 * w + 1) - w

/-- Comparator 4 + i of an input: above its threshold by the half width of its hysteresis, below it, or neither, each point
within its accuracy (R90). [log 29 DEDUCED, log 122 DESIGN CHOICE] -/
def analogOutput (i : Nat) (threshold : Nat) (old : Bool) (level : Int) : Bool :=
  let centre : Int := if i = 2 then 1000 * threshold else 5 * threshold
  let half : Int := if i = 2 then 1000 else 10
  if centre + half + tripError i true < level then true
  else if level < centre - half + tripError i false then false else old

/-- The output that comparator 4 to 7 takes without an edge (R985). [log 8 DESIGN CHOICE, log 29 DEDUCED] -/
def analogTaken (s : State) (i : Nat) : Bool :=
  if i = 3 then s.tt.wakePin
  else
    let centre : Int := if i = 2 then 1000 * s.get (F.PLT_CMP_CTRL_THRESHOLD (4 + i))
      else 5 * s.get (F.PLT_CMP_CTRL_THRESHOLD (4 + i))
    decide (centre < s.tt.cmpIn.toList.getD i 0)

/-- A write of PLT_CMPn_CTRL (R985, R986). [log 29 DEDUCED] -/
def cmpCtrlWrite (n : Nat) (v : Word) (s : State) : State :=
  let was := s.flag (F.PLT_CMP_CTRL_EN n)
  let s := s.writeByAcc (R.PLT_CMP_CTRL n) v
  let en := s.flag (F.PLT_CMP_CTRL_EN n)
  if n < 4 then
    let i := finOf 3 n
    { s with tt := { s.tt with cmpArmed := vset s.tt.cmpArmed i (en && (!was || vget s.tt.cmpArmed i)) } }
  else if en then
    { s with tt := { s.tt with cmpOut := vset s.tt.cmpOut (finOf 3 (n - 4)) (analogTaken s (n - 4)) } }
  else s

/-- A write of half of PLT_TTMn (R986): it arms the comparator again while EN is 1. -/
def ttmWrite (n : Nat) (high : Bool) (v : Word) (s : State) : State :=
  let s := s.writeByAcc (R.PLT_TTM n (b2n high)) v
  whenB (s.flag (F.PLT_CMP_CTRL_EN n))
    (fun s => { s with tt := { s.tt with cmpArmed := vset s.tt.cmpArmed (finOf 3 n) true } }) s

/-- A TT match comparator that is armed fires when its match value passes a test. -/
def ttMatchIf (p : Nat → Bool) (n : Nat) (s : State) : State :=
  let i := finOf 3 n
  if vget s.tt.cmpArmed i && s.flag (F.PLT_CMP_CTRL_EN n) && p (s.get64 (R.PLT_TTM n 0) (R.PLT_TTM n 1)) then
    fireComparator n { s with tt := { s.tt with cmpArmed := vset s.tt.cmpArmed i false } }
  else s

/-- A TT match comparator that is armed fires once TT is equal to or later than its match value (R986). -/
def ttMatch (n : Nat) (s : State) : State := ttMatchIf (fun v => decide (v ≤ s.tt.tt.toNat)) n s

/-- The output of comparator 4 + i changes; it fires on an edge that EDGE names (R90, R985). [log 29 DEDUCED] -/
def analogChange (i : Nat) (out : Bool) (s : State) : State :=
  let j := finOf 3 i
  let old := vget s.tt.cmpOut j
  let s := { s with tt := { s.tt with cmpOut := vset s.tt.cmpOut j out } }
  if out != old && s.flag (F.PLT_CMP_CTRL_EN (4 + i)) && edgeNamed (s.get (F.PLT_CMP_CTRL_EDGE (4 + i))) out then
    fireComparator (4 + i) s
  else s

end Sys2Proof.Machine
end

