-- ==== Sys2Proof/Machine/Ras.lean ====
section
/-!
DEFINITION. Sys2Proof/Machine/Ras.lean: the error log, the per-detector counts and the armed injection of the RAS block
(19_faults_injection.md), as the other blocks use them.
-/

namespace Sys2Proof.Machine

/-- The order of log entries that arise in one core cycle (R915). [log 112 DEDUCED] -/
def RasEntry.before (a b : RasEntry) : Bool := a.det < b.det || (a.det == b.det && a.inst ≤ b.inst)

/-- Insert an entry behind every entry that came earlier or comes first in the same cycle (R914, R915). [log 112 DEDUCED] -/
def rasInsert (x : RasEntry) : List RasEntry → List RasEntry
  | [] => [x]
  | e :: l => if e.at_ = x.at_ && !e.before x then x :: e :: l else e :: rasInsert x l

/-- An error of detector `det` is counted and logged (R913, R914, R932): kind 1 corrected, 2 uncorrectable, 3 poison
written, 4 failure. [log 112 DEDUCED] -/
def rasDetect (det kind inst addr info : Nat) (inj : Bool) (s : State) : State :=
  let s := s.incSat (if kind = 1 then F.RAS_DET_CE_COUNT (det - 1) else F.RAS_DET_UE_COUNT (det - 1))
  if 32 ≤ s.ras.log.length then s.incSat F.RAS_LOG_STATUS_DROPPED
  else
    { s with ras := { s.ras with
        log := rasInsert ⟨s.clk.now, ttFloor s.tt.tt, inj, det, inst, kind, addr, info⟩ s.ras.log } }

/-- The armed injection acts on this access (R908, R909): its KIND. The access names its address at the granularity of
the detector, or none where the detector has no address. [log 111 DEDUCED] -/
def injArmed (s : State) (det inst : Nat) (addr : Option (Nat × Nat)) : Option Nat :=
  if s.flag F.RAS_INJ_CTRL_ARM && s.get F.RAS_INJ_CTRL_TARGET == det && s.get F.RAS_INJ_CTRL_INSTANCE == inst then
    match addr with
    | some (a, grain) =>
      if s.flag F.RAS_INJ_CTRL_ADDR_EN && s.get64 R.RAS_INJ_ADDR_LO R.RAS_INJ_ADDR_HI / grain != a / grain then none
      else some (s.get F.RAS_INJ_CTRL_KIND)
    | none => some (s.get F.RAS_INJ_CTRL_KIND)
  else none

/-- After an injection has acted, ARM clears under ONCE (R909). -/
def injUsed (s : State) : State := if s.flag F.RAS_INJ_CTRL_MODE then s else s.set F.RAS_INJ_CTRL_ARM 0

/-- The head words of the log (R916). -/
def rasHeadWord (s : State) (k : Nat) : Word :=
  match s.ras.log with
  | [] => 0
  | e :: _ => match k with
    | 0 => e.tt.setWidth 32
    | 1 => (e.tt >>> 32).setWidth 32
    | 2 => BitVec.ofNat 32 (b2n e.inj * 2 ^ 31 + e.det * 2 ^ 16 + bitsOf e.inst 7 0 * 2 ^ 8 + bitsOf e.inst 11 8 * 2 ^ 4 +
        e.kind)
    | 3 => BitVec.ofNat 32 (e.addr % 2 ^ 32)
    | 4 => BitVec.ofNat 32 (e.addr / 2 ^ 32 % 2 ^ 16)
    | 5 => BitVec.ofNat 32 e.info
    | _ => 0

/-- A Warm reset is requested (R193, R195, R213): the first request's cause stands until the reset is done; during a Psiom
pulse it is deferred (R225). [log 47 DEDUCED] -/
def requestWarm (c : Cause) (s : State) : State :=
  if s.psm.cmd.isSome then { s with rst := { s.rst with deferred := some (s.rst.deferred.getD (false, c)) } }
  else if s.rst.warm.isSome then s
  else { s with rst := { s.rst with warm := some c, warmAt := s.clk.now } }

/-- Put an armed injection into the check bits of a block RAM word that is being written in full (R908 code 0x03). -/
def injectBram (t w : Nat) (s : State) : State :=
  match injArmed s 3 t (some (512 * t + w, 1)) with
  | some k =>
    let m : Mark := if k = 1 then .correctable true else .uncorrectable true
    injUsed { s with fab := { s.fab with bramMark := sinsert (512 * t + w) m (sremove (512 * t + w) s.fab.bramMark) } }
  | none => s

end Sys2Proof.Machine
end

