-- ==== Sys2Proof/Machine/Request.lean ====
section
/-!
DEFINITION. Sys2Proof/Machine/Request.lean: requests in the Backbone (13_backbone.md): masters, the point an address goes
to, the rule check on entry, answers, and the extents that other blocks check areas against.
-/

namespace Sys2Proof.Machine

/-! ### Masters -/

/-- A master ID that is not Reserved (R974, R975). -/
def masterValid (m : Nat) : Bool := m ≤ 4 || (8 ≤ m && m ≤ 47) || (64 ≤ m && m ≤ 95)

/-- BB_MSTm_CFG. -/
def mstCfg (m : Nat) : Nat := 0x00F000600400 + 4 * m

/-- A master is fenced (R707). -/
def isFenced (s : State) (m : Nat) : Bool := bitOf (s.rd (R.BB_FENCED (m / 32))).toNat (m % 32)

/-- No new request of a master enters the Backbone: it is fenced, or a Warm reset has been requested (R195). -/
def isShut (s : State) (m : Nat) : Bool := isFenced s m || s.rst.warm.isSome

/-- A master is in panic (R674): a Lantern or a Beacon that raises it, or a fabric master port with PANIC_EN. -/
def inPanic (s : State) (m : Nat) : Bool :=
  if 16 ≤ m ∧ m < 32 then s.flag (F.LNT_STATUS_PANIC (m - 16))
  else if 32 ≤ m ∧ m < 48 then s.flag (F.BCN_STATUS_PANIC (m - 32))
  else if 64 ≤ m ∧ m < 96 then s.bb.panicIn.contains (m - 64) && bitOf (s.rd (mstCfg m)).toNat 4
  else false

/-- Some master in the part has panic raised (R735). -/
def anyPanic (s : State) : Bool := (List.range 96).any (inPanic s)

/-- A master is throttled now (R749). -/
def isThrottled (s : State) (m : Nat) : Bool := s.bb.throttle.any (fun x => x.1 == m && decide (s.elapsed < x.2))

/-! ### Addresses -/

/-- A span of bytes cut at 256-byte boundaries (R665), by fuel. -/
def cut256 : Nat → Nat → Nat → List (Nat × Nat)
  | 0, _, _ => []
  | f + 1, a, len => if len = 0 then [] else
      let n := min (256 - a % 256) len
      (a, n) :: cut256 f (a + n) (len - n)

/-- The bursts of a span of bytes. -/
def burstsOf (a len : Nat) : List (Nat × Nat) := cut256 (len / 256 + 2) a len

/-- The arbitration point of an address (R16, R666, R761, R763). -/
def route (a : Nat) : Nat :=
  if a < 0x008000000000 then a / 256 % 8
  else if a < 0x008300000000 ∧ a % 2 ^ 32 < 0x03000000 then 8 + a % 2 ^ 32 / 0x400000
  else 20

/-- Beats of a burst (R665). -/
def beatsOf (a len : Nat) : Nat := (a + len - 1) / 32 - a / 32 + 1

/-- A subchannel is populated (R719). -/
def populated (s : State) (sc : Nat) : Bool := bitOf (s.get (F.MC_CFG_POP (sc / 2))) (sc % 2)

/-- The capacity of a subchannel of controller `n` in bytes (R717). -/
def capacity (s : State) (n : Nat) : Nat :=
  let d := s.get (F.MC_CFG_DENSITY n)
  if 1 < d then 0 else 2 ^ 34 * 2 ^ d * (1 + s.get (F.MC_CFG_RANKS n))

/-- The extent of external memory (R722). -/
def extent (s : State) : Nat :=
  8 * (List.range 8).foldl (fun a sc => if populated s sc then max a (capacity s (sc / 2)) else a) 0

/-- An area lies within external memory (R539, R554, R722, R831). -/
def inExternal (s : State) (a len : Nat) : Bool := decide (a + len ≤ extent s)

/-- Every bank of an area of `size` units of 64 KiB from unit `base` is On (R539, R564, R793). -/
def stgAreaOn (s : State) (base size : Nat) : Bool :=
  decide (base + size ≤ 768) &&
    (List.range 48).all fun b =>
      (decide (b < base / 16) || decide ((base + size - 1) / 16 < b)) || s.get (F.STG_BANK_STATE b) == 0

/-! ### Access rules -/

/-- The rules, ENFORCE and version under which a check of this core cycle happens: in the cycle of a commit, those from
before it (R697, R698). [log 120 DEDUCED] -/
def ruleSet (s : State) : List (Nat × Word) × Bool × Nat :=
  match s.bb.before with
  | some (t, old) => if t = s.clk.now then old else (s.bb.rules, s.bb.enforce, s.bb.version)
  | none => (s.bb.rules, s.bb.enforce, s.bb.version)

/-- A word of the rule set in effect (R697). -/
def activeRule (s : State) (a : Nat) : Nat := (sget resetValue (ruleSet s).1 a).toNat

/-- One active rule lets a request pass (R694, R695). -/
def rulePasses (s : State) (r m a : Nat) (needR needW : Bool) : Bool :=
  let ctrl := activeRule s (R.BB_RULE_CTRL r)
  let base := activeRule s (R.BB_RULE_BASE_LO r) + 2 ^ 32 * bitsOf (activeRule s (R.BB_RULE_BASE_HI r)) 3 0
  bitOf ctrl 31 && decide (base ≤ a / 4096 ∧ a / 4096 < base + activeRule s (R.BB_RULE_SIZE r)) &&
    bitOf (activeRule s (R.BB_RULE_MASK r (m / 32))) (m % 32) && (!needR || bitOf ctrl 0) && (!needW || bitOf ctrl 1)

/-- The write goes to one of the bit-set and bit-clear aliases (R770). -/
def isAlias (a : Nat) : Bool := decide (0x008100000000 ≤ a ∧ a < 0x008300000000)

/-- A request passes the access rules (R693, R694). -/
def rulesPass (s : State) (m a : Nat) (write : Bool) : Bool :=
  m < 4 || !(ruleSet s).2.1 ||
    (List.range 64).any fun r => rulePasses s r m a (!write || isAlias a) write

/-- A denied request is recorded (R696). -/
def recordDenied (m a : Nat) (write : Bool) (s : State) : State :=
  let s :=
    if s.flag F.BB_VIOL_INFO_VALID then s
    else
      let s := s.wr R.BB_VIOL_INFO (BitVec.ofNat 32 (2 ^ 31 + b2n write * 2 ^ 8 + m))
      (s.wr R.BB_VIOL_ADDR_LO (BitVec.ofNat 32 (a % 2 ^ 32))).wr R.BB_VIOL_ADDR_HI (BitVec.ofNat 32 (a / 2 ^ 32))
  s.incSat F.BB_VIOL_COUNT_COUNT

/-! ### Answers -/

/-- Put an answer on the response channels. -/
def pushReply (x : Reply) (s : State) : State := { s with bb := { s.bb with done := s.bb.done ++ [x] } }

/-- A fabric master's answer, or one to a command that asked directly, ends with it; every other answer waits for its
engine (R671). -/
def deliver (x : Reply) (s : State) : State :=
  match x.origin with
  | .fabric m => s.answer (.master m) x.status (if x.status = .ok then BitVec.ofNat 32 (leNat x.data) else 0)
  | .nobody => s
  | _ => pushReply x s

/-- An access is complete (R700). -/
def closeAccess (id : Nat) (s : State) : State :=
  { s with bb := { s.bb with inFlight := s.bb.inFlight.filter (fun x => x.1 != id) } }

/-- A request completes: the first error of its pieces, or OK, and the bytes read. Requests are named by their number. -/
def completeReq (id : Nat) (st : Status) (data : List Byte) (s : State) : State :=
  match s.bb.bursts.find? (fun b => b.req.id == id) with
  | some b =>
    let s := { s with bb := { s.bb with bursts := s.bb.bursts.filter (fun b => b.req.id != id) } }
    deliver ⟨id, b.req.origin, st, data⟩ (closeAccess id s)
  | none => s

/-- The outcome of a finished request of an engine. -/
def doneStatus (s : State) (id : Nat) : Option Status := (s.bb.done.find? (fun x => x.id == id)).map Reply.status

/-- The bytes of a finished request of an engine. -/
def doneData (s : State) (id : Nat) : List Byte := ((s.bb.done.find? (fun x => x.id == id)).map Reply.data).getD []

/-- An engine consumes the answer to its request. -/
def dropDone (id : Nat) (s : State) : State :=
  { s with bb := { s.bb with done := s.bb.done.filter (fun x => x.id != id) } }

/-! ### Entry -/

/-- Change a point. -/
def modPoint (k : Nat) (f : Point → Point) (s : State) : State :=
  { s with bb := { s.bb with points := vset s.bb.points (finOf 20 k) (f (vget s.bb.points (finOf 20 k))) } }

/-- A point. -/
def State.pt (s : State) (k : Nat) : Point := vget s.bb.points (finOf 20 k)

/-- The deadline of a request whose master gives none (R673). [log 92 DEDUCED] -/
def defaultDeadline (s : State) : Int := s.deadlineIn (s.get F.BB_SLACK_SLACK_NS)

/-- A request enters the Backbone (R195, R669, R672, R673, R693 to R700, R707): one of a fenced master does not; a denied one is
answered at once; any other waits at its point. [log 92 DEDUCED] -/
def bbIssueBe (m : Nat) (write : Bool) (a : Nat) (data : List Byte) (be : List Bool) (len : Nat) (deadline : Int)
    (o : Origin) (s : State) : State :=
  let id := s.bb.nextId
  let s := { s with bb := { s.bb with nextId := id + 1 } }
  if isShut s m then s
  else if rulesPass s m a write then
    let r : Req := ⟨id, m, write, a, len, data, be, bitsOf (s.rd (mstCfg m)).toNat 1 0, deadline, 0, (ruleSet s).2.2, o⟩
    let s := { s with bb := { s.bb with
      bursts := s.bb.bursts ++ [⟨r, 1, .ok, []⟩]
      inFlight := if 4 ≤ m then s.bb.inFlight ++ [(id, (ruleSet s).2.2)] else s.bb.inFlight } }
    let s := whenB (decide (4 ≤ m) && (ruleSet s).2.2 != s.bb.version) (fun s => s.set F.BB_RULE_DRAINED_DRAINED 0) s
    modPoint (route a) (fun p => { p with pending := p.pending ++ [r] }) s
  else deliver ⟨id, o, .denied, []⟩ (recordDenied m a write s)

/-- A request whose every byte enable is on. -/
def bbIssue (m : Nat) (write : Bool) (a : Nat) (data : List Byte) (len : Nat) (deadline : Int) (o : Origin)
    (s : State) : State :=
  bbIssueBe m write a data (List.replicate data.length true) len deadline o s

end Sys2Proof.Machine
end

