-- ==== Sys2Proof/Machine/Fence.lean ====
section
/-!
DEFINITION. Sys2Proof/Machine/Fence.lean: fencing a master (R707 to R709), its steps as named operations, and hardware
locks (R701 to R706).
-/

namespace Sys2Proof.Machine

/-! ### Hardware locks -/

/-- A lock. -/
def State.lock (s : State) (k : Nat) : HwLock := vget s.bb.locks (finOf 63 k)

/-- Replace a lock. -/
def setLock (k : Nat) (l : HwLock) (s : State) : State :=
  { s with bb := { s.bb with locks := vset s.bb.locks (finOf 63 k) l } }

/-- An acquire (R701, R702): what the read returns, and the lock after it. -/
def lockRead (m k : Nat) (s : State) : Word × State :=
  let l := s.lock k
  let word := fun (granted : Bool) (o : Nat) =>
    BitVec.ofNat 32 (b2n granted * 2 ^ 31 + b2n l.abandoned * 2 ^ 30 + o)
  match l.owner with
  | none => (word true m, setLock k ⟨some m, false⟩ s)
  | some o => (word (o == m) o, s)

/-- A write of BB_LOCKk (R703, R704). -/
def lockWrite (m k : Nat) (v : Word) (s : State) : State :=
  let l := s.lock k
  if bitOf v.toNat 1 && bitsOf v.toNat 15 8 == 0xA5 then
    if l.owner.isSome then raise 250 (setLock k ⟨none, true⟩ s) else s
  else if bitOf v.toNat 0 then
    if l.owner = some m then setLock k ⟨none, l.abandoned⟩ s else s.set F.BB_STATUS_LOCK_ERR 1
  else s

/-- BB_LOCK_PEEKk (R716). -/
def lockPeek (s : State) (k : Nat) : Word :=
  let l := s.lock k
  BitVec.ofNat 32 (b2n l.owner.isSome * 2 ^ 31 + b2n l.abandoned * 2 ^ 30 + l.owner.getD 0)

/-! ### Fencing -/

/-- Set or clear a master's bit in BB_FENCED. -/
def setFenced (m : Nat) (on : Bool) (s : State) : State :=
  let a := R.BB_FENCED (m / 32)
  let bit := BitVec.ofNat 32 (2 ^ (m % 32))
  s.wr a (if on then s.rd a ||| bit else s.rd a &&& ~~~ bit)

/-- Step 1 (R707): no new request of the master is accepted. -/
def fenceNew (m : Nat) (s : State) : State := setFenced m true s

/-- The fence ends (R709). -/
def unfence (m : Nat) (s : State) : State := setFenced m false s

/-- No request of the master waits for its answer (R365). [log 93 DEDUCED] -/
def masterIdle (m : Nat) (s : State) : Bool :=
  !(s.bb.bursts.any (fun b => b.req.master == m && b.req.origin != .nobody))

/-- The write burst has been committed: it is at no point any more (R668). -/
def atPoint (s : State) (id : Nat) : Bool :=
  s.bb.points.toList.any fun p =>
    p.pending.any (fun r => r.id == id) || (match p.owner with | some o => o.req.id == id | none => false) ||
      (match p.next with | some r => r.id == id | none => false)

/-- Step 4 (R707): the master's locks are released with ABANDONED set, one event each. -/
def releaseLocks (m : Nat) (s : State) : State :=
  forEach (List.range 64) (fun k s =>
    if (s.lock k).owner = some m then raise 250 (setLock k ⟨none, true⟩ s) else s) s

/-- The master whose engine waits for an answer. -/
def Origin.master : Origin → Nat
  | .filRead _ _ | .filWrite _ _ | .filBulk _ _ _ _ => 0
  | .svpRead | .svpWrite => 1
  | .lantern n => 16 + n
  | .beacon n => 32 + n
  | .snapshot _ => 4
  | .taper n _ => 8 + n
  | .fabric m => m
  | .nobody => 127

/-- Everything of the master that is not a committed write goes (R687, R688, R707 step 2): its requests and grants at the
points, its reads at the controllers, at port A and at the store, and the answers on their way to it. [log 93 DEDUCED] -/
def dropReads (m : Nat) (s : State) : State :=
  let mine := (s.bb.bursts.filter (fun b => b.req.master == m && (!b.req.write || atPoint s b.req.id))).map (·.req.id)
  let out := fun (id : Nat) => mine.contains id
  { s with
    bb := { s.bb with
      points := s.bb.points.map fun p => { p with
        pending := p.pending.filter (fun r => r.master != m)
        owner := p.owner.filter (fun o => o.req.master != m)
        next := p.next.filter (fun r => r.master != m) }
      bursts := s.bb.bursts.filter (fun b => !out b.req.id)
      inFlight := s.bb.inFlight.filter (fun x => !out x.1)
      done := s.bb.done.filter (fun x => x.origin.master != m) }
    mem := { s.mem with subs := s.mem.subs.map fun u => { u with
      reads := u.reads.filter (fun r => !out r.id)
      service := u.service.filter (fun r => r.write || !out r.id) } }
    stg := { s.stg with portA := s.stg.portA.filter (fun r => r.write || !out r.id) }
    psm := { s.psm with reads := s.psm.reads.filter (fun r => !out r.id) } }

/-- Committed writes finish, but no answer reaches the master (R707 step 3, R708). [log 93 DEDUCED] -/
def muteWrites (m : Nat) (s : State) : State :=
  { s with bb := { s.bb with bursts := s.bb.bursts.map fun b =>
      if b.req.master = m then { b with req := { b.req with origin := .nobody } } else b } }

/-- Steps 2 to 4 (R687, R688, R707): ungranted requests and grants go, partial bursts and answers are discarded, locks
are released. [log 93 DEDUCED] -/
def reclaim (m : Nat) (s : State) : State := releaseLocks m (muteWrites m (dropReads m s))

/-- Steps 1 to 4 at once. -/
def fence (m : Nat) (s : State) : State := reclaim m (fenceNew m s)

/-- Accesses that wait at a region's slave port when its clamps apply end with UNMAPPED (R433). -/
def endSlaveAccesses (r : Nat) (s : State) : State :=
  let l := s.fab.slv.filter (fun a => a.port == r)
  let s := { s with fab := { s.fab with slv := s.fab.slv.filter (fun a => a.port != r) } }
  forEach l (fun a s => completeReq a.id .unmapped [] s) s

end Sys2Proof.Machine
end

