-- ==== Sys2Proof/Machine/Crypto.lean ====
section
/-!
DEFINITION. Sys2Proof/Machine/Crypto.lean: the check codes and ciphers the spec names: CRC-8 (R106), CRC-32 of IEEE 802.3
(R112), SHA-256 (FIPS 180-4, R311), AES-256 (FIPS 197), AES-XTS and AES-CMAC.
-/

namespace Sys2Proof.Machine

/-! ### CRCs -/

/-- One bit of the CRC-8 with polynomial 0x07. -/
def crc8Bit (c : Byte) : Byte := if c.getLsbD 7 then (c <<< 1) ^^^ 0x07 else c <<< 1

/-- The CRC-8 of R106. -/
def crc8 (l : List Byte) : Byte :=
  l.foldl (fun c b => crc8Bit (crc8Bit (crc8Bit (crc8Bit (crc8Bit (crc8Bit (crc8Bit (crc8Bit (c ^^^ b))))))))) 0

/-- One bit of the reflected CRC-32. -/
def crc32Bit (c : Word) : Word := if c.getLsbD 0 then (c >>> 1) ^^^ 0xEDB88320 else c >>> 1

/-- The CRC-32 of R112. [log 119 PRESUMED] -/
def crc32 (l : List Byte) : Word :=
  ~~~ (l.foldl (fun c b =>
    crc32Bit (crc32Bit (crc32Bit (crc32Bit (crc32Bit (crc32Bit (crc32Bit (crc32Bit (c ^^^ b.setWidth 32))))))))) (BitVec.allOnes 32))

/-! ### Scramblers -/

/-- One bit through the self-synchronising scrambler x^58 + x^39 + 1 (R101, R462): bit 0 of the state is the last bit sent. -/
def scrambleBit (st : BitVec 58) (b : Bool) : BitVec 58 :=
  (st <<< 1) ||| (if b ^^ st.getLsbD 38 ^^ st.getLsbD 57 then 1 else 0)

/-- Bits through that scrambler, in order: what is sent, and the state after it. -/
def scramble58 (st : BitVec 58) : List Bool → List Bool × BitVec 58
  | [] => ([], st)
  | b :: l =>
    let st := scrambleBit st b
    let (out, st') := scramble58 st l
    (st.getLsbD 0 :: out, st')

/-- Bits received through its descrambler, in order: what was meant, and the state after them (R460). -/
def descramble58 (st : BitVec 58) : List Bool → List Bool × BitVec 58
  | [] => ([], st)
  | b :: l =>
    let (out, st') := descramble58 ((st <<< 1) ||| (if b then 1 else 0)) l
    ((b ^^ st.getLsbD 38 ^^ st.getLsbD 57) :: out, st')

/-- The bits of bytes, least significant first (R105). -/
def bitsLsb (l : List Byte) : List Bool := l.flatMap fun b => (List.range 8).map b.getLsbD

/-! ### SHA-256 -/

/-- The round constants of SHA-256. -/
def sha256K : List Nat :=
  [0x428A2F98, 0x71374491, 0xB5C0FBCF, 0xE9B5DBA5, 0x3956C25B, 0x59F111F1, 0x923F82A4, 0xAB1C5ED5,
   0xD807AA98, 0x12835B01, 0x243185BE, 0x550C7DC3, 0x72BE5D74, 0x80DEB1FE, 0x9BDC06A7, 0xC19BF174,
   0xE49B69C1, 0xEFBE4786, 0x0FC19DC6, 0x240CA1CC, 0x2DE92C6F, 0x4A7484AA, 0x5CB0A9DC, 0x76F988DA,
   0x983E5152, 0xA831C66D, 0xB00327C8, 0xBF597FC7, 0xC6E00BF3, 0xD5A79147, 0x06CA6351, 0x14292967,
   0x27B70A85, 0x2E1B2138, 0x4D2C6DFC, 0x53380D13, 0x650A7354, 0x766A0ABB, 0x81C2C92E, 0x92722C85,
   0xA2BFE8A1, 0xA81A664B, 0xC24B8B70, 0xC76C51A3, 0xD192E819, 0xD6990624, 0xF40E3585, 0x106AA070,
   0x19A4C116, 0x1E376C08, 0x2748774C, 0x34B0BCB5, 0x391C0CB3, 0x4ED8AA4A, 0x5B9CCA4F, 0x682E6FF3,
   0x748F82EE, 0x78A5636F, 0x84C87814, 0x8CC70208, 0x90BEFFFA, 0xA4506CEB, 0xBEF9A3F7, 0xC67178F2]

/-- The initial hash value of SHA-256. -/
def sha256H : List Nat :=
  [0x6A09E667, 0xBB67AE85, 0x3C6EF372, 0xA54FF53A, 0x510E527F, 0x9B05688C, 0x1F83D9AB, 0x5BE0CD19]

/-- The message schedule grown by one word; the words stand latest first. -/
def shaExtend (w : List Word) : List Word :=
  let a := w.getD 14 0
  let b := w.getD 1 0
  let s0 := a.rotateRight 7 ^^^ a.rotateRight 18 ^^^ (a >>> 3)
  let s1 := b.rotateRight 17 ^^^ b.rotateRight 19 ^^^ (b >>> 10)
  (w.getD 15 0 + s0 + w.getD 6 0 + s1) :: w

/-- The eight working words of SHA-256. -/
structure ShaState where
  a : Word
  b : Word
  c : Word
  d : Word
  e : Word
  f : Word
  g : Word
  h : Word
deriving DecidableEq, Repr

/-- A word of the initial hash value. -/
def shaH (i : Nat) : Word := BitVec.ofNat 32 (sha256H.getD i 0)

/-- One round of SHA-256. -/
def shaRound (x : ShaState) (k w : Word) : ShaState :=
  let s1 := x.e.rotateRight 6 ^^^ x.e.rotateRight 11 ^^^ x.e.rotateRight 25
  let ch := (x.e &&& x.f) ^^^ (~~~ x.e &&& x.g)
  let t1 := x.h + s1 + ch + k + w
  let s0 := x.a.rotateRight 2 ^^^ x.a.rotateRight 13 ^^^ x.a.rotateRight 22
  let maj := (x.a &&& x.b) ^^^ (x.a &&& x.c) ^^^ (x.b &&& x.c)
  ⟨t1 + (s0 + maj), x.a, x.b, x.c, x.d + t1, x.e, x.f, x.g⟩

/-- A big-endian word of a message block. -/
def beWord (l : List Byte) (i : Nat) : Word :=
  (byteAt l i).setWidth 32 <<< 24 ||| (byteAt l (i + 1)).setWidth 32 <<< 16 |||
    (byteAt l (i + 2)).setWidth 32 <<< 8 ||| (byteAt l (i + 3)).setWidth 32

/-- Four bytes of a word, most significant first. -/
def beBytes (w : Word) : List Byte :=
  [(w >>> 24).setWidth 8, (w >>> 16).setWidth 8, (w >>> 8).setWidth 8, w.setWidth 8]

/-- The compression of one 64-byte block. -/
def shaBlock (h : ShaState) (blk : List Byte) : ShaState :=
  let w0 := ((List.range 16).map fun i => beWord blk (4 * i)).reverse
  let w := ((List.range 48).foldl (fun w _ => shaExtend w) w0).reverse
  let x := (sha256K.zip w).foldl (fun x kw => shaRound x (BitVec.ofNat 32 kw.1) kw.2) h
  ⟨h.a + x.a, h.b + x.b, h.c + x.c, h.d + x.d, h.e + x.e, h.f + x.f, h.g + x.g, h.h + x.h⟩

/-- The blocks of a padded message, by fuel. -/
def shaBlocks : Nat → ShaState → List Byte → ShaState
  | 0, h, _ => h
  | n + 1, h, l => shaBlocks n (shaBlock h (l.take 64)) (l.drop 64)

/-- A message padded to whole blocks: a one bit, zeros, and its length in bits. -/
def shaPad (l : List Byte) : List Byte :=
  let z := (119 - l.length % 64) % 64
  l ++ [0x80] ++ List.replicate z 0 ++ (leBytes 8 (8 * l.length)).reverse

/-- SHA-256 (FIPS 180-4). [log 119 PRESUMED] -/
def sha256 (l : List Byte) : List Byte :=
  let p := shaPad l
  let h := shaBlocks (p.length / 64)
    ⟨shaH 0, shaH 1, shaH 2, shaH 3, shaH 4, shaH 5,
      shaH 6, shaH 7⟩ p
  [h.a, h.b, h.c, h.d, h.e, h.f, h.g, h.h].flatMap beBytes

/-! ### AES-256 -/

/-- The AES substitution box, values 0 to 63. -/
def aesS0 : List Nat :=
  [99, 124, 119, 123, 242, 107, 111, 197, 48, 1, 103, 43, 254, 215, 171, 118,
   202, 130, 201, 125, 250, 89, 71, 240, 173, 212, 162, 175, 156, 164, 114, 192,
   183, 253, 147, 38, 54, 63, 247, 204, 52, 165, 229, 241, 113, 216, 49, 21,
   4, 199, 35, 195, 24, 150, 5, 154, 7, 18, 128, 226, 235, 39, 178, 117]

/-- The AES substitution box, values 64 to 127. -/
def aesS1 : List Nat :=
  [9, 131, 44, 26, 27, 110, 90, 160, 82, 59, 214, 179, 41, 227, 47, 132,
   83, 209, 0, 237, 32, 252, 177, 91, 106, 203, 190, 57, 74, 76, 88, 207,
   208, 239, 170, 251, 67, 77, 51, 133, 69, 249, 2, 127, 80, 60, 159, 168,
   81, 163, 64, 143, 146, 157, 56, 245, 188, 182, 218, 33, 16, 255, 243, 210]

/-- The AES substitution box, values 128 to 191. -/
def aesS2 : List Nat :=
  [205, 12, 19, 236, 95, 151, 68, 23, 196, 167, 126, 61, 100, 93, 25, 115,
   96, 129, 79, 220, 34, 42, 144, 136, 70, 238, 184, 20, 222, 94, 11, 219,
   224, 50, 58, 10, 73, 6, 36, 92, 194, 211, 172, 98, 145, 149, 228, 121,
   231, 200, 55, 109, 141, 213, 78, 169, 108, 86, 244, 234, 101, 122, 174, 8]

/-- The AES substitution box, values 192 to 255. -/
def aesS3 : List Nat :=
  [186, 120, 37, 46, 28, 166, 180, 198, 232, 221, 116, 31, 75, 189, 139, 138,
   112, 62, 181, 102, 72, 3, 246, 14, 97, 53, 87, 185, 134, 193, 29, 158,
   225, 248, 152, 17, 105, 217, 142, 148, 155, 30, 135, 233, 206, 85, 40, 223,
   140, 161, 137, 13, 191, 230, 66, 104, 65, 153, 45, 15, 176, 84, 187, 22]

/-- The AES substitution box. -/
def aesS : List Nat := aesS0 ++ aesS1 ++ aesS2 ++ aesS3

/-- The inverse AES substitution box, values 0 to 63. -/
def aesInvS0 : List Nat :=
  [82, 9, 106, 213, 48, 54, 165, 56, 191, 64, 163, 158, 129, 243, 215, 251,
   124, 227, 57, 130, 155, 47, 255, 135, 52, 142, 67, 68, 196, 222, 233, 203,
   84, 123, 148, 50, 166, 194, 35, 61, 238, 76, 149, 11, 66, 250, 195, 78,
   8, 46, 161, 102, 40, 217, 36, 178, 118, 91, 162, 73, 109, 139, 209, 37]

/-- The inverse AES substitution box, values 64 to 127. -/
def aesInvS1 : List Nat :=
  [114, 248, 246, 100, 134, 104, 152, 22, 212, 164, 92, 204, 93, 101, 182, 146,
   108, 112, 72, 80, 253, 237, 185, 218, 94, 21, 70, 87, 167, 141, 157, 132,
   144, 216, 171, 0, 140, 188, 211, 10, 247, 228, 88, 5, 184, 179, 69, 6,
   208, 44, 30, 143, 202, 63, 15, 2, 193, 175, 189, 3, 1, 19, 138, 107]

/-- The inverse AES substitution box, values 128 to 191. -/
def aesInvS2 : List Nat :=
  [58, 145, 17, 65, 79, 103, 220, 234, 151, 242, 207, 206, 240, 180, 230, 115,
   150, 172, 116, 34, 231, 173, 53, 133, 226, 249, 55, 232, 28, 117, 223, 110,
   71, 241, 26, 113, 29, 41, 197, 137, 111, 183, 98, 14, 170, 24, 190, 27,
   252, 86, 62, 75, 198, 210, 121, 32, 154, 219, 192, 254, 120, 205, 90, 244]

/-- The inverse AES substitution box, values 192 to 255. -/
def aesInvS3 : List Nat :=
  [31, 221, 168, 51, 136, 7, 199, 49, 177, 18, 16, 89, 39, 128, 236, 95,
   96, 81, 127, 169, 25, 181, 74, 13, 45, 229, 122, 159, 147, 201, 156, 239,
   160, 224, 59, 77, 174, 42, 245, 176, 200, 235, 187, 60, 131, 83, 153, 97,
   23, 43, 4, 126, 186, 119, 214, 38, 225, 105, 20, 99, 85, 33, 12, 125]

/-- The inverse AES substitution box. -/
def aesInvS : List Nat := aesInvS0 ++ aesInvS1 ++ aesInvS2 ++ aesInvS3

/-- Multiplication by x in the AES field. -/
def xtime (b : Byte) : Byte := if b.getLsbD 7 then (b <<< 1) ^^^ 0x1B else b <<< 1

/-- Multiplication in the AES field by a factor below 16. -/
def gmul (k : Nat) (b : Byte) : Byte :=
  let b2 := xtime b
  let b4 := xtime b2
  let b8 := xtime b4
  (if bitOf k 0 then b else 0) ^^^ (if bitOf k 1 then b2 else 0) ^^^ (if bitOf k 2 then b4 else 0) ^^^
    (if bitOf k 3 then b8 else 0)

/-- Byte substitution. -/
def subByte (b : Byte) : Byte := BitVec.ofNat 8 (aesS.getD b.toNat 0)

/-- Inverse byte substitution. -/
def invSubByte (b : Byte) : Byte := BitVec.ofNat 8 (aesInvS.getD b.toNat 0)

/-- Bytewise exclusive or. -/
def xorBytes (a b : List Byte) : List Byte := List.zipWith (· ^^^ ·) a b

/-- The round constants, one a step of eight key words. -/
def aesRcon : List Byte := [0x01, 0x02, 0x04, 0x08, 0x10, 0x20, 0x40]

/-- Grow the key schedule by one word; words of four bytes stand latest first, and `i` is the new word's number. -/
def aesExpand (ws : List (List Byte)) (i : Nat) : List (List Byte) :=
  let t := ws.getD 0 []
  let t :=
    if i % 8 = 0 then
      xorBytes ([t.getD 1 0, t.getD 2 0, t.getD 3 0, t.getD 0 0].map subByte) [aesRcon.getD (i / 8 - 1) 0, 0, 0, 0]
    else if i % 8 = 4 then t.map subByte else t
  xorBytes (ws.getD 7 []) t :: ws

/-- The fifteen round keys of a 32-byte key. -/
def aesKeys (key : List Byte) : List (List Byte) :=
  let w0 := ((List.range 8).map fun i => (key.drop (4 * i)).take 4).reverse
  let ws := ((List.range 52).foldl (fun ws i => aesExpand ws (i + 8)) w0).reverse
  (List.range 15).map fun r => ((ws.drop (4 * r)).take 4).flatten

/-- Row shift of a block in column order. -/
def shiftRows (b : List Byte) : List Byte :=
  (List.range 16).map fun i => b.getD ((i + 4 * (i % 4)) % 16) 0

/-- Inverse row shift. -/
def invShiftRows (b : List Byte) : List Byte :=
  (List.range 16).map fun i => b.getD ((i + 12 * (i % 4)) % 16) 0

/-- A column mix with the given first row of factors. -/
def mixWith (f : List Nat) (b : List Byte) : List Byte :=
  (List.range 16).map fun i =>
    let c := i / 4 * 4
    let r := i % 4
    (List.range 4).foldl (fun acc j => acc ^^^ gmul (f.getD ((j + 4 - r) % 4) 0) (b.getD (c + j) 0)) 0

/-- AES-256 encryption of one block. [log 119 PRESUMED] -/
def aesEncrypt (key block : List Byte) : List Byte :=
  let ks := aesKeys key
  let x := xorBytes block (ks.getD 0 [])
  let x := (List.range 13).foldl
    (fun x r => xorBytes (mixWith [2, 3, 1, 1] (shiftRows (x.map subByte))) (ks.getD (r + 1) [])) x
  xorBytes (shiftRows (x.map subByte)) (ks.getD 14 [])

/-- AES-256 decryption of one block. [log 119 PRESUMED] -/
def aesDecrypt (key block : List Byte) : List Byte :=
  let ks := aesKeys key
  let x := xorBytes block (ks.getD 14 [])
  let x := (List.range 13).foldl
    (fun x r => mixWith [14, 11, 13, 9] (xorBytes ((invShiftRows x).map invSubByte) (ks.getD (13 - r) []))) x
  xorBytes ((invShiftRows x).map invSubByte) (ks.getD 0 [])

/-! ### AES-XTS and AES-CMAC -/

/-- Multiplication of a tweak by x, byte 0 lowest (IEEE 1619). -/
def xtsMul (t : List Byte) : List Byte :=
  let v := leNat t
  leBytes 16 (Nat.xor (2 * v % 2 ^ 128) (if 2 ^ 127 ≤ v then 0x87 else 0))

/-- XTS over whole blocks: each block is whitened with its tweak before and after the cipher. -/
def xtsBlocks (cipher : List Byte → List Byte) : Nat → List Byte → List Byte → List Byte
  | 0, _, _ => []
  | n + 1, t, d => xorBytes (cipher (xorBytes (d.take 16) t)) t ++ xtsBlocks cipher n (xtsMul t) (d.drop 16)

/-- The tweak of block `j` of a data unit, from that of block 0. -/
def xtsSkip : Nat → List Byte → List Byte
  | 0, t => t
  | j + 1, t => xtsSkip j (xtsMul t)

/-- AES-256-XTS encryption of a whole number of blocks that start at block `j` of their data unit, under the data key,
the tweak key and the tweak value. [log 119 PRESUMED] -/
def xtsEncrypt (k1 k2 tweak : List Byte) (j : Nat) (data : List Byte) : List Byte :=
  xtsBlocks (aesEncrypt k1) (data.length / 16) (xtsSkip j (aesEncrypt k2 tweak)) data

/-- AES-256-XTS decryption. [log 119 PRESUMED] -/
def xtsDecrypt (k1 k2 tweak : List Byte) (j : Nat) (data : List Byte) : List Byte :=
  xtsBlocks (aesDecrypt k1) (data.length / 16) (xtsSkip j (aesEncrypt k2 tweak)) data

/-- Doubling in the CMAC field, byte 0 highest (NIST SP 800-38B). -/
def cmacDouble (b : List Byte) : List Byte :=
  let v := leNat b.reverse
  (leBytes 16 (Nat.xor (2 * v % 2 ^ 128) (if 2 ^ 127 ≤ v then 0x87 else 0))).reverse

/-- The chained blocks of CMAC before the last one. -/
def cmacChain (key : List Byte) : Nat → List Byte → List Byte → List Byte
  | 0, x, _ => x
  | n + 1, x, l => cmacChain key n (aesEncrypt key (xorBytes x (l.take 16))) (l.drop 16)

/-- AES-256-CMAC of a message. [log 119 PRESUMED] -/
def cmac (key msg : List Byte) : List Byte :=
  let k1 := cmacDouble (aesEncrypt key (List.replicate 16 0))
  let n := if msg.isEmpty then 0 else (msg.length - 1) / 16
  let last := msg.drop (16 * n)
  let blk := if last.length = 16 then xorBytes last k1
    else xorBytes (padTo 16 (last ++ [0x80])) (cmacDouble k1)
  aesEncrypt key (xorBytes (cmacChain key n (List.replicate 16 0) msg) blk)

end Sys2Proof.Machine
end

