-- ==== Sys2Proof/Machine/Shade.lean ====
section
/-!
DEFINITION. Sys2Proof/Machine/Shade.lean: Shade's line operations (16_shade.md) with the ECC of the stored lines
(14_memory_controllers.md): region look-up, encryption, tags, and what a read or a write of one line does.
-/

namespace Sys2Proof.Machine

/-! ### Regions and keys -/

/-- The regions, keys and version under which a line looks its region up in this core cycle: in the cycle of a commit,
those from before it (R828, R829). [log 120 DEDUCED] -/
def shadeSet (s : State) : ShadeSet :=
  match s.shd.before with
  | some (t, old) => if t = s.clk.now then old else ⟨s.shd.regions, s.shd.active, s.shd.version⟩
  | none => ⟨s.shd.regions, s.shd.active, s.shd.version⟩

/-- A word of the region set in effect (R801). -/
def activeRegion (s : State) (a : Nat) : Nat := (sget resetValue (shadeSet s).regions a).toNat

/-- A region is in force (R798). -/
def regionInForce (s : State) (n : Nat) : Bool := bitOf (activeRegion s (R.SHD_RGN_CTRL n)) 31

/-- A region in force covers an address (R798). -/
def regionCovers (s : State) (n a : Nat) : Bool :=
  let b := activeRegion s (R.SHD_RGN_BASE n)
  regionInForce s n && decide (b ≤ a / 4096 ∧ a / 4096 < b + activeRegion s (R.SHD_RGN_SIZE n))

/-- How a line outside every region is handled (R799): Plain, Full ECC. -/
def plainProt (version : Nat) : Prot := ⟨16, 0, false, none, 0, 0, 4096, 0, version⟩

/-- The key of a slot. -/
def keyOf (v : Vector (Option (List Byte)) 16) (k : Nat) : Option (List Byte) := vget v (finOf 15 k)

/-- A line's protection in the active set (R799, R800, R808, R809). -/
def lookup (s : State) (a : Nat) : Prot :=
  match (List.range 16).find? (fun n => regionCovers s n a) with
  | none => plainProt (shadeSet s).version
  | some n =>
    let c := activeRegion s (R.SHD_RGN_CTRL n)
    { region := n
      mode := bitsOf c 1 0
      halt := bitOf c 8
      key := keyOf (shadeSet s).keys (bitsOf c 19 16)
      base := 4096 * activeRegion s (R.SHD_RGN_BASE n)
      lbn := activeRegion s (R.SHD_RGN_LBN_LO n) + 2 ^ 32 * activeRegion s (R.SHD_RGN_LBN_HI n)
      sector := if bitOf c 4 then 512 else 4096
      tagBase := 2048 * activeRegion s (R.SHD_RGN_TAG n)
      version := (shadeSet s).version }

/-- The engine of an address (R15, R16). -/
def engineOf (a : Nat) : Nat := a / 256 % 8

/-- The tweak value of a line (R809). -/
def tweakOf (p : Prot) (line : Nat) : List Byte := leBytes 16 ((p.lbn + (line - p.base) / p.sector) % 2 ^ 64)

/-- The first XTS block of a line in its sector (R810). -/
def blockOf (p : Prot) (line : Nat) : Nat := (line - p.base) % p.sector / 16

/-- K1, K2 and KM of a slot (R803). -/
def key1 (k : List Byte) : List Byte := k.take 32
def key2 (k : List Byte) : List Byte := (k.drop 32).take 32
def keyM (k : List Byte) : List Byte := (k.drop 64).take 32

/-- A line's ciphertext (R808 to R810). -/
def encryptLine (p : Prot) (k : List Byte) (line : Nat) (data : List Byte) : List Byte :=
  xtsEncrypt (key1 k) (key2 k) (tweakOf p line) (blockOf p line) data

/-- A line's plaintext. -/
def decryptLine (p : Prot) (k : List Byte) (line : Nat) (data : List Byte) : List Byte :=
  xtsDecrypt (key1 k) (key2 k) (tweakOf p line) (blockOf p line) data

/-- The tag of a line (R811). -/
def tagOf (p : Prot) (k : List Byte) (line : Nat) (cipher : List Byte) : List Byte :=
  (cmac (keyM k) ([BitVec.ofNat 8 p.region, 0, 0, 1] ++ leBytes 6 line ++ List.replicate 6 0 ++ cipher)).take 8

/-- Where a line's tag stands in XTS_TAGREG mode (R813). -/
def tagAddr (p : Prot) (a : Nat) : Nat :=
  let r := a - p.base
  let n := r / 2 ^ 11 * 4 + r / 64 % 4
  let t := 8 * n
  p.tagBase + t / 256 * 2 ^ 11 + r / 256 % 8 * 256 + t % 256

/-! ### Stored lines and their check bits -/

/-- The line of an address. -/
def lineOf (a : Nat) : Nat := a / 64 * 64

/-- How often the contents of a line's subchannel have been lost. [log 9 DESIGN CHOICE] -/
def MemS.losses (m : MemS) (a : Nat) : Nat := vget m.lost (finOf 7 (engineOf a))

/-- What external memory reads as where nothing has been written: zero since power-on, and a free value once its contents
have been lost (R194, R724, R928, log 9). [log 9 DESIGN CHOICE] -/
def memFill (m : MemS) (a : Nat) : Byte :=
  match m.losses a with
  | 0 => 0
  | k + 1 => Config.lostByte (k + 1) a

/-- The check bits of a line that nothing has written: good since power-on, and a free value once they have been lost
(log 9). [log 9 DESIGN CHOICE] -/
def memCheck (m : MemS) (a : Nat) : LineAttr :=
  match m.losses a with
  | 0 => ⟨false, [], none⟩
  | k + 1 =>
    let v := Config.lostCheck (k + 1) a
    let spare := v % 2 == 1
    ⟨spare, if spare then leBytes 8 (v / 8) else [], lostMark (v / 2)⟩

/-- Bytes of external memory as stored. -/
def memBytes (s : State) (a n : Nat) : List Byte := mget (memFill s.mem) s.mem.bytes a n

/-- A byte of external memory as stored. -/
def memByte (s : State) (a : Nat) : Byte := sget (memFill s.mem) s.mem.bytes a

/-- The bytes of a line as stored. -/
def rawLine (s : State) (line : Nat) : List Byte := memBytes s line 64

/-- A line's check bits. -/
def lineAttr (s : State) (line : Nat) : LineAttr := sget (memCheck s.mem) s.mem.attr line

/-- Store check bits. -/
def setAttr (line : Nat) (x : LineAttr) (s : State) : State :=
  { s with mem := { s.mem with attr := sset (memCheck s.mem) s.mem.attr line x } }

/-- Store bytes of external memory. -/
def storeBytes (a : Nat) (b : List Byte) (s : State) : State :=
  { s with mem := { s.mem with bytes := mput (memFill s.mem) s.mem.bytes a b } }

/-- The contents of a subchannel are lost (R194, R724, R728, R730, R928, log 9). [log 9 DESIGN CHOICE] -/
def loseSubchannel (sc : Nat) (s : State) : State :=
  { s with mem := { s.mem with
      bytes := s.mem.bytes.filter (fun c => engineOf c.1 != sc)
      attr := s.mem.attr.filter (fun c => engineOf c.1 != sc)
      lost := Vector.ofFn fun i : Fin 8 => vget s.mem.lost i + b2n (i.val == sc) } }

/-- The contents of every subchannel are lost (R194). [log 9 DESIGN CHOICE] -/
def loseMemory (s : State) : State :=
  { s with mem := { s.mem with bytes := [], attr := [], lost := s.mem.lost.map (· + 1) } }

/-- Store a whole line with fresh check bits (R758), in which an armed injection puts its error (R908 code 0x01). -/
def storeLine (line : Nat) (b : List Byte) (spare : Bool) (tag : List Byte) (full : Bool) (s : State) : State :=
  let s := storeBytes line (padTo 64 b) s
  match if full then injArmed s 1 (engineOf line) (some (line, 64)) else none with
  | some k => injUsed (setAttr line ⟨spare, tag, some (if k = 1 then .correctable true else .uncorrectable true)⟩ s)
  | none => setAttr line ⟨spare, tag, none⟩ s

/-- What reading a stored line under Full or Spare ECC yields (R751, R752, R758, R833): data and tag as corrected, or an
uncorrectable error; `inj` says that an injection put the error there. [log 13 DESIGN CHOICE] -/
inductive Ecc where
  | clean (data tag : List Byte)
  | corrected (data tag : List Byte) (inj : Bool)
  | uncorrectable (inj : Bool)
deriving DecidableEq, Repr

/-- Read a stored line under an ECC mode. A line stored under the other mode reads as a free value's choice of
correctable, uncorrectable or miscorrected data (R833, log 13). [log 13 DESIGN CHOICE] -/
def readEcc (line : Nat) (spare : Bool) (s : State) : Ecc × State :=
  let x := lineAttr s line
  let d := rawLine s line
  if x.spare != spare then
    let c := s.free
    let s := s.draw
    let v := s.free
    let s := s.draw
    let d := leBytes 64 v
    let t := if spare then leBytes 8 (v / 2 ^ 512) else []
    (match c % 3 with
      | 0 => .corrected d t false
      | 1 => .uncorrectable false
      | _ => .clean d t, s)
  else match x.mark with
    | none => (.clean d x.tag, s)
    | some (.correctable i) => (.corrected d x.tag i, s)
    | some (.uncorrectable i) => (.uncorrectable i, s)
    | some .poison => (.uncorrectable false, s)

/-- A corrected error is counted (R753). -/
def countCe (line : Nat) (inj : Bool) (s : State) : State :=
  let sc := engineOf line
  let s := s.incSat (F.MC_SC_CE_COUNT (sc / 2) (sc % 2))
  raise (192 + 4 * (sc / 2)) (rasDetect 1 1 sc line 0 inj s)

/-- An uncorrectable error is counted and recorded (R754); `kind` is 2, or 3 where poison is written (R757). -/
def countUe (line kind : Nat) (inj : Bool) (s : State) : State :=
  let sc := engineOf line
  let n := sc / 2
  let j := sc % 2
  let s := s.incSat (F.MC_SC_UE_COUNT n j)
  let s :=
    if s.flag (F.MC_SC_UE_ADDR_HI_VALID n j) then s
    else (s.wr (R.MC_SC_UE_ADDR_LO n j) (BitVec.ofNat 32 (line % 2 ^ 32))).wr (R.MC_SC_UE_ADDR_HI n j)
      (BitVec.ofNat 32 (2 ^ 31 + line / 2 ^ 32))
  raise (193 + 4 * n) (rasDetect 1 kind sc line 0 inj s)

/-! ### Failures -/

/-- An alarm is counted and the first one recorded (R807, R824). -/
def recordAlarm (line region m : Nat) (s : State) : State :=
  let e := engineOf line
  let s := s.incSat (F.SHD_ENG_FAIL_COUNT e)
  if s.flag F.SHD_ALARM_INFO_VALID then s
  else
    let s := s.wr R.SHD_ALARM_INFO (BitVec.ofNat 32 (2 ^ 31 + e * 2 ^ 16 + region * 2 ^ 8 + m))
    (s.wr R.SHD_ALARM_ADDR_LO (BitVec.ofNat 32 (line % 2 ^ 32))).wr R.SHD_ALARM_ADDR_HI (BitVec.ofNat 32 (line / 2 ^ 32))

/-- A line of a region whose slot holds no active key (R807). -/
def noKey (line region m : Nat) (s : State) : State :=
  raise (208 + engineOf line) ((recordAlarm line region m s).set F.SHD_STATUS_NO_KEY 1)

/-- The halt is recorded: none has been since the log was cleared, or the one recorded came in this core cycle from a
higher-numbered engine (R825, R827, R838). -/
def haltRecords (line : Nat) (s : State) : Bool :=
  !s.flag F.SHD_HALT_LOG_VALID ||
    (s.shd.halt == some (s.clk.now, true) && decide (engineOf line < s.get F.SHD_HALT_LOG_ENGINE))

/-- Step 1 of a halt (R825, R827, R838): the halt is recorded, and HALTED sets. [log 101 DEDUCED] -/
def recordHalt (line region m : Nat) (s : State) : State :=
  let s :=
    if !haltRecords line s then { s with shd := { s.shd with halt := some (s.shd.halt.getD (s.clk.now, false)) } }
    else
      let s := { s with shd := { s.shd with halt := some (s.clk.now, true) } }
      let s := s.wr R.SHD_HALT_LOG (BitVec.ofNat 32 (2 ^ 31 + engineOf line * 2 ^ 16 + region * 2 ^ 8 + m))
      (s.wr R.SHD_HALT_ADDR_LO (BitVec.ofNat 32 (line % 2 ^ 32))).wr R.SHD_HALT_ADDR_HI (BitVec.ofNat 32 (line / 2 ^ 32))
  (s.set F.SHD_STATUS_HALTED 1).set F.SVP_STATUS_HALTED 1

/-- An integrity failure (R823 to R825). -/
def tagFailure (line m : Nat) (p : Prot) (inj : Bool) (s : State) : State :=
  let s := recordAlarm line p.region m s
  let s := if p.halt then recordHalt line p.region m s else s
  let s := rasDetect 6 4 (engineOf line) line (p.region * 2 ^ 8 + m) inj s
  raise (208 + engineOf line) s

/-- An armed injection forces a mismatch at this engine (R908 code 0x06). -/
def forcedMismatch (line : Nat) (s : State) : Bool × State :=
  match injArmed s 6 (engineOf line) none with
  | some _ => (true, injUsed s)
  | none => (false, s)

/-! ### Line operations -/

/-- The tag of a line as stored, in the tag modes: the spare check bits' (already read), or the tag line's (R812, R813,
R817); none when the tag line cannot be read. -/
def storedTag (p : Prot) (line : Nat) (spareTag : List Byte) (s : State) : Option (List Byte) × State :=
  if p.mode = 3 then (some spareTag, s)
  else
    let ta := tagAddr p line
    match readEcc (lineOf ta) false s with
    | (.clean d _, s) => (some ((d.drop (ta % 64)).take 8), s)
    | (.corrected d _ i, s) => (some ((d.drop (ta % 64)).take 8), countCe (lineOf ta) i s)
    | (.uncorrectable i, s) => (none, countUe (lineOf ta) 2 i s)

/-- Check a line's tag and decrypt it (R816, R823): the plaintext, or the status the access ends with. -/
def openLine (p : Prot) (line m : Nat) (cipher spareTag : List Byte) (s : State) : Except Status (List Byte) × State :=
  match p.mode, p.key with
  | 0, _ => (.ok cipher, s)
  | _, none => (.error .busErr, noKey line p.region m s)
  | 1, some k => (.ok (decryptLine p k line cipher), s)
  | _, some k =>
    match storedTag p line spareTag s with
    | (none, s) => (.error .busErr, s)
    | (some t, s) =>
      let (forced, s) := forcedMismatch line s
      if forced || t != tagOf p k line cipher then (.error .busErr, tagFailure line m p forced s)
      else (.ok (decryptLine p k line cipher), s)

/-- The region's slot holds no key that its mode needs (R807). -/
def lacksKey (p : Prot) : Bool := p.mode != 0 && p.key.isNone

/-- A read of one line (R753, R754, R807, R816, R817). -/
def readLine (p : Prot) (line m : Nat) (s : State) : Except Status (List Byte) × State :=
  if lacksKey p then (.error .busErr, noKey line p.region m s)
  else match readEcc line (p.mode == 3) s with
    | (.uncorrectable i, s) => (.error .busErr, countUe line 2 i s)
    | (.corrected d t i, s) => openLine p line m d t (countCe line i s)
    | (.clean d t, s) => openLine p line m d t s

/-- Store a tag in its tag line, a read-modify-write of it (R819, R990): none when the tag line cannot be read. A
correctable tag line is counted once, so not again where the tag check has read it. [log 95 DEDUCED] -/
def storeTag (p : Prot) (line : Nat) (tag : List Byte) (count : Bool) (s : State) : Option State :=
  let ta := tagAddr p line
  match readEcc (lineOf ta) false s with
  | (.uncorrectable _, _) => none
  | (.corrected d _ i, s) =>
    let s := storeLine (lineOf ta) (splice d (ta % 64) tag) false [] false s
    some (if count then countCe (lineOf ta) i s else s)
  | (.clean d _, s) => some (storeLine (lineOf ta) (splice d (ta % 64) tag) false [] false s)

/-- Encrypt a line, tag it and store both (R818, R819, R990). -/
def sealLine (p : Prot) (line : Nat) (plain : List Byte) (full : Bool) (s : State) : Status × State :=
  match p.mode, p.key with
  | 0, _ => (.ok, storeLine line plain false [] full s)
  | _, none => (.busErr, s)
  | 1, some k => (.ok, storeLine line (encryptLine p k line plain) false [] full s)
  | 2, some k =>
    let c := encryptLine p k line plain
    match storeTag p line (tagOf p k line c) full s with
    | some s => (.ok, storeLine line c false [] full s)
    | none =>
      let ta := lineOf (tagAddr p line)
      (.busErr, countUe ta 2 (match (lineAttr s ta).mark with | some (.uncorrectable i) => i | _ => false) s)
  | _, some k =>
    let c := encryptLine p k line plain
    (.ok, storeLine line c true (tagOf p k line c) full s)

/-- A write of a whole line (R818). -/
def writeLine (p : Prot) (line m : Nat) (data : List Byte) (s : State) : Status × State :=
  if lacksKey p then (.busErr, noKey line p.region m s) else sealLine p line data true s

/-- Write the enabled bytes over a line. -/
def mergeBytes (be : List Bool) (data old : List Byte) : List Byte :=
  (List.range 64).map fun i => if be.getD i false then byteAt data i else byteAt old i

/-- A write of part of a line (R755 to R757, R820, R821): read, check, merge, write back; an uncorrectable line becomes
poisoned. -/
def partialWrite (p : Prot) (line m : Nat) (be : List Bool) (data : List Byte) (s : State) : Status × State :=
  if lacksKey p then (.busErr, noKey line p.region m s)
  else
    let rest := fun (d t : List Byte) (s : State) =>
      match openLine p line m d t s with
      | (.error e, s) => (e, s)
      | (.ok old, s) => sealLine p line (mergeBytes be data old) false s
    match readEcc line (p.mode == 3) s with
    | (.uncorrectable _, s) =>
      (.busErr, countUe line 3 false (setAttr line { lineAttr s line with mark := some .poison } s))
    | (.corrected d t i, s) => rest d t (countCe line i s)
    | (.clean d t, s) => rest d t s

end Sys2Proof.Machine
end

