-- ==== Sys2Proof/Machine/MemCtl.lean ====
section
/-!
DEFINITION. Sys2Proof/Machine/MemCtl.lean: the external memory controllers (14_memory_controllers.md): subchannel states,
queues, scheduling, rows and trackers, refresh and retraining, and the line operations as they are performed.
-/

namespace Sys2Proof.Machine

/-! ### Subchannels -/

/-- A subchannel beside its register. -/
def State.sub (s : State) (sc : Nat) : SubS := vget s.mem.subs (finOf 7 sc)

/-- Change a subchannel. -/
def modSub (sc : Nat) (f : SubS → SubS) (s : State) : State :=
  { s with mem := { s.mem with subs := vset s.mem.subs (finOf 7 sc) (f (s.sub sc)) } }

/-- A controller beside its registers. -/
def State.ctl (s : State) (n : Nat) : CtlS := vget s.mem.ctls (finOf 3 n)

/-- Change a controller. -/
def modCtl (n : Nat) (f : CtlS → CtlS) (s : State) : State :=
  { s with mem := { s.mem with ctls := vset s.mem.ctls (finOf 3 n) (f (s.ctl n)) } }

/-- The field that reports a subchannel's state. -/
def scField (sc : Nat) : Field :=
  if sc % 2 = 0 then F.MC_STATUS_SC0_STATE (sc / 2) else F.MC_STATUS_SC1_STATE (sc / 2)

/-- A subchannel's state (R723): 0 OFF, 1 INIT, 2 RUNNING, 3 RETRAINING, 4 SELF_REFRESH, 5 FAILED, 6 STOPPING. -/
def scState (s : State) (sc : Nat) : Nat := s.get (scField sc)

/-- A subchannel changes state (R732). -/
def scEnter (sc st : Nat) (s : State) : State :=
  if scState s sc = st then s
  else
    raise (195 + 4 * (sc / 2)) (modSub sc (fun u => { u with since := s.clk.now }) (s.set (scField sc) st))

/-- The other subchannel of the controller. -/
def sibling (sc : Nat) : Nat := if sc % 2 = 0 then sc + 1 else sc - 1

/-- The line index of an address in its subchannel (R720). -/
def lineIndex (a : Nat) : Nat := (a / 2 ^ 11 * 256 + a % 256) / 64

/-- What an access to an address meets at its controller (R722, R723): `ok` when it is served or waits. -/
def memStatus (s : State) (a : Nat) : Status :=
  let sc := engineOf a
  if !populated s sc || capacity s (sc / 2) ≤ 64 * lineIndex a then .unmapped
  else match scState s sc with
    | 2 | 3 => .ok
    | 5 => .busErr
    | _ => .unmapped

/-! ### Location of a line (R721) -/

/-- The rank of a line. -/
def rankOf (s : State) (line : Nat) : Nat :=
  if s.flag (F.MC_CFG_RANKS (engineOf line / 2)) then bitsOf (lineIndex line) 12 12 else 0

/-- The bank of a line among those of its subchannel: rank, bank group and bank. -/
def bankOf (s : State) (line : Nat) : Nat :=
  rankOf s line * 32 + bitsOf (lineIndex line) 4 2 * 4 + bitsOf (lineIndex line) 11 10

/-- The row of a line. -/
def rowOf (s : State) (line : Nat) : Nat :=
  lineIndex line / (if s.flag (F.MC_CFG_RANKS (engineOf line / 2)) then 2 ^ 13 else 2 ^ 12)

/-! ### Trackers (R745 to R749) -/

/-- How often a master appears in a history. -/
def histCount (l : List Nat) (m : Nat) : Nat := (l.filter (fun x => x == m)).length

/-- The aggressor of a history, most recent first: the master that appears most often, the most recent on a tie. -/
def aggressor (l : List Nat) : Nat :=
  l.foldl (fun best m => if histCount l best < histCount l m then m else best) (l.headD 0)

/-- Set or clear a master's bit in BB_THROTTLED. -/
def showThrottled (m : Nat) (on : Bool) (s : State) : State :=
  let a := R.BB_THROTTLED (m / 32)
  let bit := BitVec.ofNat 32 (2 ^ (m % 32))
  s.wr a (if on then s.rd a ||| bit else s.rd a &&& ~~~ bit)

/-- A master is throttled from now on for THROTTLE_US (R749). -/
def throttle (n m : Nat) (s : State) : State :=
  let e := s.elapsed + 1000 * s.get (F.MC_RH_THROTTLE_US n)
  showThrottled m true { s with bb := { s.bb with throttle := (m, e) :: s.bb.throttle.filter (fun x => x.1 != m) } }

/-- A threshold crossing (R748): throttle, RFMab, log, event. [log 95 DEDUCED] -/
def crossing (sc : Nat) (e : TrackEntry) (s : State) : State :=
  let n := sc / 2
  let m := aggressor e.hist
  let rfm := inPanic s m || s.flag (F.MC_RH_RFM_EN n)
  let s := (throttle n m s).incSat (F.MC_STATS_THROTTLES n)
  let s := if rfm then s.incSat (F.MC_STATS_RFMS n) else s
  let s :=
    if s.flag (F.MC_RH_LOG0_VALID n) then s
    else
      let s := s.wr (R.MC_RH_LOG0 n) (BitVec.ofNat 32 (2 ^ 31 + sc % 2 * 2 ^ 24 + e.bank / 32 * 2 ^ 23 +
        e.bank / 4 % 8 * 2 ^ 20 + e.bank % 4 * 2 ^ 18 + e.row))
      s.wr (R.MC_RH_LOG1 n) (BitVec.ofNat 32 (b2n rfm * 2 ^ 9 + 2 ^ 8 + m))
  raise (194 + 4 * n) s

/-- The entry of a bank with the smallest count, the lowest-numbered one on a tie. -/
def smallest : List TrackEntry → Option TrackEntry
  | [] => none
  | e :: l => match smallest l with
    | some f => if f.count < e.count then some f else some e
    | none => some e

/-- The tracker after an activation, and the entry it counted in (R746). -/
def trackIn (bank row m : Nat) (l : List TrackEntry) : List TrackEntry × TrackEntry :=
  match l.find? (fun e => e.bank == bank && e.row == row) with
  | some e =>
    let e' := { e with count := e.count + 1, hist := (m :: e.hist).take 16 }
    (l.map fun x => if x = e then e' else x, e')
  | none =>
    let mine := l.filter (fun e => e.bank == bank)
    if mine.length < 16 then
      let e' : TrackEntry := ⟨bank, row, 1, [m]⟩
      (l ++ [e'], e')
    else match smallest mine with
      | some e =>
        let e' : TrackEntry := ⟨bank, row, e.count + 1, [m]⟩
        (l.map fun x => if x = e then e' else x, e')
      | none => (l, ⟨bank, row, 0, []⟩)

/-- An activation of a row by a master (R745 to R748). [log 95 DEDUCED] -/
def activate (sc bank row m : Nat) (s : State) : State :=
  let (l, e) := trackIn bank row m (s.sub sc).track
  if s.get (F.MC_RH_RH_THRESH (sc / 2)) ≤ e.count then
    let l := l.map fun x => if x = e then { e with count := 0 } else x
    crossing sc e (modSub sc (fun u => { u with track := l }) s)
  else modSub sc (fun u => { u with track := l }) s

/-- A column command to a line's row (R739, R741): a hit lengthens the streak, anything else activates the row.
[log 95 DEDUCED] -/
def touchRow (line m : Nat) (s : State) : State :=
  let sc := engineOf line
  let b := bankOf s line
  let r := rowOf s line
  let rest := (s.sub sc).rows.filter (fun x => x.bank != b)
  match (s.sub sc).rows.find? (fun x => x.bank == b) with
  | some x =>
    if x.row = r then modSub sc (fun u => { u with rows := ⟨b, r, x.streak + 1⟩ :: rest }) s
    else activate sc b r m (modSub sc (fun u => { u with rows := ⟨b, r, 1⟩ :: rest }) s)
  | none => activate sc b r m (modSub sc (fun u => { u with rows := ⟨b, r, 1⟩ :: rest }) s)

/-! ### Bursts at a controller -/

/-- Change an unanswered request. -/
def modBurst (id : Nat) (f : Burst → Burst) (s : State) : State :=
  { s with bb := { s.bb with bursts := s.bb.bursts.map fun b => if b.req.id = id then f b else b } }

/-- A line of a request has been performed: its status and, for a read, its bytes. A write whose last line it was is
answered. [log 94 DEDUCED] -/
def pieceDone (id : Nat) (st : Status) (at_ : Nat) (bytes : List Byte) (s : State) : State :=
  let s := modBurst id (fun b => { b with
    left := b.left - 1, status := if b.status = .ok then st else b.status
    got := if bytes.isEmpty then b.got else b.got ++ [(at_, bytes)] }) s
  match s.bb.bursts.find? (fun b => b.req.id == id) with
  | some b => if b.req.write && b.left = 0 then completeReq id b.status [] s else s
  | none => s

/-- The lines a burst covers. -/
def burstLines (a len : Nat) : List Nat :=
  (List.range ((a + len - 1) / 64 + 1 - a / 64)).map fun i => lineOf a + 64 * i

/-- The byte enables of a write burst in one of its lines. -/
def lineEnables (r : Req) (line : Nat) : List Bool :=
  (List.range 64).map fun i => decide (r.addr ≤ line + i) && r.be.getD (line + i - r.addr) false

/-- The bytes of a write burst in one of its lines. -/
def lineData (r : Req) (line : Nat) : List Byte :=
  (List.range 64).map fun i => if r.addr ≤ line + i then byteAt r.data (line + i - r.addr) else 0

/-- Every byte of the line is written. -/
def allOn (be : List Bool) : Bool := be.all id

/-- A whole-line write that nothing can fail is answered once it is committed (R668). [log 94 DEDUCED] -/
def sureWrite (p : Prot) (be : List Bool) : Bool := allOn be && !lacksKey p && p.mode != 2

/-- Put a line operation in its queue; one that looks its region up in the cycle of a commit is under the earlier set (R829,
R830). -/
def enqueueLine (r : Req) (line : Nat) (s : State) : State :=
  let q : MemReq := ⟨r.id, r.master, r.write, line, lineData r line, lineEnables r line, lookup s line, s.mem.age⟩
  let s := whenB (q.prot.version != s.shd.version) (fun s => s.set F.SHD_STATUS_DRAINED 0) s
  let s := { s with mem := { s.mem with age := s.mem.age + 1 } }
  modSub (engineOf line) (fun u =>
    if r.write then { u with writes := u.writes ++ [q] } else { u with reads := u.reads ++ [q] }) s

/-- A granted read, or a committed write, reaches its controller (R668, R722, R723, R829). [log 94 DEDUCED] -/
def memEnter (r : Req) (s : State) : State :=
  match memStatus s r.addr with
  | .ok =>
    let lines := (burstLines r.addr r.len).filter fun l => !r.write || (lineEnables r l).any id
    let s := forEach lines (enqueueLine r) s
    let open_ := lines.filter fun l => !(r.write && sureWrite (lookup s l) (lineEnables r l))
    if r.write && open_.isEmpty then completeReq r.id .ok [] s
    else modBurst r.id (fun b => { b with left := open_.length }) s
  | st => completeReq r.id st [] s

/-- The queue of its kind has room for the whole burst behind `extra` lines that are on their way (R670, R737).
[log 96 DEDUCED] -/
def memRoom (s : State) (r : Req) (extra : Nat) : Bool :=
  let u := s.sub (engineOf r.addr)
  memStatus s r.addr != .ok ||
    decide ((if r.write then u.writes.length else u.reads.length) + extra + (burstLines r.addr r.len).length ≤ 64)

/-! ### Scheduling (R738 to R741) -/

/-- The turn of a subchannel (R738). [log 96 DEDUCED] -/
def turnOf (s : State) (sc : Nat) : Bool :=
  let u := s.sub sc
  let n := u.writes.length
  if u.writes.isEmpty then false
  else if u.reads.isEmpty then true
  else if s.get (F.MC_SCHED_WQ_HI (sc / 2)) ≤ n then true
  else if n ≤ s.get (F.MC_SCHED_WQ_LO (sc / 2)) then false
  else u.writeTurn

/-- An older request for the same line goes first, but for a read behind a write, which is merged with it (R737,
R759). [log 96 DEDUCED] -/
def mayGo (u : SubS) (r : MemReq) : Bool :=
  !r.write || !((u.reads ++ u.writes).any fun q => q.line == r.line && decide (q.age < r.age))

/-- The first of the requests with the smallest age. -/
def oldest : List MemReq → Option MemReq
  | [] => none
  | r :: l => match oldest l with
    | some q => if q.age < r.age then some q else some r
    | none => some r

/-- A request's row is open in its bank. -/
def rowHit (s : State) (sc : Nat) (r : MemReq) : Bool :=
  (s.sub sc).rows.any fun x => x.bank == bankOf s r.line && x.row == rowOf s r.line

/-- Another request waits for a different row of the request's bank. -/
def hasConflict (s : State) (sc : Nat) (q : List MemReq) (bank : Nat) : Bool :=
  q.any fun r => bankOf s r.line == bank && !rowHit s sc r

/-- The next request of a subchannel (R740). [log 96 DEDUCED] -/
def nextRequest (s : State) (sc : Nat) : Option MemReq :=
  let u := s.sub sc
  let may := fun l => l.filter (mayGo u)
  let all := may (u.reads ++ u.writes)
  let panics := all.filter (fun r => inPanic s r.master)
  let q :=
    if u.writes.length = 64 && !(may u.writes).isEmpty then may u.writes
    else if !panics.isEmpty then panics
    else if turnOf s sc then may u.writes else u.reads
  let q := if q.isEmpty then all else q
  let hits := q.filter (rowHit s sc)
  let hits := hits.filter fun r =>
    !((u.rows.any fun x => x.bank == bankOf s r.line && decide (s.get (F.MC_SCHED_HIT_LIMIT (sc / 2)) ≤ x.streak)) &&
      hasConflict s sc q (bankOf s r.line))
  if hits.isEmpty then oldest q else oldest hits

/-- The subchannel serves its queues (R723). -/
def scServes (s : State) (sc : Nat) : Bool := scState s sc == 2 || scState s sc == 6

/-- A panic request is queued at the subchannel (R743). -/
def panicQueued (s : State) (sc : Nat) : Bool :=
  ((s.sub sc).reads ++ (s.sub sc).writes).any fun r => inPanic s r.master

/-- REFab closes the rank's open rows (R741, R742). [log 98 DEDUCED] -/
def closeRank (sc rank : Nat) (s : State) : State :=
  modSub sc (fun u => { u with rows := u.rows.filter (fun x => x.bank / 32 != rank) }) s

/-- With no panic request queued, a rank's postponed refreshes are issued before any other request of it (R744). [log 98 DEDUCED] -/
def catchUpRefresh (sc rank : Nat) (s : State) : State :=
  let i := finOf 1 rank
  if vget (s.sub sc).postponed i != 0 && !panicQueued s sc then
    closeRank sc rank (modSub sc (fun u => { u with postponed := vset u.postponed i 0 }) s)
  else s

/-- MC_SCHEDULE_DECISION (R740, R744): the request chosen leaves its queue, and its rows are opened. -/
def scheduleDecision (sc : Nat) (s : State) : State :=
  if scServes s sc && (s.sub sc).service.isNone then
    match nextRequest s sc with
    | some r =>
      let t := turnOf s sc
      let s := catchUpRefresh sc (rankOf s r.line) s
      let s := modSub sc (fun u => { u with
        writeTurn := t, service := some r, reads := u.reads.erase r, writes := u.writes.erase r }) s
      let s := touchRow r.line r.master s
      if r.prot.mode = 2 && r.prot.key.isSome then touchRow (tagAddr r.prot r.line) r.master s else s
    | none => s
  else s

/-! ### Line operations as they are performed -/

/-- Queued older writes of a line, oldest first (R737). -/
def queuedBefore (s : State) (r : MemReq) : List MemReq :=
  (s.sub (engineOf r.line)).writes.filter fun w => w.line == r.line && decide (w.age < r.age)

/-- A read of a line merged with the queued writes that are older (R737). [log 96 DEDUCED] -/
def readMerged (r : MemReq) (s : State) : Except Status (List Byte) × State :=
  let w := queuedBefore s r
  let lastFull : Option MemReq := w.foldl (fun (acc : Option MemReq) (x : MemReq) =>
    if allOn x.be then some x else acc) none
  let after : List MemReq := match lastFull with
    | some f => w.filter (fun x => decide (f.age < x.age))
    | none => w
  let merge := fun (b : List Byte) => after.foldl (fun b x => mergeBytes x.be x.data b) b
  match lastFull with
  | some f => (.ok (merge f.data), s)
  | none => match readLine r.prot r.line r.master s with
    | (.ok b, s) => (.ok (merge b), s)
    | (.error e, s) => (.error e, s)

/-- The scrubber reads a line as it is stored and writes a corrected one back (R802, R919); a failing line stays.
[log 97 DEDUCED] -/
def scrubLine (r : MemReq) (s : State) : State :=
  match readEcc r.line (r.prot.mode == 3) s with
  | (.corrected d t i, s) => countCe r.line i (storeLine r.line d (r.prot.mode == 3) t false s)
  | (.uncorrectable i, s) => countUe r.line 2 i s
  | (.clean _ _, s) => s

/-- Perform a line operation (R753 to R758, R816 to R821): its burst learns how it went. -/
def performLine (r : MemReq) (s : State) : State :=
  if r.master = 3 then pieceDone r.id .ok r.line [] (scrubLine r s)
  else if r.write then
    let (st, s) :=
      if allOn r.be then writeLine r.prot r.line r.master r.data s
      else partialWrite r.prot r.line r.master r.be r.data s
    if sureWrite r.prot r.be then s else pieceDone r.id st r.line [] s
  else match readMerged r s with
    | (.ok b, s) => pieceDone r.id .ok r.line b s
    | (.error e, s) => pieceDone r.id e r.line [] s

/-- Perform the operation in service, if it is of the wanted kind. -/
def performService (sc : Nat) (want : MemReq → Bool) (s : State) : State :=
  match (s.sub sc).service with
  | some r => if want r then performLine r (modSub sc (fun u => { u with service := none }) s) else s
  | none => s

/-- Every queued write of a subchannel is performed, oldest first, by fuel; reads end with BUS_ERR (R195, R231, R730,
R825). -/
def retireWrites (sc : Nat) : Nat → State → State
  | 0, s => s
  | k + 1, s => match (s.sub sc).writes with
    | [] => s
    | r :: rest => retireWrites sc k (performLine r (modSub sc (fun u => { u with writes := rest }) s))

/-- The reads of a subchannel end with BUS_ERR. -/
def failReads (sc : Nat) (s : State) : State :=
  let u := s.sub sc
  let l := u.reads ++ (match u.service with | some r => if r.write then [] else [r] | none => [])
  let s := modSub sc (fun u => { u with reads := [], service := u.service.filter (fun r => r.write) }) s
  forEach l (fun r s => pieceDone r.id .busErr r.line [] s) s

/-- Every write of a subchannel reaches the DRAM: the one in service first, then its queue. -/
def retireAll (sc : Nat) (s : State) : State :=
  retireWrites sc 64 (performService sc (fun r => r.write) s)

/-- A trained subchannel retires its writes and enters Self-refresh now (R195, R231, R825). -/
def selfRefreshNow (sc : Nat) (s : State) : State :=
  let st := scState s sc
  if st = 2 ∨ st = 3 ∨ st = 6 then
    let s := retireAll sc (failReads sc s)
    scEnter sc 4 (modSub sc (fun u => { u with rows := [], retrainDue := none }) s)
  else s

/-- A subchannel that initialises, or has failed, becomes Off with its contents lost (R195, R728, R730). -/
def abandonInit (sc : Nat) (s : State) : State :=
  if scState s sc = 1 ∨ scState s sc = 5 then scEnter sc 0 (loseSubchannel sc s) else s

/-! ### EN (R724 to R731) -/

/-- A populated subchannel when EN changes to 1: Off or Failed initialises (R724). -/
def enableSub (sc : Nat) (s : State) : State :=
  if populated s sc && (scState s sc == 0 || scState s sc == 5) then
    modSub sc (fun u => { u with driven := true }) (scEnter sc 1 (loseSubchannel sc s))
  else s

/-- EN = 1 would be refused (R726). -/
def mcRefuses (s : State) (n : Nat) : Bool :=
  s.get (F.MC_CFG_POP n) == 0 || s.get (F.MC_CFG_RATE n) < 8 || 16 < s.get (F.MC_CFG_RATE n) ||
    1 < s.get (F.MC_CFG_DENSITY n)

/-- EN changes to 1 (R724 to R726). -/
def mcEnable (n : Nat) (s : State) : State :=
  if mcRefuses s n then s.set (F.MC_STATUS_REFUSED n) 1
  else enableSub (2 * n + 1) (enableSub (2 * n) (s.set (F.MC_CTRL_EN n) 1))

/-- A subchannel when EN changes to 0 (R728). -/
def disableSub (sc : Nat) (s : State) : State :=
  match scState s sc with
  | 2 | 3 => scEnter sc 6 (modSub sc (fun u => { u with retrainDue := none }) s)
  | 1 => scEnter sc 0 (loseSubchannel sc s)
  | _ => s

/-- A subchannel of the controller is Stopping. -/
def mcStopping (s : State) (n : Nat) : Bool := scState s (2 * n) == 6 || scState s (2 * n + 1) == 6

/-- An enable of the controller is held: a subchannel stops, or its Engine reset runs (R200). -/
def mcDown (s : State) (n : Nat) : Bool := mcStopping s n || s.rst.engines.contains (0x28 + n)

/-- A write of MCn_CTRL (R200, R724 to R728). [log 7 DEDUCED] -/
def mcCtrlWrite (n : Nat) (v : Word) (s : State) : State :=
  let en := (F.MC_CTRL_EN n).on v
  let was := s.flag (F.MC_CTRL_EN n)
  if mcDown s n then
    (s.setB (F.MC_CTRL_EN n) en).setB (F.MC_STATUS_ENABLE_PENDING n) en
  else if en && !was then mcEnable n s
  else if !en && was then disableSub (2 * n + 1) (disableSub (2 * n) (s.set (F.MC_CTRL_EN n) 0))
  else s

/-- A write of MCn_CFG (R729). -/
def mcCfgWrite (n : Nat) (v : Word) (s : State) : State :=
  let ok := fun sc => scState s sc == 0 || scState s sc == 4
  if ok (2 * n) && ok (2 * n + 1) then s.writeByAcc (R.MC_CFG n) v else s.set (F.MC_STATUS_IGNORED n) 1

/-- A held enable is applied (R200). -/
def mcPending (n : Nat) (s : State) : State :=
  if s.flag (F.MC_STATUS_ENABLE_PENDING n) then
    mcEnable n ((s.set (F.MC_STATUS_ENABLE_PENDING n) 0).set (F.MC_CTRL_EN n) 0)
  else s

/-- Both subchannels have left Stopping (R200, R730): an Engine reset goes on, or a held enable is applied. -/
def mcStopped (n : Nat) (s : State) : State :=
  if mcStopping s n then s
  else if s.rst.engines.contains (0x28 + n) then modCtl n (fun c => { c with engine := false }) s
  else mcPending n s

/-- The state of a controller after its Engine reset (R199, R730): EN is cleared, and an enable held since is applied (R200). -/
def resetController (n : Nat) (s : State) : State :=
  let pend := s.flag (F.MC_STATUS_ENABLE_PENDING n)
  let s := { s with regs := restoreIn (R.MC_CTRL n) (R.MC_CTRL n + 0xFFFF) (fun x => x == .eng) s.regs }
  if pend then mcEnable n s else s

/-- An Engine reset of a controller begins (R198, R730). -/
def mcEngineReset (n : Nat) (s : State) : State :=
  let s := modCtl n (fun c => { c with engine := true }) s
  let one := fun sc s =>
    let s := abandonInit sc (failReads sc s)
    if scState s sc = 2 ∨ scState s sc = 3 then scEnter sc 6 s else s
  mcStopped n ((one (2 * n + 1) (one (2 * n) s)).set (F.MC_STATUS_ENABLE_PENDING n) 0)

/-! ### Refresh and retraining -/

/-- The refresh interval in effect (R718, R742). [log 98 DEDUCED] -/
def trefi (s : State) (n : Nat) : Nat :=
  if (s.ctl n).double then s.get (F.MC_REF_TREFI_NS n) / 2 else s.get (F.MC_REF_TREFI_NS n)

/-- A retraining begins (R733 to R735): not while the other subchannel of the controller retrains, nor while a panic is
raised. -/
def retrainStart (sc : Nat) (s : State) : State :=
  if scState s sc = 2 && (s.sub sc).retrainDue.isSome && scState s (sibling sc) != 3 && !anyPanic s then
    let s := s.incSat (F.MC_STATS_RETRAINS (sc / 2))
    scEnter sc 3 (modSub sc (fun u => { u with rows := [], retrainDue := none }) s)
  else s

/-! ### Commands -/

/-- MC_ENABLE (R200, R724 to R726). -/
def execMcEnable (p : Partner) (n : Fin 4) (v : Word) (s : State) : Out :=
  .next (viaPartner p (R.MC_CTRL n.val) (mcCtrlWrite n.val (v ||| 1)) s)

/-- MC_DISABLE (R200, R728). -/
def execMcDisable (p : Partner) (n : Fin 4) (v : Word) (s : State) : Out :=
  .next (viaPartner p (R.MC_CTRL n.val) (mcCtrlWrite n.val (v &&& 0xFFFFFFFE)) s)

/-- MC_CONFIG_WRITE (R729). -/
def execMcConfigWrite (p : Partner) (n : Fin 4) (v : Word) (s : State) : Out :=
  .next (viaPartner p (R.MC_CFG n.val) (mcCfgWrite n.val v) s)

/-- MC_TRAINING_COMPLETE (R724). -/
def execMcTrainingComplete (sc : Fin 8) (s : State) : Out :=
  .next (whenB (scState s sc.val == 1) (fun s => scEnter sc.val 2 (modSub sc.val (fun u => { u with
    refAt := Vector.replicate 2 s.elapsed, postponed := Vector.replicate 2 0, retrainAt := s.elapsed
    retrainDue := none }) s)) s)

/-- MC_TRAINING_FAIL (R727). -/
def execMcTrainingFail (sc : Fin 8) (s : State) : Out :=
  .next (whenB (scState s sc.val == 1) (fun s =>
    let n := sc.val / 2
    scEnter sc.val 5 (s.set (if sc.val % 2 = 0 then F.MC_STATUS_TRAIN_FAIL0 n else F.MC_STATUS_TRAIN_FAIL1 n) 1)) s)

/-- MC_SELF_REFRESH_EXIT (R725, R733): the exit's one retraining begins, and serves one that was due. -/
def execMcSelfRefreshExit (sc : Fin 8) (s : State) : Out :=
  .next (whenB (s.fabricOn && s.rst.bowAt.isNone && scState s sc.val == 4 && populated s sc.val &&
      s.flag (F.MC_CTRL_EN (sc.val / 2)) && scState s (sibling sc.val) != 3) (fun s =>
    scEnter sc.val 3 ((modSub sc.val (fun u => { u with
      refAt := Vector.replicate 2 s.elapsed, postponed := Vector.replicate 2 0, retrainAt := s.elapsed
      retrainDue := none }) s).incSat
        (F.MC_STATS_RETRAINS (sc.val / 2)))) s)

/-- MC_RETRAIN_COMPLETE (R734). -/
def execMcRetrainComplete (sc : Fin 8) (s : State) : Out :=
  .next (whenB (scState s sc.val == 3) (scEnter sc.val 2) s)

/-- MC_SELF_REFRESH_ENTRY (R200, R728, R730): the queues have been served. -/
def execMcSelfRefreshEntry (sc : Fin 8) (s : State) : Out :=
  .next (
    let u := s.sub sc.val
    if scState s sc.val = 6 && u.reads.isEmpty && u.writes.isEmpty && u.service.isNone then
      mcStopped (sc.val / 2) (scEnter sc.val 4 (modSub sc.val (fun u => { u with rows := [] }) s))
    else s)

/-- MC_RETRAIN_DUE (R733, R735): the interval of TT has passed; with no panic raised the retraining begins at once. -/
def execMcRetrainDue (sc : Fin 8) (s : State) : Out :=
  .next (
    let i := s.get (F.MC_RETRAIN_INTERVAL_MS (sc.val / 2))
    let u := s.sub sc.val
    if scState s sc.val = 2 && i != 0 && u.retrainDue.isNone && decide (u.retrainAt + 1000000 * i ≤ s.elapsed) then
      retrainStart sc.val (modSub sc.val (fun u => { u with
        retrainDue := some s.elapsed, retrainAt := u.retrainAt + 1000000 * i }) s)
    else s)

/-- MC_RETRAIN_START (R735). -/
def execMcRetrainStart (sc : Fin 8) (s : State) : Out := .next (retrainStart sc.val s)

/-- MC_RETRAIN_DEFER_LONG (R736). -/
def execMcRetrainDeferLong (sc : Fin 8) (s : State) : Out :=
  .next (match (s.sub sc.val).retrainDue with
    | some t =>
      if t + 1000000000 ≤ s.elapsed ∧ !s.flag (F.MC_STATUS_DEFER_LONG (sc.val / 2)) then
        raise (195 + 4 * (sc.val / 2)) (s.set (F.MC_STATUS_DEFER_LONG (sc.val / 2)) 1)
      else s
    | none => s)

/-- MC_SCHEDULE_DECISION (R740). -/
def execMcScheduleDecision (sc : Fin 8) (s : State) : Out := .next (scheduleDecision sc.val s)

/-- RH_WINDOW_EXPIRY (R747). -/
def execRhWindowExpiry (n : Fin 4) (s : State) : Out :=
  .next (
    let e := (s.ctl n.val).windowAt + 1000000 * s.get (F.MC_RH_WINDOW_MS n.val)
    if e ≤ s.elapsed then
      let s := modCtl n.val (fun c => { c with windowAt := e }) s
      modSub (2 * n.val + 1) (fun u => { u with track := [] }) (modSub (2 * n.val) (fun u => { u with track := [] }) s)
    else s)

/-- THROTTLE_EXPIRY (R749). -/
def execThrottleExpiry (m : Fin 128) (s : State) : Out :=
  .next (
    if s.bb.throttle.any (fun x => x.1 == m.val) && !isThrottled s m.val then
      showThrottled m.val false
        { s with bb := { s.bb with throttle := s.bb.throttle.filter (fun x => x.1 != m.val) } }
    else s)

/-- MC_REFRESH_DUE (R742, R743): the refresh is issued with every postponed one, postponed under panic, or forced.
[log 98 DEDUCED] -/
def execMcRefreshDue (sc : Fin 8) (rank : Fin 2) (s : State) : Out :=
  .next (
    let n := sc.val / 2
    let u := s.sub sc.val
    let e := vget u.refAt rank + trefi s n
    if scServes s sc.val && decide (e ≤ s.elapsed) && (rank.val == 0 || s.flag (F.MC_CFG_RANKS n)) then
      let s := modSub sc.val (fun u => { u with refAt := vset u.refAt rank e }) s
      if panicQueued s sc.val then
        if vget u.postponed rank < s.get (F.MC_REF_POSTPONE_MAX n) then
          modSub sc.val (fun u => { u with postponed := vset u.postponed rank (vget u.postponed rank + 1) }) s
        else closeRank sc.val rank.val (s.incSat (F.MC_STATS_FORCED_REF n))
      else closeRank sc.val rank.val (modSub sc.val (fun u => { u with postponed := vset u.postponed rank 0 }) s)
    else s)

/-- MC_POSTPONED_REFRESH (R744). [log 98 DEDUCED] -/
def execMcPostponedRefresh (sc : Fin 8) (rank : Fin 2) (s : State) : Out :=
  .next (
    if scServes s sc.val && vget (s.sub sc.val).postponed rank != 0 && !panicQueued s sc.val then
      closeRank sc.val rank.val (modSub sc.val (fun u => { u with postponed := vset u.postponed rank 0 }) s)
    else s)

/-- MC_REFRESH_RATE_POLL (R718). -/
def execMcRefreshRatePoll (n : Fin 4) (double : Bool) (s : State) : Out :=
  .next (whenB ((scServes s (2 * n.val) || scServes s (2 * n.val + 1)) &&
      decide ((s.ctl n.val).polledAt + 1000000 ≤ s.elapsed))
    (fun s => modCtl n.val (fun c => { c with double := double, polledAt := s.elapsed }) s) s)

/-- MC_PLL_LOSS_OF_LOCK (R928): both subchannels fail, and what they held or had queued is gone. -/
def execMcPllLossOfLock (n : Fin 4) (s : State) : Out :=
  .next (
    let inUse := scState s (2 * n.val) != 0 || scState s (2 * n.val + 1) != 0
    let one := fun sc s =>
      let s := failReads sc s
      let w := (s.sub sc).writes ++ ((s.sub sc).service.toList)
      let s := modSub sc (fun u => { u with writes := [], service := none, rows := [], retrainDue := none }) s
      let s := forEach w (fun r s => if sureWrite r.prot r.be then s else pieceDone r.id .busErr r.line [] s) s
      scEnter sc 5 (loseSubchannel sc s)
    if inUse then one (2 * n.val + 1) (one (2 * n.val) s) else s)

end Sys2Proof.Machine
end

