-- ==== Sys2Proof/Machine/Staging.lean ====
section
/-!
DEFINITION. Sys2Proof/Machine/Staging.lean: Staging SRAM (15_staging_sram.md): words and their ECC, the two ports, the
bit-set and bit-clear aliases, bank power states and the scrubber.
-/

namespace Sys2Proof.Machine

/-! ### Words and check bits -/

/-- Where Staging SRAM starts (R761). -/
def stgBase : Nat := 0x008000000000

/-- The bank of a word (R761, R762). -/
def bankOfWord (w : Nat) : Nat := w / 131072

/-- The words that a span of bytes touches. -/
def stgWords (off len : Nat) : List Nat := (List.range ((off + len - 1) / 8 + 1 - off / 8)).map fun i => off / 8 + i

/-- How often a bank's contents have been lost. [log 9 DESIGN CHOICE] -/
def StgS.losses (x : StgS) (b : Nat) : Nat := if h : b < 48 then vget x.lost ⟨b, h⟩ else 0

/-- What Staging SRAM reads as where nothing has been written: zero since power-on, and a free value once the bank's
contents have been lost (R776, R782, log 9). [log 9 DESIGN CHOICE] -/
def stgFill (x : StgS) (a : Nat) : Byte :=
  match x.losses (a / 0x100000) with
  | 0 => 0
  | k + 1 => Config.lostByte (k + 1) (stgBase + a)

/-- The check bits of a word that nothing has written: good since power-on, and a free value once the bank's contents have
been lost (R776, R782, log 9). [log 9 DESIGN CHOICE] -/
def stgCheck (x : StgS) (w : Nat) : Option Mark :=
  match x.losses (bankOfWord w) with
  | 0 => none
  | k + 1 => lostMark (Config.lostCheck (k + 1) (stgBase + 8 * w))

/-- Bytes of Staging SRAM as stored. -/
def stgBytes (s : State) (off n : Nat) : List Byte := mget (stgFill s.stg) s.stg.bytes off n

/-- A byte of Staging SRAM as stored. -/
def stgByte (s : State) (off : Nat) : Byte := sget (stgFill s.stg) s.stg.bytes off

/-- The eight bytes of a word as stored. -/
def stgRaw (s : State) (w : Nat) : List Byte := stgBytes s (8 * w) 8

/-- What a word's check bits say. -/
def stgMark (s : State) (w : Nat) : Option Mark := sget (stgCheck s.stg) s.stg.mark w

/-- Store a word's check bits. -/
def stgSetMark (w : Nat) (m : Option Mark) (s : State) : State :=
  { s with stg := { s.stg with mark := sset (stgCheck s.stg) s.stg.mark w m } }

/-- Store the bytes of a word. -/
def stgPut (w : Nat) (b : List Byte) (s : State) : State :=
  { s with stg := { s.stg with bytes := mput (stgFill s.stg) s.stg.bytes (8 * w) b } }

/-- A correctable error is counted (R784). -/
def stgCe (w : Nat) (inj : Bool) (s : State) : State :=
  raise 228 (rasDetect 2 1 (bankOfWord w) (stgBase + 8 * w) 0 inj (s.incSat F.STG_CE_COUNT_COUNT))

/-- An uncorrectable error is counted and recorded (R785). [log 100 DEDUCED] -/
def stgUe (w kind : Nat) (inj : Bool) (s : State) : State :=
  let s := s.incSat F.STG_UE_COUNT_COUNT
  let a := stgBase + 8 * w
  let s :=
    if s.flag F.STG_UE_ADDR_HI_VALID then s
    else (s.wr R.STG_UE_ADDR_LO (BitVec.ofNat 32 (a % 2 ^ 32))).wr R.STG_UE_ADDR_HI
      (BitVec.ofNat 32 (2 ^ 31 + a / 2 ^ 32))
  raise 229 (rasDetect 2 kind (bankOfWord w) a 0 inj s)

/-- Read a word of which bytes and check bits are given (R784, R785): its bytes, or nothing where it is uncorrectable or
poisoned. -/
def stgReadAs (w : Nat) (b : List Byte) (m : Option Mark) (s : State) : Option (List Byte) × State :=
  match m with
  | none => (some b, s)
  | some (.correctable i) => (some b, stgCe w i s)
  | some (.uncorrectable i) => (none, stgUe w 2 i s)
  | some .poison => (none, stgUe w 2 false s)

/-- What port A did to a word in this core cycle (R766 to R768): its bytes and check bits before. [log 99 DEDUCED] -/
def portAHit (s : State) (w : Nat) : Option (List Byte × Option Mark) :=
  match s.stg.lastA with
  | some l => if l.at_ = s.clk.now && l.write then (l.words.find? (fun x => x.1 == w)).map (·.2) else none
  | none => none

/-- A word that port B has written in this core cycle (R766, R767). [log 99 DEDUCED] -/
def portBHit (s : State) (w : Nat) : Option WordB :=
  match s.stg.lastB with
  | some l => if l.at_ = s.clk.now then l.words.find? (fun x => x.word == w) else none
  | none => none

/-- Port B reads a word: one that port A writes in this cycle gives what it held before (R767, R768, R785). -/
def stgReadWord (w : Nat) (s : State) : Option (List Byte) × State :=
  match portAHit s w with
  | some (b, m) => stgReadAs w b m s
  | none => stgReadAs w (stgRaw s w) (stgMark s w) s

/-- Port A reads a word: one that port B writes in this cycle gives what it held before (R767, R785). -/
def stgReadA (w : Nat) (s : State) : Option (List Byte) × State :=
  match portBHit s w with
  | some x => stgReadAs w x.old x.mark s
  | none => stgReadAs w (stgRaw s w) (stgMark s w) s

/-- A span of bytes is read word by word through port B: its bytes, or nothing when a word could not be read. -/
def stgReadSpan (off len : Nat) (s : State) : Option (List Byte) × State :=
  let step := fun (acc : Option (List Byte) × State) (w : Nat) =>
    let (r, s) := stgReadWord w acc.2
    (match acc.1, r with
      | some l, some b => some (l ++ b)
      | _, _ => none, s)
  let (r, s) := (stgWords off len).foldl step (some [], s)
  (r.map fun l => (l.drop (off % 8)).take len, s)

/-- A span of bytes as port A returns it: a word that could not be read is zero, and its burst has failed (R180, R785). -/
def stgReadWords (off len : Nat) (s : State) : List Byte × Bool × State :=
  let step := fun (acc : List Byte × Bool × State) (w : Nat) =>
    let (r, s) := stgReadA w acc.2.2
    (acc.1 ++ r.getD (List.replicate 8 0), acc.2.1 && r.isSome, s)
  let (l, ok, s) := (stgWords off len).foldl step ([], true, s)
  ((l.drop (off % 8)).take len, ok, s)

/-- How a write changes a word: by its bytes, or by setting or clearing the bits written (R770). -/
inductive StgOp where
  | store | setBits | clearBits
deriving DecidableEq, Repr

/-- A byte after the write. -/
def StgOp.apply (op : StgOp) (old v : Byte) : Byte :=
  match op with
  | .store => v
  | .setBits => old ||| v
  | .clearBits => old &&& ~~~ v

/-- Write part or all of a word (R770, R774, R786 to R789): `data` and `be` name its eight bytes. A whole-word write stores
fresh check bits, in which an armed injection on port A puts its error (R908 code 0x02). [log 100 DEDUCED] -/
def stgWriteWord (portA : Bool) (op : StgOp) (w : Nat) (data : List Byte) (be : List Bool) (s : State) : Status × State :=
  let merged := fun (old : List Byte) => (List.range 8).map fun i =>
    if be.getD i false then op.apply (byteAt old i) (byteAt data i) else byteAt old i
  if op == .store && be.all id then
    let s := stgSetMark w none (stgPut w data s)
    match if portA then injArmed s 2 (bankOfWord w) (some (stgBase + 8 * w, 8)) else none with
    | some k => (.ok, injUsed (stgSetMark w (some (if k = 1 then .correctable true else .uncorrectable true)) s))
    | none => (.ok, s)
  else match stgMark s w with
    | none => (.ok, stgPut w (merged (stgRaw s w)) s)
    | some (.correctable i) => (.ok, stgCe w i (stgSetMark w none (stgPut w (merged (stgRaw s w)) s)))
    | some _ => (.busErr, stgUe w 3 false (stgSetMark w (some .poison) s))

/-! ### Collisions (R766 to R769) -/

/-- A COLLIDED response is counted (R769, R797). -/
def stgCollided (s : State) : State :=
  let full := s.get F.STG_COLLIDED_COUNT == 2 ^ 32 - 2
  let s := s.incSat F.STG_COLLIDED_COUNT
  if full then raise 230 s else s

/-- The part of a write at port B in one word. -/
def portBPart (r : PortB) (w : Nat) : PortB :=
  let lo := max r.off (8 * w)
  let hi := min (r.off + r.len) (8 * w + 8)
  { r with off := lo, data := (r.data.drop (lo - r.off)).take (hi - lo), len := hi - lo }

/-- The agent repeats a COLLIDED word in the next cycle (R506, R651): a Taper's goes to the head of the line at port B, a
Lantern's waits beside its FIFO. -/
def portBRepeat (r : PortB) (s : State) : State :=
  if r.agent < 16 then { s with stg := { s.stg with portB := r :: s.stg.portB } }
  else
    let i := finOf 15 (r.agent - 16)
    { s with lnt := vset s.lnt i { vget s.lnt i with again := (vget s.lnt i).again ++ [(r.off, r.data)] } }

/-- Port A writes a word that port B has written in this cycle: port B's write is not performed, and its agent repeats it
(R766). [log 99 DEDUCED] -/
def portBUndo (w : Nat) (s : State) : State :=
  match portBHit s w with
  | some x =>
    let s := stgSetMark w x.mark (stgPut w x.old s)
    let s := { s with stg := { s.stg with
      lastB := s.stg.lastB.map (fun l => { l with words := l.words.filter (fun y => y.word != w) })
      collided := if x.req.agent < 16 then s.stg.collided.filter (fun a => a != x.req.agent) ++ [x.req.agent]
        else s.stg.collided } }
    portBRepeat x.req (stgCollided s)
  | none => s

/-- Port B is about to write a word: what it held before is kept for the cycle (R766, R767). -/
def portBNote (r : PortB) (w : Nat) (s : State) : State :=
  let kept := match s.stg.lastB with
    | some l => if l.at_ = s.clk.now then l.words else []
    | none => []
  let x : WordB := match kept.find? (fun y => y.word == w) with
    | some y => { y with req := portBPart r w }
    | none => ⟨w, stgRaw s w, stgMark s w, portBPart r w⟩
  { s with stg := { s.stg with lastB := some ⟨s.clk.now, x :: kept.filter (fun y => y.word != w)⟩ } }

/-! ### Banks -/

/-- A bank's state (R775): 0 ON, 1 RETENTION, 2 OFF, 3 ENTERING, 4 WAKING. -/
def bankState (s : State) (b : Nat) : Nat := s.get (F.STG_BANK_STATE b)

/-- A bank beside its register. -/
def State.bank (s : State) (b : Nat) : BankS := vget s.stg.banks (finOf 47 b)

/-- Change a bank. -/
def modBank (b : Nat) (f : BankS → BankS) (s : State) : State :=
  { s with stg := { s.stg with banks := vset s.stg.banks (finOf 47 b) (f (s.bank b)) } }

/-- An access has reached a bank that is not On (R780): the address is recorded, event 233 is raised. -/
def bankDown (a : Nat) (s : State) : State :=
  let s :=
    if s.flag F.STG_DOWN_ADDR_HI_VALID then s
    else (s.wr R.STG_DOWN_ADDR_LO (BitVec.ofNat 32 (a % 2 ^ 32))).wr R.STG_DOWN_ADDR_HI
      (BitVec.ofNat 32 (2 ^ 31 + a / 2 ^ 32))
  raise 233 s

/-- The area of `size` units from `base` has part of it in the bank. -/
def areaIn (b base size : Nat) : Bool := size != 0 && decide (base / 16 ≤ b ∧ b ≤ (base + size - 1) / 16)

/-- The bank holds part of the FIFO of a Lantern that is not Idle or of the pattern area of such a Beacon (R505, R551,
R779). -/
def bankBusy (s : State) (b : Nat) : Bool :=
  (List.range 16).any fun n =>
    (s.get (F.LNT_STATUS_STATE n) != 0 && areaIn b (s.get (F.LNT_FIFO_BASE n)) (s.get (F.LNT_FIFO_SIZE n))) ||
      (s.get (F.BCN_STATUS_STATE n) != 0 && areaIn b (s.get (F.BCN_PMEM_BASE n)) (s.get (F.BCN_PMEM_SIZE n)))

/-- A request is refused (R779). -/
def bankRefuse (b : Nat) (s : State) : State := raise 232 (s.set (F.STG_BANK_REFUSED b) 1)

/-- The transition of a bank from a stable state to another begins (R776). -/
def bankBegin (b q : Nat) (s : State) : State :=
  let waking := q = 0 ∨ (q = 1 ∧ bankState s b = 2)
  modBank b (fun k => { k with since := s.clk.now, target := q, source := bankState s b })
    (s.set (F.STG_BANK_STATE b) (if waking then 4 else 3))

/-- A request on a bank in a stable state (R776, R778, R779). -/
def bankRequest (b q : Nat) (s : State) : State :=
  if q = 3 then bankRefuse b s
  else if q = bankState s b then s.set (F.STG_BANK_REQ b) q
  else if bankState s b = 0 && bankBusy s b then bankRefuse b s
  else bankBegin b q (s.set (F.STG_BANK_REQ b) q)

/-- The bank is between two states. -/
def bankMoving (s : State) (b : Nat) : Bool := decide (3 ≤ bankState s b)

/-- A write of STG_BANKb (R778, R779, R796). -/
def stgBankWrite (b : Nat) (v : Word) (s : State) : State :=
  let q := (F.STG_BANK_REQ b).of v
  let s := if (F.STG_BANK_REFUSED b).on v then s.set (F.STG_BANK_REFUSED b) 0 else s
  if bankMoving s b then
    if q = 3 then bankRefuse b s
    else modBank b (fun k => { k with held := some q }) (s.set (F.STG_BANK_REQ b) q)
  else bankRequest b q s

/-- A bank's contents are lost (R776, R782, log 9). [log 9 DESIGN CHOICE] -/
def bankLose (b : Nat) (s : State) : State :=
  { s with stg := { s.stg with
      bytes := s.stg.bytes.filter (fun c => c.1 / 0x100000 != b)
      mark := s.stg.mark.filter (fun m => bankOfWord m.1 != b)
      lost := Vector.ofFn fun i : Fin 48 => vget s.stg.lost i + b2n (i.val == b) } }

/-- The contents of every bank are lost (R782). [log 9 DESIGN CHOICE] -/
def loseStaging (s : State) : State :=
  { s with stg := { s.stg with bytes := [], mark := [], lost := s.stg.lost.map (· + 1) } }

/-- A bank reaches the state it moves to (R776, R778, R781); one that was Waking at the entry to standby goes on to Retention
(R783, R795). -/
def bankReached (b : Nat) (s : State) : State :=
  let k := s.bank b
  let s := if k.target = 2 then bankLose b s else s
  let s := raise 231 (s.set (F.STG_BANK_STATE b) k.target)
  let s := modBank b (fun k => { k with held := none }) s
  match k.held with
  | some q => bankRequest b q s
  | none => whenB (k.target == 0 && k.retFrom && s.get F.PWR_STATUS_STATE == 1) (bankBegin b 1) s

/-- How long a transition takes at least (R776): a bank that leaves On does so once its accesses have ended. -/
def bankTime (s : State) (b : Nat) : Nat :=
  if bankState s b = 3 then (if (s.bank b).source = 1 then 1000 else 0)
  else if (s.bank b).source = 1 then 30000 else 5000

/-- The bank has no access in progress (R777). -/
def bankQuiet (s : State) (b : Nat) : Bool :=
  !(s.stg.portA.any fun r => r.addr % 2 ^ 32 / 0x100000 == b) && !(s.stg.portB.any fun r => r.off / 0x100000 == b)

/-! ### Port A -/

/-- How a request at port A acts: 0x0081… sets bits, 0x0082… clears bits (R770). -/
def portAOp (a : Nat) : StgOp :=
  if a / 2 ^ 32 = 0x81 then .setBits else if a / 2 ^ 32 = 0x82 then .clearBits else .store

/-- A granted read, or a committed write, reaches its bank (R777, R780). -/
def stgEnter (r : Req) (s : State) : State :=
  if bankState s (r.addr % 2 ^ 32 / 0x100000) = 0 then { s with stg := { s.stg with portA := s.stg.portA ++ [r] } }
  else completeReq r.id .bankDown [] (bankDown r.addr s)

/-- One word of a write at port A, which wins over port B (R766); its status, and the word as it was is kept. [log 99 DEDUCED,
log 100 DEDUCED] -/
def portAWord (r : Req) (op : StgOp) (w : Nat) (s : State) : Status × State :=
  let off := r.addr % 2 ^ 32
  let at_ := fun (i : Nat) => 8 * w + i - off
  let inside := fun (i : Nat) => decide (off ≤ 8 * w + i)
  let be := (List.range 8).map fun i => inside i && r.be.getD (at_ i) false
  let data := (List.range 8).map fun i => if inside i then byteAt r.data (at_ i) else 0
  if be.any id then
    let s := portBUndo w s
    let old := (w, stgRaw s w, stgMark s w)
    let kept := match s.stg.lastA with
      | some l => if l.at_ = s.clk.now then l.words else []
      | none => []
    let (st, s) := stgWriteWord true op w data be s
    (st, { s with stg := { s.stg with lastA := some ⟨s.clk.now, kept ++ [old], true⟩ } })
  else (.ok, s)

/-- A write at port A, word by word (R766, R771, R772): the first failure is its status. -/
def portAWrite (r : Req) (s : State) : Status × State :=
  let step := fun (acc : Status × State) (w : Nat) =>
    let (st, s) := portAWord r (portAOp r.addr) w acc.2
    (if acc.1 = .ok then st else acc.1, s)
  (stgWords (r.addr % 2 ^ 32) r.len).foldl step (.ok, s)

/-- Perform an access at port A (R763, R766, R773): a read of an alias reads the word. -/
def portAPerform (r : Req) (s : State) : State :=
  let s := { s with stg := { s.stg with portA := s.stg.portA.erase r } }
  if r.write then
    let (st, s) := portAWrite r s
    completeReq r.id st [] s
  else
    let (b, ok, s) := stgReadWords (r.addr % 2 ^ 32) r.len s
    completeReq r.id (if ok then .ok else .busErr) b s

/-- The access of a bank group that has waited longest. -/
def portAHead (s : State) (g : Nat) : Option Req := s.stg.portA.find? fun r => route r.addr == 8 + g

/-- Perform the access at the head of a bank group when it is of the wanted kind. [log 99 DEDUCED] -/
def portAServe (g : Nat) (want : Req → Bool) (s : State) : State :=
  match portAHead s g with
  | some r => if want r then portAPerform r s else s
  | none => s

/-! ### Port B -/

/-- The agent that port B of a bank serves next (R764): the lowest above the one served last, wrapping.
[log 11 DESIGN CHOICE] -/
def portBNext (s : State) (b : Nat) : Option PortB :=
  let l := s.stg.portB.filter fun r => r.off / 0x100000 == b
  let agents := l.map PortB.agent
  let up := agents.filter fun a => decide ((s.bank b).rr < a)
  match (if up.isEmpty then agents else up).min? with
  | some a => l.find? fun r => r.agent == a
  | none => none

/-- Words of a port B write in this cycle: the words written, those COLLIDED, and the status. [log 99 DEDUCED] -/
def portBWrite (r : PortB) (s : State) : List Nat × Status × State :=
  let step := fun (acc : List Nat × Status × State) (w : Nat) =>
    let (c, st, s) := acc
    if (portAHit s w).isSome then
      (c ++ [w], st, stgCollided s)
    else
      let inside := fun (i : Nat) => decide (r.off ≤ 8 * w + i ∧ 8 * w + i < r.off + r.len)
      let be := (List.range 8).map inside
      let data := (List.range 8).map fun i => if inside i then byteAt r.data (8 * w + i - r.off) else 0
      let (x, s) := stgWriteWord false .store w data be (portBNote r w s)
      (c, if st = .ok then x else st, s)
  (stgWords r.off r.len).foldl step ([], .ok, s)

/-- Port B of a bank serves one access (R764, R766 to R769): the access, its status and the bytes read, when one waited;
COLLIDED words stay at the head of the line. [log 99 DEDUCED] -/
def portBServe (b : Nat) (s : State) : Option (PortB × Status × List Byte) × State :=
  match portBNext s b with
  | none => (none, s)
  | some r =>
    let rest := s.stg.portB.erase r
    let s := modBank b (fun k => { k with rr := r.agent }) { s with stg := { s.stg with portB := rest } }
    if r.write then
      let (c, st, s) := portBWrite r s
      let agents := s.stg.collided.filter fun a => a != r.agent
      let s := { s with stg := { s.stg with
        portB := c.map (portBPart r) ++ s.stg.portB
        collided := if c.isEmpty then agents else agents ++ [r.agent] } }
      (some (r, st, []), s)
    else match stgReadSpan r.off r.len s with
      | (some d, s) => (some (r, .ok, d), s)
      | (none, s) => (some (r, .busErr, []), s)

/-! ### Scrubbing -/

/-- The next word for the scrubber at or after a position: a word of an On bank (R790, R792). -/
def scrubNext (s : State) (p : Nat) : Option Nat :=
  if bankState s (bankOfWord p) = 0 ∧ p < 48 * 131072 then some p
  else (((List.range 48).filter fun b => decide (bankOfWord p < b) && bankState s b == 0).map (131072 * ·)).min?

/-- The scrubber spreads its reads evenly over INTERVAL_S seconds (R790). -/
def scrubDue (s : State) : Bool :=
  let on := ((List.range 48).filter fun b => bankState s b == 0).length
  decide (s.get F.STG_SCRUB_INTERVAL_S * 1000000000 ≤ (s.elapsed - s.stg.scrubAt) * (131072 * on))

/-- One word is scrubbed (R791, R795): a correctable word is written back, through port A. [log 97 DEDUCED] -/
def scrubWord (w : Nat) (s : State) : State :=
  match ((portBHit s w).map WordB.mark).getD (stgMark s w) with
  | none => s
  | some (.correctable i) =>
    let s := portBUndo w s
    let s := { s with stg := { s.stg with lastA := some ⟨s.clk.now, [(w, stgRaw s w, stgMark s w)], true⟩ } }
    stgCe w i (stgSetMark w none s)
  | some (.uncorrectable i) => stgUe w 2 i s
  | some .poison => stgUe w 2 false s

/-! ### Commands -/

/-- STG_BANK_REQ (R778, R779). -/
def execStgBankReq (p : Partner) (b : Fin 48) (v : Word) (s : State) : Out :=
  .next (viaPartner p (R.STG_BANK b.val) (stgBankWrite b.val v) s)

/-- STG_BANK_STATE_REACHED (R776 to R778, R781): the accesses of the bank have ended and its time has passed. -/
def execStgBankStateReached (b : Fin 48) (s : State) : Out :=
  .next (whenB (bankMoving s b.val && bankQuiet s b.val &&
    decide ((s.bank b.val).since + bankTime s b.val ≤ s.clk.now)) (bankReached b.val) s)

/-- STG_SCRUB_READ (R790 to R792). -/
def execStgScrubRead (s : State) : Out :=
  .next (
    if s.works && s.flag F.STG_SCRUB_EN && scrubDue s then
      match scrubNext s s.stg.scrub with
      | some w =>
        let s := scrubWord w { s with stg := { s.stg with scrub := w + 1, scrubAt := s.elapsed } }
        if (scrubNext s (w + 1)).isNone then raise 234 { s with stg := { s.stg with scrub := 0 } } else s
      | none => { s with stg := { s.stg with scrub := 0 } }
    else s)

end Sys2Proof.Machine
end

