-- ==== Sys2Proof/Machine/Backbone.lean ====
section
/-!
DEFINITION. Sys2Proof/Machine/Backbone.lean: arbitration at the points of the Backbone (13_backbone.md): windows, quotas,
the choice of a winner, grants, revocation and commit, and the access rules' versions.
-/

namespace Sys2Proof.Machine

/-! ### Windows (R675, R681) -/

/-- A new window, its counts at zero. [log 11 DESIGN CHOICE, log 91 DEDUCED] -/
def Point.newWindow (p : Point) (at_ : Option Nat) : Point :=
  { p with winAt := at_, grants := 0, classGrants := Vector.replicate 4 0, masterGrants := [] }

/-- The window of a point at an instant: windows follow one another at the expiry of WIN_NS. [log 91 DEDUCED] -/
def Point.roll (p : Point) (now win : Nat) : Point :=
  match p.winAt with
  | none => p.newWindow (some now)
  | some t =>
    if now < t + win then p
    else p.newWindow (some (if win = 0 then now else t + (now - t) / win * win))

/-- The window of point `k` now. [log 91 DEDUCED] -/
def windowRoll (k : Nat) (s : State) : State :=
  modPoint k (fun p => p.roll s.elapsed (s.get (F.BB_PT_CTRL_WIN_NS k))) s

/-! ### Choosing (R676 to R679) -/

/-- The point runs in deadline mode. -/
def ptDeadline (s : State) (k : Nat) : Bool := s.flag (F.BB_PT_CTRL_MODE k)

/-- QUOTAc of a point. [log 91 DEDUCED] -/
def ptQuota (s : State) (k c : Nat) : Nat := bitsOf (s.rd (R.BB_PT_QUOTA k)).toNat (8 * c + 7) (8 * c)

/-- Grants of a master in the window in progress. -/
def Point.grantsOf (p : Point) (m : Nat) : Nat := ((p.masterGrants.find? (fun x => x.1 == m)).map (·.2)).getD 0

/-- A throttled master has reached its limit at a memory subchannel point (R677, R678). [log 91 DEDUCED] -/
def atLimit (s : State) (k : Nat) (r : Req) : Bool :=
  decide (k < 8) && isThrottled s r.master && !inPanic s r.master &&
    decide ((if ptDeadline s k || r.cls == 3 then s.get (F.BB_PT_CTRL_WINDOW k) / 2 else ptQuota s k r.cls / 2) ≤
      (s.pt k).grantsOf r.master)

/-- A fenced master takes no part, but for the drain of a region's port (R365, R679). [log 93 DEDUCED] -/
def outOfPlay (s : State) (m : Nat) : Bool :=
  isFenced s m && !(decide (64 ≤ m ∧ m < 88) && s.get (F.RGN_STATUS_STATE (m - 64)) == 2)

/-- The target has room (R670); `extra` lines are on their way to it. -/
def targetRoom (s : State) (k : Nat) (r : Req) (extra : Nat) : Bool := decide (8 ≤ k) || memRoom s r extra

/-- The first request of each master (R669). -/
def heads : List Req → List Nat → List Req
  | [], _ => []
  | r :: l, seen => if seen.contains r.master then heads l seen else r :: heads l (r.master :: seen)

/-- Round robin: the lowest master above the pointer, wrapping (R679). [log 11 DESIGN CHOICE] -/
def roundRobin (l : List Req) (rr : Nat) : Option Req :=
  let up := l.filter fun r => decide (rr < r.master)
  let c := if up.isEmpty then l else up
  match (c.map Req.master).min? with
  | some m => c.find? fun r => r.master == m
  | none => none

/-- A class is masked for the rest of the window (R676). [log 91 DEDUCED] -/
def masked (s : State) (k c : Nat) : Bool := decide (c < 3) && decide (ptQuota s k c ≤ vget (s.pt k).classGrants (finOf 3 c))

/-- The winner among candidates (R679). -/
def chooseAmong (s : State) (k : Nat) (c : List Req) : Option Req :=
  let panics := c.filter fun r => inPanic s r.master
  let c := if panics.isEmpty then c else panics
  if ptDeadline s k then
    match (c.map Req.deadline).min? with
    | some d => roundRobin (c.filter fun r => r.deadline == d) (s.pt k).rrDl
    | none => none
  else
    let unmasked := c.filter fun r => !masked s k r.cls
    let c := if panics.isEmpty && !unmasked.isEmpty then unmasked else c
    match (c.map Req.cls).min? with
    | some k' => roundRobin (c.filter fun r => r.cls == k') (vget (s.pt k).rr (finOf 3 k'))
    | none => none

/-- The next owner of a point from a list of requests in issue order, leaving out a master. -/
def choose (s : State) (k : Nat) (l : List Req) (without : Option Nat) (extra : Nat) : Option Req :=
  chooseAmong s k ((heads l without.toList).filter fun r =>
    !outOfPlay s r.master && !atLimit s k r && targetRoom s k r extra)

/-! ### Grants -/

/-- A grant is counted, the pointers move, and a full window ends (R675, R676, R677, R679). [log 90 DEDUCED] -/
def countGrant (k : Nat) (r : Req) (s : State) : State :=
  let s := windowRoll k s
  let c := finOf 3 r.cls
  modPoint k (fun p =>
    let p := { p with
      grants := p.grants + 1, classGrants := vset p.classGrants c (vget p.classGrants c + 1)
      masterGrants := (r.master, p.grantsOf r.master + 1) :: p.masterGrants.filter (fun x => x.1 != r.master) }
    let p := if ptDeadline s k then { p with rrDl := r.master } else { p with rr := vset p.rr c r.master }
    if s.get (F.BB_PT_CTRL_WINDOW k) ≤ p.grants then p.newWindow (some s.elapsed) else p) s

/-- The master withholds the beats of its write burst: an armed injection (R908 code 0x0B). -/
def withholds (s : State) (r : Req) : Bool := r.write && decide (8 ≤ r.master) && (injArmed s 11 r.master none).isSome

/-- A read, once granted, or a write, once committed, goes to the point's target. -/
def toTarget (d20 : Req → State → State) (k : Nat) (r : Req) (s : State) : State :=
  if k < 8 then memEnter r s else if k < 20 then stgEnter r s else d20 r s

/-- A request is granted with its first beat at an instant (R670, R671): a read is on its way at once; at point 20 it
leaves the point free. -/
def grantReq (d20 : Req → State → State) (k : Nat) (at_ : Nat) (r : Req) (s : State) : State :=
  let s := countGrant k r s
  let w := withholds s r
  let s := if w then injUsed s else s
  if r.write then modPoint k (fun p => { p with owner := some ⟨r, at_, w⟩ }) s
  else if k < 20 then toTarget d20 k r (modPoint k (fun p => { p with owner := some ⟨r, at_, false⟩ }) s)
  else d20 r (modPoint k (fun p => { p with owner := none }) s)

/-- The lines of a write that holds a memory point. -/
def ownerLines (o : Option Own) : Nat :=
  match o with
  | some o => if o.req.write then (burstLines o.req.addr o.req.len).length else 0
  | none => 0

/-- The owner's burst is over: the owner decided for takes the point (R680). [log 90 DEDUCED] -/
def promote (d20 : Req → State → State) (k : Nat) (s : State) : State :=
  let n := (s.pt k).next
  let s := modPoint k (fun p => { p with owner := none, next := none }) s
  match n with
  | some r => grantReq d20 k s.clk.now r s
  | none => s

/-- The cycle after an owner's last beat. -/
def Own.ends (o : Own) : Nat := o.start + beatsOf o.req.addr o.req.len

/-- A read burst that has had its beats leaves the point. -/
def retireRead (d20 : Req → State → State) (k : Nat) (s : State) : State :=
  match (s.pt k).owner with
  | some o => if !o.req.write && decide (o.ends ≤ s.clk.now) then promote d20 k s else s
  | none => s

/-- ARBITRATION_DECISION (R679, R680): a free point is granted at once; a point in the cycle before the last beat of its
owner's burst, or later, decides who comes next. [log 90 DEDUCED] -/
def decidePoint (d20 : Req → State → State) (k : Nat) (s : State) : State :=
  let s := windowRoll k (retireRead d20 k s)
  let p := s.pt k
  match p.owner with
  | none =>
    match choose s k p.pending none 0 with
    | some r => grantReq d20 k s.clk.now r (modPoint k (fun p => { p with pending := p.pending.erase r }) s)
    | none => s
  | some o =>
    if p.next.isNone && decide (o.ends ≤ s.clk.now + 2) then
      match choose s k p.pending none (ownerLines p.owner) with
      | some r => modPoint k (fun p => { p with pending := p.pending.erase r, next := some r }) s
      | none => s
    else s

/-- WRITE_COMMIT (R668): every beat of the owner's write burst has moved. [log 94 DEDUCED] -/
def commitWrite (d20 : Req → State → State) (k : Nat) (s : State) : State :=
  match (s.pt k).owner with
  | some o =>
    if o.req.write && !o.withheld && decide (o.ends ≤ s.clk.now) then promote d20 k (toTarget d20 k o.req s) else s
  | none => s

/-! ### Revocation (R682 to R686) -/

/-- A displaced read starts again: what was read for it is discarded. -/
def dropPieces (r : Req) (s : State) : State :=
  if r.write then s
  else
    { modBurst r.id (fun b => { b with left := 1, status := .ok, got := [] }) s with
      mem := { s.mem with subs := s.mem.subs.map fun u => { u with
        reads := u.reads.filter (fun q => q.id != r.id)
        service := u.service.filter (fun q => q.id != r.id) } }
      stg := { s.stg with portA := s.stg.portA.filter (fun q => q.id != r.id) } }

/-- The winner may take the grant away from the owner (R682). [log 90 DEDUCED] -/
def mayDisplace (s : State) (k : Nat) (o : Own) (w : Req) : Bool :=
  inPanic s w.master ||
    (ptDeadline s k && decide (w.deadline < o.req.deadline) &&
      decide (w.deadline ≤ s.deadlineIn (s.get (F.BB_PT_GUARD_GUARD_NS k))))

/-- GRANT_REVOCATION at the beat boundary that ends this core cycle: before the owner's last beat, at most three times, and
never of a panicking owner. The displaced burst comes back at the head of the requests, the winner's first beat follows.
[log 90 DEDUCED] -/
def revokeGrant (d20 : Req → State → State) (k : Nat) (s : State) : State :=
  let s := windowRoll k s
  let p := s.pt k
  match p.owner with
  | some o =>
    let live := s.bb.bursts.any fun b => b.req.id == o.req.id
    if k < 20 && o.req.displaced < 3 && !inPanic s o.req.master && !o.withheld && live &&
        decide (s.clk.now + 1 < o.ends) then
      let l := p.next.toList ++ p.pending
      match choose s k l (some o.req.master) 0 with
      | some w =>
        if mayDisplace s k o w then
          let back := { o.req with displaced := o.req.displaced + 1 }
          let s := dropPieces o.req (s.incSat (F.BB_PT_PREEMPTS_COUNT k))
          let s := modPoint k (fun p => { p with owner := none, next := none, pending := back :: l.erase w }) s
          grantReq d20 k (s.clk.now + 1) w s
        else s
      | none => s
    else s
  | none => s

/-! ### Reads -/

/-- The bytes of a read burst from those of its lines; a line that failed reads as zero. -/
def gather (r : Req) (got : List (Nat × List Byte)) : List Byte :=
  let l := (burstLines r.addr r.len).flatMap fun a => padTo 64 (((got.find? (fun x => x.1 == a)).map (·.2)).getD [])
  (l.drop (r.addr % 64)).take r.len

/-- The oldest read burst of which every line has been read is answered (R670, R671). -/
def answerRead (s : State) : State :=
  match s.bb.bursts.find? (fun b => !b.req.write && b.left == 0) with
  | some b => completeReq b.req.id b.status (gather b.req b.got) s
  | none => s

/-! ### Lock-up (R690) -/

/-- The burst of point `k` whose master presents no beat for BB_LOCKUP_CFG.CYCLES core cycles. -/
def lockedUp (s : State) (k : Nat) : Option Req :=
  match (s.pt k).owner with
  | some o =>
    if o.req.write && o.withheld && decide (8 ≤ o.req.master) &&
        decide (o.start + s.get F.BB_LOCKUP_CFG_CYCLES ≤ s.clk.now) then some o.req else none
  | none => none

/-- The lock-up is recorded and its master fenced. -/
def recordLockup (r : Req) (s : State) : State :=
  let s := s.set F.BB_STATUS_LOCKUP 1
  let s :=
    if s.flag F.BB_LOCKUP_LOG_VALID then s
    else s.wr R.BB_LOCKUP_LOG (BitVec.ofNat 32 (2 ^ 31 + r.master))
  fence r.master (rasDetect 11 4 r.master 0 r.master true s)

/-! ### Access rules (R697 to R700) -/

/-- An access checked under an older version is still incomplete. -/
def olderAccess (s : State) : Bool := s.bb.inFlight.any fun x => x.2 != s.bb.version

/-- The staged rules and ENFORCE become the active set at the end of the core cycle (R697, R698). -/
def commitRules (s : State) : State :=
  let s := { s with bb := { s.bb with
    before := some (s.clk.now, ruleSet s)
    rules := s.regs.filter (fun x => decide (R.BB_RULE_BASE_LO 0 ≤ x.1 ∧ x.1 < R.BB_RULE_BASE_LO 0 + 0x800))
    enforce := s.flag F.BB_RULE_CTRL_ENF_ENFORCE, version := s.bb.version + 1 } }
  let s := s.addWrap F.BB_RULE_VERSION_VERSION 1
  if olderAccess s then s.set F.BB_RULE_DRAINED_DRAINED 0 else s

/-- The rules have drained. -/
def rulesDrained (s : State) : State := if olderAccess s then s else s.set F.BB_RULE_DRAINED_DRAINED 1

/-! ### Registers of the BB page -/

/-- A write of a register of the BB page by a master (R681, R697, R703, R714, R716). -/
def bbWrite (m a : Nat) (v : Word) (s : State) : State :=
  let o := a - R.BB_STATUS
  if a = R.BB_RULE_COMMIT then if F.BB_RULE_COMMIT_GO.on v then commitRules s else s
  else if 0x2000 ≤ o ∧ o < 0x2100 then lockWrite m ((o - 0x2000) / 4) v s
  else
    let s := s.writeByAcc a v
    if 0x100 ≤ o ∧ o < 0x100 + 0x10 * 21 ∧ o % 0x10 < 8 then
      modPoint ((o - 0x100) / 0x10) (fun p => p.newWindow none) s
    else s

/-- A read of a register of the BB page by a master (R701, R714, R716). -/
def bbRead (m a : Nat) (s : State) : Word × State :=
  let o := a - R.BB_STATUS
  if 0x2000 ≤ o ∧ o < 0x2100 then lockRead m ((o - 0x2000) / 4) s
  else if 0x2100 ≤ o ∧ o < 0x2200 then (lockPeek s ((o - 0x2100) / 4), s)
  else (s.readByAcc a, s.clearByAcc a)

end Sys2Proof.Machine
end

