-- ==== Sys2Proof/Machine/Lanes.lean ====
section
/-!
DEFINITION. Sys2Proof/Machine/Lanes.lean: the probe lanes (09_probe_lanes.md): lane states, locks, deskew groups, transmit
sources, PRBS counting and eye scans.
-/

namespace Sys2Proof.Machine

/-- A lane's state beside its registers. -/
def State.lane (s : State) (n : Nat) : XcvS := vget s.xcv (finOf 63 n)

/-- Change a lane's state beside its registers. -/
def modLane (n : Nat) (f : XcvS → XcvS) (s : State) : State :=
  { s with xcv := vset s.xcv (finOf 63 n) (f (s.lane n)) }

/-- STATE of a lane (R452): 0 OFF, 1 POWERING, 2 CALIBRATING, 3 RUNNING, 4 STOPPING. -/
def laneState (s : State) (n : Nat) : Nat := s.get (F.XCV_STATUS_STATE n)

/-- A lane enters a state; outside Running it sends electrical idle and its word clock stands (R452). -/
def laneEnter (n st : Nat) (s : State) : State :=
  modLane n (fun x => { x with
      since := s.clk.now, up := st == 3, txRem := 0, txPos := 0, txQueue := [], txOut := [], rxBits := [] })
    (s.set (F.XCV_STATUS_STATE n) st)

/-- The lane event (R483): the lane's bit of XCV_EVT sets, and source 255 follows its level. -/
def laneEvent (n : Nat) (s : State) : State := setLevelBit 255 (R.XCV_EVT (n / 32)) (n % 32) s

/-- The lane that bit `i` of group `g`'s MASK names (R465, R482). -/
def groupLane (g i : Nat) : Nat := 16 * (g / 4) + i

/-- The members of a deskew group. -/
def groupMembers (s : State) (g : Nat) : List Nat := (maskBits 16 (s.get (F.XCV_GRP_CTRL_MASK g))).map (groupLane g)

/-- The group a lane belongs to, if any. -/
def groupOf (s : State) (n : Nat) : Option Nat := (List.range 16).find? fun g => (groupMembers s g).contains n

/-- The symbol rate is one that the modulation takes (R445). -/
def rateOk (s : State) (n : Nat) : Bool :=
  let b := s.get (F.XCV_RATE_BAUD_KBD n)
  if s.flag (F.XCV_CFG_MOD n) then 13281250 ≤ b && b ≤ 28125000 else 1250000 ≤ b && b ≤ 32500000

/-- The lane agrees with another in PCS, rate and modulation (R466). -/
def lanesAgree (s : State) (n m : Nat) : Bool :=
  s.get (F.XCV_CFG_PCS n) == s.get (F.XCV_CFG_PCS m) && s.get (F.XCV_CFG_MOD n) == s.get (F.XCV_CFG_MOD m) &&
    s.get (F.XCV_RATE_BAUD_KBD n) == s.get (F.XCV_RATE_BAUD_KBD m)

/-- An enable of the lane would be refused (R454). [log 58 DEDUCED] -/
def laneRefuses (s : State) (n : Nat) : Bool :=
  let grp := match groupOf s n with | some g => groupMembers s g | none => []
  !s.flag F.CFG_STATUS_DONE || !rateOk s n ||
    (s.flag (F.XCV_CFG_FEC n) && (!s.flag (F.XCV_CFG_MOD n) || s.get (F.XCV_CFG_PCS n) != 2)) ||
    s.get (F.XCV_CTRL_REF_SEL n) == 3 || 4 ≤ s.get (F.XCV_CFG_PCS n) || s.get (F.XCV_CFG_FEC n) == 3 ||
    (s.flag (F.XCV_CFG_FEC4 n) && grp.length != 4) || grp.any (fun m => !lanesAgree s n m)

/-- A write of EN to a lane (R200, R453, R454, R456, R457, R989). [log 58 DEDUCED] -/
def laneEnWrite (n : Nat) (en : Bool) (s : State) : State :=
  let st := laneState s n
  let was := s.flag (F.XCV_CTRL_EN n)
  if en then
    if st = 0 && !was then
      if laneRefuses s n then s.set (F.XCV_STATUS_REFUSED n) 1
      else
        modLane n (fun x => { x with txLive := s.get (F.XCV_CTRL_TX_SRC n) })
          (laneEnter n 1 (s.set (F.XCV_CTRL_EN n) 1))
    else if st = 4 then (s.set (F.XCV_CTRL_EN n) 1).set (F.XCV_STATUS_ENABLE_PENDING n) 1
    else s
  else
    let s := s.set (F.XCV_CTRL_EN n) 0
    if st = 4 then s.set (F.XCV_STATUS_ENABLE_PENDING n) 0
    else if st = 0 then s
    else laneEnter n 4 s

/-- A write of XCVn_CTRL (R459): a new TX_SRC acts at the next word boundary. -/
def laneCtrlWrite (n : Nat) (v : Word) (s : State) : State :=
  let st := laneState s n
  let ref := (F.XCV_CTRL_REF_SEL n).of v
  let src := (F.XCV_CTRL_TX_SRC n).of v
  let s :=
    if st = 0 then (s.set (F.XCV_CTRL_REF_SEL n) ref).set (F.XCV_CTRL_TX_SRC n) src
    else
      let s := if ref = s.get (F.XCV_CTRL_REF_SEL n) then s else s.set (F.XCV_STATUS_IGNORED n) 1
      if src = s.get (F.XCV_CTRL_TX_SRC n) then s
      else if st = 3 then s.set (F.XCV_CTRL_TX_SRC n) src
      else s.set (F.XCV_STATUS_IGNORED n) 1
  laneEnWrite n ((F.XCV_CTRL_EN n).on v) s

/-- A write of XCVn_CFG or XCVn_RATE (R458). -/
def laneCfgWrite (n a : Nat) (v : Word) (s : State) : State :=
  if laneState s n = 0 then s.writeByAcc a v else s.set (F.XCV_STATUS_IGNORED n) 1

/-- A group stops being aligned (R468): ALIGNED clears and every member reports it. -/
def groupUnalign (g : Nat) (s : State) : State :=
  if s.flag (F.XCV_GRP_CTRL_ALIGNED g) then
    forEach (groupMembers s g) laneEvent (s.set (F.XCV_GRP_CTRL_ALIGNED g) 0)
  else s

/-- The lane's group, if it has one, stops being aligned. -/
def laneUnalign (n : Nat) (s : State) : State :=
  match groupOf s n with
  | some g => groupUnalign g s
  | none => s

/-- A MASK write (R465, R466, R482). [log 58 DEDUCED] -/
def groupMaskWrite (g : Nat) (v : Word) (s : State) : State :=
  let s := if (F.XCV_GRP_CTRL_REFUSED g).on v then s.set (F.XCV_GRP_CTRL_REFUSED g) 0 else s
  let mask := (F.XCV_GRP_CTRL_MASK g).of v
  let all := (maskBits 16 (Nat.lor mask (s.get (F.XCV_GRP_CTRL_MASK g)))).map (groupLane g)
  let taken := (List.range 16).any fun h => h != g && (groupMembers s h).any (fun m =>
    ((maskBits 16 mask).map (groupLane g)).contains m)
  if mask = s.get (F.XCV_GRP_CTRL_MASK g) then s
  else if taken || all.any (fun m => laneState s m != 0) then s.set (F.XCV_GRP_CTRL_REFUSED g) 1
  else s.set (F.XCV_GRP_CTRL_MASK g) mask

/-- A write of XCVn_PRBS (R476, R477): CLR zeroes the counts; the checker unlocks when it is turned off. -/
def prbsWrite (n : Nat) (v : Word) (s : State) : State :=
  let s := s.writeByAcc (R.XCV_PRBS n) v
  let s := if (F.XCV_PRBS_CHK_EN n).on v then s
    else modLane n (fun x => { x with chkRun := 0 }) (s.set (F.XCV_PRBS_STATUS_LOCKED n) 0)
  if (F.XCV_PRBS_CLR n).on v then
    let s := modLane n (fun x => { x with bits := 0, errs := 0 }) s
    ((s.set (F.XCV_PRBS_BITS_LO_BITS n) 0).set (F.XCV_PRBS_BITS_HI_BITS n) 0).set (F.XCV_PRBS_ERR_ERR n) 0
  else s

/-- A read of XCVn_PRBS_BITS_LO (R477): it latches the high half and the error count from the same instant. -/
def prbsBitsRead (n : Nat) (s : State) : Word × State :=
  let x := s.lane n
  let s := s.set (F.XCV_PRBS_BITS_LO_BITS n) (x.bits.toNat % 2 ^ 32)
  let s := (s.set (F.XCV_PRBS_BITS_HI_BITS n) (x.bits.toNat / 2 ^ 32)).set (F.XCV_PRBS_ERR_ERR n) x.errs.toNat
  (x.bits.setWidth 32, s)

/-- Codewords that FEC has corrected since are counted, a free number of them (R462). [log 57 DESIGN CHOICE] -/
def fecGrow (n : Nat) (s : State) : State :=
  if s.flag (F.XCV_STATUS_FEC_LOCK n) then
    let c := s.free
    s.draw.set (F.XCV_FEC_CORR_CW n) (min (s.get (F.XCV_FEC_CORR_CW n) + c) (2 ^ 32 - 1))
  else s

/-- A write of XCVn_EYE_CTRL (R478, R480): a scan starts unless one runs. -/
def eyeCtrlWrite (n : Nat) (v : Word) (s : State) : State :=
  let go := (F.XCV_EYE_CTRL_GO n).on v
  if (s.lane n).eye.isSome then (if go then s else s.writeByAcc (R.XCV_EYE_CTRL n) v)
  else
    let s := s.writeByAcc (R.XCV_EYE_CTRL n) v
    if go then
      let s := (s.set (F.XCV_EYE_CTRL_EYE_DONE n) 0).set (F.XCV_EYE_CTRL_EYE_ABORT n) 0
      let s := (s.set (F.XCV_EYE_SAMPLES_COUNT n) 0).set (F.XCV_EYE_ERRORS_COUNT n) 0
      modLane n (fun x => { x with eye := some s.clk.now }) s
    else s

/-- The symbols of a lane in a span of nanoseconds, at the programmed rate. -/
def laneSymbols (s : State) (n ns : Nat) : Nat := s.get (F.XCV_RATE_BAUD_KBD n) * ns / 1000000

/-- The comparisons an eye scan has made by now: one every 32 UI (R478). -/
def eyeCount (s : State) (n t0 : Nat) : Nat := laneSymbols s n (s.clk.now - t0) / 32

/-- A scan stops: the comparisons made, a number of mismatches no larger, and how it ended. [log 57 DESIGN CHOICE] -/
def eyeStop (n count : Nat) (done : Bool) (s : State) : State :=
  let e := s.free % (count + 1)
  let s := s.draw
  let s := (s.set (F.XCV_EYE_SAMPLES_COUNT n) count).set (F.XCV_EYE_ERRORS_COUNT n) e
  let s := modLane n (fun x => { x with eye := none }) s
  if done then s.set (F.XCV_EYE_CTRL_EYE_DONE n) 1 else s.set (F.XCV_EYE_CTRL_EYE_ABORT n) 1

/-! ### Commands -/

/-- LANE_ENABLE (R453, R454, R457): XCVn_CTRL written with EN 1. [log 7 DEDUCED] -/
def execLaneEnable (p : Partner) (n : Fin 64) (v : Word) (s : State) : Out :=
  .next (viaPartner p (R.XCV_CTRL n.val) (laneCtrlWrite n.val (v ||| 1)) s)

/-- LANE_CALIBRATE_START (R453): 50 us after the enable. -/
def execLaneCalibrateStart (n : Fin 64) (s : State) : Out :=
  .next (whenB (laneState s n.val == 1 && decide ((s.lane n.val).since + 50000 ≤ s.clk.now)) (laneEnter n.val 2) s)

/-- Line bits of a unit: RAW 64, 8B10B 80, a 64B66B block 66, 128B130B 130; what is sent carries no FEC (R461, R485). -/
def unitBits (s : State) (lane : Nat) : Nat :=
  match s.get (F.XCV_CFG_PCS lane) with
  | 1 => 80
  | 2 => 66
  | 3 => 130
  | _ => 64

/-- Units of one word of a fabric port (R472). -/
def wordUnits (s : State) (lane : Nat) : Nat := if s.get (F.XCV_CFG_PCS lane) = 3 then 1 else 2

/-- LANE_RUNNING (R453, R474, R483): the lane reaches Running, with its latencies known. [log 57 DESIGN CHOICE] -/
def execLaneRunning (n : Fin 64) (s : State) : Out :=
  .next (
    if laneState s n.val = 2 then
      let s := laneEnter n.val 3 s
      let s := s.wr (R.XCV_LAT n.val)
        (BitVec.ofNat 32 (Config.laneLatency n.val (s.rd (R.XCV_CFG n.val)) (s.rd (R.XCV_RATE n.val))))
      laneEvent n.val s
    else s)

/-- LANE_DISABLE (R456): XCVn_CTRL written with EN 0. -/
def execLaneDisable (p : Partner) (n : Fin 64) (v : Word) (s : State) : Out :=
  .next (viaPartner p (R.XCV_CTRL n.val) (laneCtrlWrite n.val (v &&& 0xFFFFFFFE)) s)

/-- A lane's locks are gone: CDR, PCS and FEC. -/
def dropLocks (n : Nat) (s : State) : State :=
  ((s.set (F.XCV_STATUS_CDR_LOCK n) 0).set (F.XCV_STATUS_PCS_LOCK n) 0).set (F.XCV_STATUS_FEC_LOCK n) 0

/-- LANE_OFF (R200, R456, R483): Off is reached, and a held enable is applied. -/
def execLaneOff (n : Fin 64) (s : State) : Out :=
  .next (
    let n := n.val
    if laneState s n = 4 then
      let s := laneEnter n 0 (lscLaneLost n (dropLocks n s))
      let s := s.set (F.XCV_PRBS_STATUS_LOCKED n) 0
      let s := laneEvent n (laneUnalign n s)
      if s.flag (F.XCV_STATUS_ENABLE_PENDING n) then
        laneEnWrite n true ((s.set (F.XCV_STATUS_ENABLE_PENDING n) 0).set (F.XCV_CTRL_EN n) 0)
      else s
    else s)

/-- LANE_CONFIG_WRITE (R458). -/
def execLaneConfigWrite (p : Partner) (n : Fin 64) (rate : Bool) (v : Word) (s : State) : Out :=
  .next (
    let a := if rate then R.XCV_RATE n.val else R.XCV_CFG n.val
    viaPartner p a (laneCfgWrite n.val a v) s)

/-- TX_SRC_CHANGE (R459, R471). -/
def execTxSrcChange (p : Partner) (n : Fin 64) (v : Word) (s : State) : Out :=
  .next (viaPartner p (R.XCV_CTRL n.val) (laneCtrlWrite n.val v) s)

/-- CDR_LOCK (R455, R470, R984). -/
def execCdrLock (n : Fin 64) (s : State) : Out :=
  .next (
    if laneState s n.val = 3 && !s.flag (F.XCV_STATUS_CDR_LOCK n.val) then
      lscLaneLocked n.val (modLane n.val (fun x => { x with marked := false, rxBits := [] })
        (s.set (F.XCV_STATUS_CDR_LOCK n.val) 1))
    else s)

/-- PCS_LOCK (R460, R462): code-group or block lock, or FEC lock. -/
def execPcsLock (n : Fin 64) (fec : Bool) (s : State) : Out :=
  .next (
    if s.flag (F.XCV_STATUS_CDR_LOCK n.val) && s.get (F.XCV_CFG_PCS n.val) != 0 &&
        (!fec || s.flag (F.XCV_CFG_FEC n.val)) then
      lscLaneLocked n.val <| modLane n.val (fun x => { x with rxBits := [] })
        (if fec then s.set (F.XCV_STATUS_FEC_LOCK n.val) 1 else s.set (F.XCV_STATUS_PCS_LOCK n.val) 1)
    else s)

/-- A lane loses CDR (0), PCS (1) or FEC (2) lock (R464, R468, R479). -/
def laneLossOfLock (n which : Nat) (s : State) : State :=
  let had := match which with
    | 0 => s.flag (F.XCV_STATUS_CDR_LOCK n)
    | 1 => s.flag (F.XCV_STATUS_PCS_LOCK n)
    | _ => s.flag (F.XCV_STATUS_FEC_LOCK n)
  if had then
    let s := match which with
      | 0 => dropLocks n s
      | 1 => s.set (F.XCV_STATUS_PCS_LOCK n) 0
      | _ => s.set (F.XCV_STATUS_FEC_LOCK n) 0
    let s := modLane n (fun x => { x with marked := true }) (s.set (F.XCV_STATUS_LOL n) 1)
    let s := laneUnalign n (laneEvent n (lscLaneLost n s))
    match (s.lane n).eye with
    | some t0 => if which = 0 then eyeStop n (eyeCount s n t0) false s else s
    | none => s
  else s

/-- A member has the locks that alignment needs (R467, R468). -/
def memberLocked (s : State) (n : Nat) : Bool :=
  s.flag (F.XCV_STATUS_CDR_LOCK n) && (s.get (F.XCV_CFG_PCS n) == 0 || s.flag (F.XCV_STATUS_PCS_LOCK n)) &&
    (!s.flag (F.XCV_CFG_FEC n) || s.flag (F.XCV_STATUS_FEC_LOCK n))

/-- The latency of a member's post-PCS stream takes in the delay that deskew gives it (R467, R469). [log 57 DESIGN CHOICE] -/
def deskewLane (n : Nat) (s : State) : State :=
  s.set (F.XCV_LAT_RX n) ((F.XCV_LAT_RX n).of
      (BitVec.ofNat 32 (Config.laneLatency n (s.rd (R.XCV_CFG n)) (s.rd (R.XCV_RATE n)))) +
    Config.deskewDelay n s.clk.now % 12801)

/-- DESKEW_ALIGNED (R467 to R469): every member is locked and the markers agree. -/
def execDeskewAligned (g : Fin 16) (s : State) : Out :=
  .next (whenB (!(groupMembers s g.val).isEmpty && (groupMembers s g.val).all (memberLocked s))
    (fun s => forEach (groupMembers s g.val) deskewLane (s.set (F.XCV_GRP_CTRL_ALIGNED g.val) 1)) s)

/-- DESKEW_MARKER_DISAGREE (R468). -/
def execDeskewMarkerDisagree (g : Fin 16) (s : State) : Out := .next (groupUnalign g.val s)

/-- DESKEW_MASK_WRITE (R465, R466, R482). -/
def execDeskewMaskWrite (p : Partner) (g : Fin 16) (v : Word) (s : State) : Out :=
  .next (viaPartner p (R.XCV_GRP_CTRL g.val) (groupMaskWrite g.val v) s)

/-- PRBS_CHECKER_LOCK (R476): 128 bits in a row have matched. -/
def execPrbsCheckerLock (n : Fin 64) (s : State) : Out :=
  .next (whenB (laneState s n.val == 3 && s.flag (F.XCV_PRBS_CHK_EN n.val) && !s.flag (F.XCV_PRBS_STATUS_LOCKED n.val) &&
      decide (128 ≤ (s.lane n.val).chkRun))
    (fun s => modLane n.val (fun x => { x with chkBits := 0, chkErrs := 0 }) (s.set (F.XCV_PRBS_STATUS_LOCKED n.val) 1)) s)

/-- PRBS_CHECKER_LOSS (R476): 32 errors have been counted in a window of 1,024 bits; the checker looks for lock again. -/
def execPrbsCheckerLoss (n : Fin 64) (s : State) : Out :=
  .next (whenB (s.flag (F.XCV_PRBS_STATUS_LOCKED n.val) && decide (32 ≤ (s.lane n.val).chkErrs))
    (fun s => modLane n.val (fun x => { x with chkRun := 0 })
      ((s.set (F.XCV_PRBS_STATUS_LOCKED n.val) 0).incSat (F.XCV_PRBS_STATUS_LOSSES n.val))) s)

/-- CLR (R477). -/
def execPrbsClr (p : Partner) (n : Fin 64) (v : Word) (s : State) : Out :=
  .next (viaPartner p (R.XCV_PRBS n.val) (prbsWrite n.val (v ||| 0x80000000)) s)

/-- PRBS_BITS_READ (R477). -/
def execPrbsBitsRead (p : Partner) (n : Fin 64) (s : State) : Out :=
  .next (viaPartnerRead p (R.XCV_PRBS_BITS_LO n.val) (prbsBitsRead n.val) s)

/-- EYE_SCAN_GO (R478). -/
def execEyeScanGo (p : Partner) (n : Fin 64) (v : Word) (s : State) : Out :=
  .next (viaPartner p (R.XCV_EYE_CTRL n.val) (eyeCtrlWrite n.val (v ||| 0x80000000)) s)

/-- EYE_DONE (R478): the scan has made 2^(16 + PRESCALE) comparisons. [log 5 DESIGN CHOICE] -/
def execEyeDone (n : Fin 64) (s : State) : Out :=
  .next (match (s.lane n.val).eye with
    | some t0 =>
      let target := 2 ^ (16 + s.get (F.XCV_EYE_CTRL_PRESCALE n.val))
      if target ≤ eyeCount s n.val t0 then eyeStop n.val (min target (2 ^ 32 - 1)) true s else s
    | none => s)

end Sys2Proof.Machine
end

