-- ==== Sys2Proof/Machine/Lantern.lean ====
section
/-!
DEFINITION. Sys2Proof/Machine/Lantern.lean: the Lantern capture engines (10_lanterns.md): taps and frames, match units, the
trigger sequencer, records and token coding, the FIFO, the ring and the index ring, loss episodes, and engine states.
-/

namespace Sys2Proof.Machine

/-- A Lantern's state beside its registers. -/
def State.lan (s : State) (n : Nat) : LntS := vget s.lnt (finOf 15 n)

/-- Change a Lantern's state beside its registers. -/
def modLnt (n : Nat) (f : LntS → LntS) (s : State) : State :=
  { s with lnt := vset s.lnt (finOf 15 n) (f (s.lan n)) }

/-- A tap. -/
def State.tap (s : State) (n t : Nat) : Tap := vget (s.lan n).taps (finOf 3 t)

/-- Change a tap. -/
def modTap (n t : Nat) (f : Tap → Tap) (s : State) : State :=
  modLnt n (fun l => { l with taps := vset l.taps (finOf 3 t) (f (vget l.taps (finOf 3 t))) }) s

/-- STATE of a Lantern (R537): 0 IDLE, 1 ARMED, 2 CAPTURING, 3 STOPPING. -/
def lntState (s : State) (n : Nat) : Nat := s.get (F.LNT_STATUS_STATE n)

/-- The Lantern captures or is armed. -/
def lntRuns (s : State) (n : Nat) : Bool := s.works && (lntState s n == 1 || lntState s n == 2)

/-- A Lantern changes state and raises its state event (R544). -/
def lntEnter (n st : Nat) (s : State) : State :=
  if lntState s n = st then s else raise (67 + 4 * n) (s.set (F.LNT_STATUS_STATE n) st)

/-! ### Units -/

/-- The lane a tap reads (R484). -/
def tapLane (s : State) (n t : Nat) : Nat := s.get (F.LNT_TAP_CFG_LANE n t)

/-- The size of a unit of a stream: pre-PCS or RAW 8 bytes, 8B10B and 64B66B 9, 128B130B 17 (R485). -/
def unitSize (pre : Bool) (pcs : Nat) : Nat :=
  if pre then 8 else if pcs = 1 then 9 else if pcs = 2 then 9 else if pcs = 3 then 17 else 8

/-- The unit size of a tap. -/
def tapU (s : State) (n t : Nat) : Nat :=
  unitSize (s.flag (F.LNT_TAP_CFG_PRE n t)) (s.get (F.XCV_CFG_PCS (tapLane s n t)))

/-- The symbols a unit stands for in the tap's count: unit intervals before the PCS or in RAW, code units after it
(R80, R488). -/
def unitSymbols (s : State) (n t : Nat) : Nat :=
  let lane := tapLane s n t
  let pcs := s.get (F.XCV_CFG_PCS lane)
  if s.flag (F.LNT_TAP_CFG_PRE n t) || pcs = 0 || 3 < pcs then (if s.flag (F.XCV_CFG_MOD lane) then 32 else 64)
  else if pcs = 1 then 8 else 1

/-! ### Records -/

/-- The common header of a record (R513). -/
def recHeader (kind tap : Nat) (pre : Bool) (flags words seq hits st : Nat) : List Byte :=
  [BitVec.ofNat 8 (kind + 16 * tap + 64 * b2n pre), BitVec.ofNat 8 flags] ++ leBytes 2 words ++ leBytes 2 seq ++
    [BitVec.ofNat 8 hits, BitVec.ofNat 8 (st % 16)]

/-- The size of the ring in bytes (R522). -/
def ringSize (s : State) (n : Nat) : Nat := s.get (F.LNT_RING_SIZE_MIB n) * 2 ^ 20

/-- The read pointer. -/
def rdPtr (s : State) (n : Nat) : Nat := s.get64 (R.LNT_RD_PTR_LO n) (R.LNT_RD_PTR_HI n)

/-- The bytes a record would take in the ring, with the PAD it forces at the ring's end (R524). [log 63 DEDUCED] -/
def laidLength (size pos len : Nat) : Nat :=
  let rest := size - pos % size
  if len ≤ rest then len else rest + len

/-- In STOP mode a FRAME, START or STEP record is written only when 80 bytes stay free behind it (R526). [log 63 DEDUCED] -/
def ringTakes (s : State) (n len : Nat) : Bool :=
  let size := ringSize s n
  s.flag (F.LNT_CTRL_RING_MODE n) || size == 0 ||
    decide ((s.lan n).layPos % size + size - rdPtr s n % size < size + size ∧
      ((s.lan n).layPos % size + size - rdPtr s n % size) % size + laidLength size (s.lan n).layPos len + 80 ≤ size)

/-- The bytes of closed records that the FIFO holds (R504). -/
def LntS.fifoLen (l : LntS) : Nat := l.layPos - l.issuePos

/-- The bytes the FIFO holds, frames in progress included. [log 65 DESIGN CHOICE] -/
def fifoLevel (s : State) (n : Nat) : Nat :=
  (s.lan n).fifoLen + (s.lan n).taps.toList.foldl (fun acc t =>
    acc + match t.frame with
      | some f => if f.keep then 32 + (f.units.map List.length).sum else 0
      | none => 0) 0

/-- The FIFO's capacity in bytes (R504). -/
def fifoSize (s : State) (n : Nat) : Nat := s.get (F.LNT_FIFO_SIZE n) * 65536

/-- PANIC follows the FIFO level with its two thresholds (R509). [log 65 DESIGN CHOICE] -/
def updatePanic (n : Nat) (s : State) : State :=
  let k := 1024 * s.get (F.LNT_FIFO_SIZE n)
  let lv := fifoLevel s n
  if s.get (F.LNT_PANIC_PANIC_HI n) * k ≤ lv then s.set (F.LNT_STATUS_PANIC n) 1
  else if lv ≤ s.get (F.LNT_PANIC_PANIC_LO n) * k then s.set (F.LNT_STATUS_PANIC n) 0
  else s

/-- Where in Staging SRAM the FIFO holds the byte of a ring position: round and round its area (R504). [log 65 DESIGN CHOICE] -/
def fifoOff (s : State) (n p : Nat) : Nat := 65536 * s.get (F.LNT_FIFO_BASE n) + p % max 8 (fifoSize s n)

/-- Write a word of the FIFO through port B; one that port A writes in this cycle is COLLIDED and left for the next (R506, R766,
R769). -/
def fifoWord (n : Nat) (off : Nat) (b : List Byte) (s : State) : State :=
  if (portAHit s (off / 8)).isSome then
    modLnt n (fun l => { l with again := l.again ++ [(off, b)] }) (stgCollided s)
  else (stgWriteWord false .store (off / 8) b (List.replicate 8 true)
    (portBNote ⟨16 + n, true, off, b, 8⟩ (off / 8) s)).2

/-- Write bytes, whole words, into the FIFO from a ring position on. -/
def fifoPut (n p : Nat) (b : List Byte) (s : State) : State :=
  forEach (List.range (b.length / 8)) (fun i => fifoWord n (fifoOff s n (p + 8 * i)) ((b.drop (8 * i)).take 8)) s

/-- A core cycle later: COLLIDED words are written again (R506). -/
def fifoTick (n : Nat) (s : State) : State :=
  let l := (s.lan n).again
  if l.isEmpty then s
  else forEach l (fun x => fifoWord n x.1 x.2) (modLnt n (fun l => { l with again := [] }) s)

/-- Read bytes of the FIFO from a ring position on: the bytes, and the ring positions of words that could not be read (R785). -/
def fifoGet (n p len : Nat) (s : State) : (List Byte × List Nat) × State :=
  (List.range ((len + 7) / 8)).foldl (fun acc i =>
    match stgReadWord (fifoOff s n (p + 8 * i) / 8) acc.2 with
    | (some b, s) => ((acc.1.1 ++ b, acc.1.2), s)
    | (none, s) => ((acc.1.1 ++ List.replicate 8 0, acc.1.2 ++ [p + 8 * i]), s)) (([], []), s)

/-- Lay a record's bytes at the next ring position. -/
def layBytes (n : Nat) (b : List Byte) (p : Placed) (s : State) : State :=
  let s := fifoPut n (s.lan n).layPos b s
  modLnt n (fun l => { l with
    fifoSince := if l.fifoLen = 0 then s.elapsed else l.fifoSince
    placed := l.placed ++ [{ p with off := l.layPos, len := b.length, seq := l.seq % 65536 }]
    layPos := l.layPos + b.length
    seq := (l.seq + 1) % 65536 }) s

/-- Lay a PAD record of a length, a multiple of 8 (R520). -/
def layPad (n len : Nat) (s : State) : State :=
  if len = 0 then s
  else
    layBytes n (padTo len (recHeader 6 0 false 0 (len / 8) (s.lan n).seq 0 (s.get (F.LNT_STATUS_SEQ_STATE n))))
      ⟨0, 0, 6, false, 0, 0, 0, 0, 0, 0, 0⟩ s

/-- Lay a record out in the ring; one that would cross the ring's end goes behind a PAD that fills it (R524). The record
is a function of its SEQ. [log 63 DEDUCED] -/
def layRecord (n : Nat) (rec : Nat → List Byte) (p : Placed) (s : State) : State :=
  let size := ringSize s n
  let rest := size - (s.lan n).layPos % size
  let s := if rest < (rec 0).length then layPad n rest s else s
  updatePanic n (layBytes n (rec (s.lan n).seq) p s)

/-- A marker record (R519). -/
def layMarker (n kind : Nat) (tt : TT64) (rest : List Byte) (s : State) : State :=
  layRecord n (fun q => recHeader kind 0 false 0 4 q 0 (s.get (F.LNT_STATUS_SEQ_STATE n)) ++ leBytes 8 tt.toNat ++
    padTo 16 rest) ⟨0, 0, kind, false, tt, 0, 0, 0, 0, 0, 0⟩ s

/-- A LOSS record (R518). -/
def layLoss (n t cause : Nat) (approx : Bool) (e : Episode) (ttTo : TT64) (symbols : Nat) (s : State) : State :=
  layRecord n (fun q =>
    recHeader 2 t (s.flag (F.LNT_TAP_CFG_PRE n t)) (b2n approx) 6 q 0 (s.get (F.LNT_STATUS_SEQ_STATE n)) ++
      leBytes 8 e.ttFrom.toNat ++ leBytes 8 ttTo.toNat ++ leBytes 6 e.tscFrom ++ [BitVec.ofNat 8 cause, 0] ++
      leBytes 6 symbols ++ [0, 0] ++ leBytes 4 (min e.frames (2 ^ 32 - 1)) ++ leBytes 4 (min e.bytes (2 ^ 32 - 1)))
    ⟨0, 0, 2, false, e.ttFrom, 0, t, e.tscFrom, symbols, e.bytes, e.frames⟩ s

/-! ### Token coding (R517) -/

/-- A list of units as runs of equal units. -/
def unitRuns : List (List Byte) → List (List Byte × Nat)
  | [] => []
  | u :: us => match unitRuns us with
    | (v, k) :: rest => if u = v && k < 32767 then (v, k + 1) :: rest else (u, 1) :: (v, k) :: rest
    | [] => [(u, 1)]

/-- A literal token of units. -/
def litToken (us : List (List Byte)) : List Byte :=
  if us.isEmpty then [] else leBytes 2 us.length ++ us.flatten

/-- Runs as tokens: a run of COMP_MIN or more becomes a REP token, the units between become literal tokens. -/
def tokensOf (compMin : Nat) : List (List Byte) → List (List Byte × Nat) → List Byte
  | lit, [] => litToken lit
  | lit, (u, k) :: rest =>
    if compMin ≤ k then litToken lit ++ leBytes 2 (2 ^ 15 + k) ++ u ++ tokensOf compMin [] rest
    else if 32767 < lit.length + k then litToken lit ++ tokensOf compMin (List.replicate k u) rest
    else tokensOf compMin (lit ++ List.replicate k u) rest

/-- The token coding of a payload. [log 62 DEDUCED] -/
def tokenCode (compMin : Nat) (us : List (List Byte)) : List Byte := tokensOf compMin [] (unitRuns us)

/-- Whole words of 8 bytes. -/
def toWords (n : Nat) : Nat := (n + 7) / 8

/-- Units cut into groups of at most 4,096 bytes (R515), by fuel. [log 62 DEDUCED] -/
def cutUnits (per : Nat) : Nat → List (List Byte) → List (List (List Byte))
  | 0, _ => []
  | k + 1, us => if us.isEmpty then [] else us.take per :: cutUnits per k (us.drop per)

/-- The payloads of a frame's records: coded when COMP is 1 and coding makes the record shorter (R514, R515, R517).
[log 62 DEDUCED] -/
def framePayloads (comp : Bool) (compMin u : Nat) (us : List (List Byte)) : List (Bool × List Byte) :=
  let code := fun (g : List (List Byte)) =>
    let c := tokenCode compMin g
    if comp && toWords c.length < toWords g.flatten.length then (true, c) else (false, g.flatten)
  let all := code us
  if all.2.length ≤ 4096 then [all] else (cutUnits (4096 / u) us.length us).map code

/-- The flags of a FRAME record (R514). -/
def frameFlags (f : Frame) (trunc comp cont : Bool) : Nat :=
  b2n f.trig + 2 * b2n trunc + 4 * b2n f.err + 8 * b2n f.unaligned + 16 * b2n comp + 32 * b2n cont + 64 * b2n f.cut +
    128 * b2n f.lscFrozen

/-- Lay the records of a closed frame, the first without CONT (R514, R515). [log 62 DEDUCED] -/
def layFrame (n t : Nat) (f : Frame) (trunc : Bool) (units : List (List Byte)) (frameLen : Nat) (s : State) : State :=
  let u := tapU s n t
  let pays := framePayloads (s.flag (F.LNT_CTRL_COMP n)) (s.get (F.LNT_CTRL_COMP_MIN n)) u units
  let st := s.get (F.LNT_STATUS_SEQ_STATE n)
  let pre := s.flag (F.LNT_TAP_CFG_PRE n t)
  (pays.zipIdx).foldl (fun s x =>
    let (comp, pay) := x.1
    layRecord n (fun q =>
      recHeader 1 t pre (frameFlags f trunc comp (x.2 != 0)) (4 + toWords pay.length) q f.hits st ++
        leBytes 8 f.tt.toNat ++ leBytes 6 f.tsc ++ leBytes 6 f.lsc.toNat ++ leBytes 2 pay.length ++
        leBytes 2 frameLen ++ padTo (8 * toWords pay.length) pay)
      ⟨0, 0, 1, f.trig, f.tt, 0, t, f.tsc, if x.2 = 0 then units.length * unitSymbols s n t else 0,
        if x.2 = 0 then units.flatten.length else 0, b2n (x.2 == 0)⟩ s) s

/-! ### Loss episodes -/

/-- The TT and the LSC at which a symbol reached the pins that has taken a latency, in 1/64 ns, to its tap (R18, R81, R469).
[log 61 DEDUCED] -/
def arrival (s : State) (lat : Nat) : TT64 × BitVec 48 :=
  let k := (lat + 63) / 64
  match k with
  | 0 => (s.tt.tt, s.tt.lsc)
  | k' + 1 => (ttAdd (s.tt.ttHist.getD k' (ttAdd s.tt.tt (-(64 * k : Nat)))) ((64 * k - lat : Nat) : Int),
      if s.flag F.TT_LSC_CTRL_EN then s.tt.lscHist.getD k' s.tt.lsc else s.tt.lsc)

/-- How long a symbol of a tap's stream has taken from the pins to the tap (R18, R474). -/
def tapLatency (s : State) (n t : Nat) : Nat :=
  let lane := tapLane s n t
  if s.flag (F.LNT_TAP_CFG_PRE n t) then Config.preLatency lane (s.rd (R.XCV_CFG lane)) (s.rd (R.XCV_RATE lane))
  else s.get (F.XCV_LAT_RX lane)

/-- The TT and the TSC of the next unit of a tap that is processed. -/
def tapHead (s : State) (n t : Nat) : TT64 × Nat :=
  match (s.tap n t).window with
  | u :: _ => (u.tt, u.tsc)
  | [] => ((arrival s (tapLatency s n t)).1, (s.tap n t).tsc)

/-- The span of an episode in symbols at the programmed rate (R533): unit intervals before the PCS, code units after. -/
def spanSymbols (s : State) (n t : Nat) (d : Int) : Nat :=
  let lane := tapLane s n t
  let bits := s.get (F.XCV_RATE_BAUD_KBD lane) * (if s.flag (F.XCV_CFG_MOD lane) then 2 else 1)
  let pcs := s.get (F.XCV_CFG_PCS lane)
  let per := if s.flag (F.LNT_TAP_CFG_PRE n t) || pcs = 0 || 3 < pcs then (if s.flag (F.XCV_CFG_MOD lane) then 2 else 1)
    else if pcs = 1 then 10 else if pcs = 2 then 66 else 130
  bits * d.toNat / (64 * 1000000 * per)

/-- An episode ends: its LOSS record is written (R531, R533). -/
def endLoss (n t : Nat) (ttTo : TT64) (s : State) : State :=
  match (s.tap n t).loss with
  | some e =>
    let s := modTap n t (fun x => { x with loss := none }) s
    if e.cause = 3 then
      layLoss n t 3 true e ttTo (spanSymbols s n t (ttDiff ttTo e.ttFrom)) s
    else layLoss n t e.cause false e ttTo e.symbols s
  | none => s

/-- An episode begins, ending one of another cause (R531, R545). -/
def beginLoss (n t cause : Nat) (tt : TT64) (tsc : Nat) (s : State) : State :=
  match (s.tap n t).loss with
  | some e =>
    if e.cause = cause then s
    else modTap n t (fun x => { x with loss := some ⟨cause, tt, tsc, 0, 0, 0⟩ }) (endLoss n t tt s)
  | none => modTap n t (fun x => { x with loss := some ⟨cause, tt, tsc, 0, 0, 0⟩ }) s

/-- A unit, or a frame start, is counted in the episode. [log 60 DEDUCED] -/
def countLoss (n t symbols bytes frames : Nat) (s : State) : State :=
  modTap n t (fun x => { x with loss := x.loss.map fun e =>
    { e with symbols := e.symbols + symbols, bytes := e.bytes + bytes, frames := e.frames + frames } }) s

/-- Why a symbol cannot be stored now: 2 RING_FULL before 1 FIFO_FULL, 0 when it can (R511, R526, R534). -/
def storeBlock (s : State) (n len : Nat) : Nat :=
  if !ringTakes s n len then 2
  else if fifoSize s n ≤ fifoLevel s n + 256 then 1
  else 0

/-! ### Frames -/

/-- The filter of R500 holds for the match units that hit during a frame. -/
def filterHolds (s : State) (n hits : Nat) : Bool :=
  let m := s.get (F.LNT_FILTER_MASK n)
  if s.flag (F.LNT_FILTER_ALL n) then Nat.land hits m == m else Nat.land hits m != 0

/-- A frame in progress is closed (R495 to R503, R532): counted, and recorded when it is kept. [log 60 DEDUCED] -/
def closeFrame (n t : Nat) (f : Frame) (trunc : Bool) (s : State) : State :=
  let s := modTap n t (fun x => { x with frame := none }) s
  let s := if (s.tap n t).keeping then s else endLoss n t (tapHead s n t).1 s
  let s := if f.err then
      modLnt n (fun l => { l with errFrames := l.errFrames + 1 }) (s.addWrap (F.LNT_TAP_ERRS_COUNT n t) 1)
    else s
  let mode := s.get (F.LNT_CTRL_MODE n)
  if !f.keep || (mode = 1 && !filterHolds s n f.hits) then updatePanic n s
  else
    let u := tapU s n t
    let head := (s.get (F.LNT_FILTER_HEAD_LEN n) + u - 1) / u
    let cutHead := mode = 2 && head < f.units.length
    let units := if mode = 2 then f.units.take head else f.units
    layFrame n t f (trunc || cutHead) units (if f.cut then units.flatten.length else f.len) s

/-- A frame starts with a unit (R486 to R488, R495, R502, R514). [log 60 DEDUCED] -/
def openFrame (n t : Nat) (u : TapUnit) (s : State) : State :=
  let s := s.addWrap (F.LNT_TAP_FRAMES_COUNT n t) 1
  let s := modLnt n (fun l => { l with starts := l.starts + 1 }) s
  let want := (s.tap n t).keeping && s.get (F.LNT_CTRL_MODE n) != 3
  let why := storeBlock s n (32 + s.get (F.LNT_TAP_LEN_MAX_LEN n t))
  let s := if want && why != 0 then countLoss n t 0 0 1 (beginLoss n t why u.tt u.tsc s)
    else if want then endLoss n t u.tt s else s
  let s := s.setB (F.LNT_STATUS_RING_FULL n) (want && why == 2)
  let f : Frame :=
    { tt := u.tt, tsc := u.tsc, lsc := u.lsc, lscFrozen := u.frozen, units := [], len := 0, hits := 0, trig := false,
      err := false, unaligned := false, keep := want && why == 0, cut := false }
  modTap n t (fun x => { x with frame := some f }) s

/-- A unit joins the frame in progress (R503, R511, R532). [log 60 DEDUCED] -/
def addUnit (n t : Nat) (u : TapUnit) (hits : Nat) (s : State) : State :=
  match (s.tap n t).frame with
  | some f =>
    let f := { f with len := f.len + u.bytes.length, hits := Nat.lor f.hits hits, err := f.err || u.bad,
                      unaligned := f.unaligned || u.unaligned }
    let sym := unitSymbols s n t
    if f.keep then
      let why := storeBlock s n 0
      if why = 0 then modTap n t (fun x => { x with frame := some { f with units := f.units ++ [u.bytes] } }) s
      else
        let s := closeFrame n t { f with cut := true, len := f.len - u.bytes.length } false s
        let s := countLoss n t sym u.bytes.length 0 (beginLoss n t why u.tt u.tsc s)
        modTap n t (fun x => { x with frame := some { f with keep := false, units := [] } }) s
    else
      let s := modTap n t (fun x => { x with frame := some f }) s
      if (s.tap n t).loss.isSome then countLoss n t sym u.bytes.length 0 s else s
  | none => s

/-- Match unit `m` finds its value at the front of a tap's bytes (R489). -/
def muMatches (s : State) (n m : Nat) (bytes : List Byte) : Bool :=
  let val := fun (r : Nat → Nat → Nat) => (List.range 8).flatMap fun k => leBytes 4 (s.rd (r n k)).toNat
  let v := val fun n k => R.LNT_MU0_VALUE n k + 0x80 * m
  let k := val fun n k => R.LNT_MU0_MASK n k + 0x80 * m
  32 ≤ bytes.length && (List.range 32).all fun i => (byteAt bytes i ^^^ byteAt v i) &&& byteAt k i == 0

/-- The enabled match units of a tap, by whether they are anchored. -/
def tapMus (s : State) (n t : Nat) (anchored : Bool) : List Nat :=
  (List.range 8).filter fun m => s.flag (F.LNT_MU_CTRL_EN n m) && s.get (F.LNT_MU_CTRL_TAP n m) == t &&
    s.flag (F.LNT_MU_CTRL_ANCHOR n m) == anchored

/-- A set of small numbers as a mask. -/
def maskFrom (l : List Nat) : Nat := l.foldl (fun acc i => Nat.lor acc (2 ^ i)) 0

/-- Count match unit hits (R491, R497, R502). -/
def countHits (n hits : Nat) (s : State) : State :=
  let s := modLnt n (fun l => { l with
    cycleHits := Nat.lor l.cycleHits hits
    mhits := Vector.ofFn fun i => vget l.mhits i + b2n (bitOf hits i.val) }) s
  forEach (maskBits 8 hits) (fun m s => s.addWrap (F.LNT_MU_HITS_COUNT n m) 1) s

/-- The oldest unit of a tap's window, whose 32 bytes from its start are known, is processed (R485 to R503).
[log 61 DEDUCED] -/
def processUnit (n t : Nat) (u : TapUnit) (ahead : List Byte) (s : State) : State :=
  let free := maskFrom ((tapMus s n t false).filter fun m => muMatches s n m ahead)
  let byMatch := s.flag (F.LNT_TAP_CFG_FRAMING n t)
  let starts := bitOf free (s.get (F.LNT_TAP_CFG_START_MU n t))
  let endEn := s.flag (F.LNT_TAP_CFG_END_EN n t)
  let s := match (s.tap n t).frame with
    | some f => if byMatch && starts && !endEn then openFrame n t u (closeFrame n t f false s) else s
    | none => if !byMatch || starts then openFrame n t u s else s
  let pos := match (s.tap n t).frame with | some f => some f.len | none => none
  let anch := maskFrom ((tapMus s n t true).filter fun m =>
    pos == some (s.get (F.LNT_MU_CTRL_OFFSET n m)) && muMatches s n m ahead)
  let hits := Nat.lor free anch
  let s := countHits n hits (addUnit n t u hits s)
  let lo := s.get64 (R.LNT_TAP_BYTES_LO n t) (R.LNT_TAP_BYTES_HI n t) + u.bytes.length
  let s := s.set64 (R.LNT_TAP_BYTES_LO n t) (R.LNT_TAP_BYTES_HI n t) (lo % 2 ^ 48)
  let s := match (s.tap n t).frame with
    | some f =>
      let ends := if byMatch then
          (endEn && bitOf hits (s.get (F.LNT_TAP_CFG_END_MU n t))) ||
            decide (s.get (F.LNT_TAP_LEN_MAX_LEN n t) ≤ f.len)
        else decide (s.get (F.LNT_TAP_LEN_CHUNK_LEN n t) ≤ f.len)
      if ends then closeFrame n t f false s else s
    | none => s
  updatePanic n s

/-- Process the units of a tap's window while 32 bytes stand from the oldest one's start, by fuel. [log 61 DEDUCED] -/
def drainWindow (n t : Nat) (all : Bool) : Nat → State → State
  | 0, s => s
  | k + 1, s =>
    match (s.tap n t).window with
    | u :: rest =>
      let ahead := ((u :: rest).map TapUnit.bytes).flatten
      if all || 32 ≤ ahead.length then
        drainWindow n t all k (processUnit n t u ahead (modTap n t (fun x => { x with window := rest }) s))
      else s
    | [] => s

/-- The lane of a tap has the lock its stream needs (R488). -/
def tapLocked (s : State) (n t : Nat) : Bool :=
  let lane := tapLane s n t
  s.flag (F.XCV_STATUS_CDR_LOCK lane) &&
    (s.flag (F.LNT_TAP_CFG_PRE n t) || s.get (F.XCV_CFG_PCS lane) == 0 || s.flag (F.XCV_STATUS_PCS_LOCK lane))

/-- A unit of a post-PCS 64B66B or 128B130B stream carries sync header 0b11 (R503). -/
def unitBadHeader (s : State) (n t : Nat) (b : List Byte) : Bool :=
  let pcs := s.get (F.XCV_CFG_PCS (tapLane s n t))
  !s.flag (F.LNT_TAP_CFG_PRE n t) && (pcs == 2 || pcs == 3) && (byteAt b 0 &&& 3) == 3

/-- FEC_UNCORRECTABLE (R463): the codeword is counted, and its blocks, 80 of them or 20 on each of four lanes, reach the receive
port and the taps with sync header 0b11. [log 130 DEDUCED] -/
def execFecUncorrectable (n : Fin 64) (s : State) : Out :=
  .next (whenB (s.flag (F.XCV_STATUS_FEC_LOCK n.val)) (fun s =>
    let four := s.flag (F.XCV_CFG_FEC4 n.val)
    let lanes := if four then (groupOf s n.val).elim [n.val] (groupMembers s) else [n.val]
    let k := if four then 20 else 80
    let s := forEach lanes (fun m => modLane m fun x => { x with fecBad := x.fecBad + k }) (s.incSat (F.XCV_FEC_UNCORR_CW n.val))
    forEach (List.range 16) (fun l s => forEach (List.range 4) (fun t s =>
      if lanes.contains (tapLane s l t) && !s.flag (F.LNT_TAP_CFG_PRE l t) then
        modTap l t (fun x => { x with fecBad := x.fecBad + k }) s
      else s) s) s) s)

/-- A block of an uncorrectable codeword comes with sync header 0b11 (R463). -/
def fecMarked (bad : Bool) : List Byte → List Byte
  | b :: l => (if bad then b ||| 3 else b) :: l
  | [] => []

/-- TAP_UNIT (R18, R485 to R503, R531 to R534): a tap delivers one unit; `bad` says that it holds an invalid code group.
The stamp is the TT at which the symbol reached the pins. [log 61 DEDUCED, log 117 DESIGN CHOICE] -/
def execTapUnit (n : Fin 16) (tap : Fin 4) (bytes : List Byte) (bad : Bool) (s : State) : Out :=
  .next (
    let n := n.val
    let t := tap.val
    if lntRuns s n && s.flag (F.LNT_TAP_CFG_EN n t) && tapLocked s n t && bytes.length == tapU s n t then
      let lane := tapLane s n t
      let x := s.tap n t
      let unaligned := !s.flag (F.LNT_TAP_CFG_PRE n t) &&
        (match groupOf s lane with | some g => !s.flag (F.XCV_GRP_CTRL_ALIGNED g) | none => false)
      let bytes := fecMarked (decide (0 < x.fecBad)) bytes
      let at_ := arrival s (tapLatency s n t)
      let u : TapUnit :=
        { bytes := bytes, tt := at_.1, tsc := x.tsc, lsc := at_.2
          frozen := !lscRunning s, bad := bad || unitBadHeader s n t bytes, unaligned := unaligned }
      drainWindow n t false 5 (modTap n t (fun x => { x with
        window := x.window ++ [u], tsc := (x.tsc + unitSymbols s n t) % 2 ^ 48, fecBad := x.fecBad - 1 }) s)
    else s)

/-! ### The sequencer -/

/-- Counter `c` after this cycle (R497). [log 67 DEDUCED] -/
def counterNow (s : State) (n c : Nat) : Nat :=
  let l := s.lan n
  let old := s.get (F.LNT_CNT_VALUE_VALUE n c)
  if bitOf (s.get (F.LNT_SEQ_RUN_CNT_RUN n (s.get (F.LNT_STATUS_SEQ_STATE n)))) c then
    let d := match s.get (F.LNT_CNT_CFG_SRC n c) with
      | 0 => l.starts
      | 1 => vget l.mhits (finOf 7 (s.get (F.LNT_CNT_CFG_MU n c)))
      | 2 => s.elapsed - l.seqAt
      | _ => l.errFrames
    min (old + d) (2 ^ 32 - 1)
  else old

/-- A transition's condition word holds (R493). [log 67 DEDUCED] -/
def condHolds (s : State) (n hits : Nat) (w : Word) : Bool :=
  let m := bitsOf w.toNat 7 0
  let c := bitsOf w.toNat 14 13
  bitOf w.toNat 31 &&
    (m == 0 || (if bitOf w.toNat 8 then Nat.land hits m == m else Nat.land hits m != 0)) &&
    (!bitOf w.toNat 12 || decide (s.get (F.LNT_CNT_LIMIT_LIMIT n c) ≤ s.get (F.LNT_CNT_VALUE_VALUE n c)))

/-- TRIG (R496): TRIG_TT is latched, TRIGGERED sets, and frames in progress on taps whose match unit hit are flagged. -/
def lntTrigger (n hits : Nat) (s : State) : State :=
  let s := s.set64 (R.LNT_TRIG_TT n 0) (R.LNT_TRIG_TT n 1) s.tt.tt.toNat
  let s := s.set (F.LNT_STATUS_TRIGGERED n) 1
  forEach (List.range 4) (fun t s =>
    let hit := (List.range 8).any fun m => bitOf hits m && s.get (F.LNT_MU_CTRL_TAP n m) == t
    if hit then modTap n t (fun x => { x with frame := x.frame.map fun f => { f with trig := true } }) s else s) s

/-- A transition's action word is applied (R494 to R496); a capture that stops ends the loss episodes, but for that of a frame in
progress, which ends with it (R531). [log 67 DEDUCED] -/
def applyAction (n hits : Nat) (w : Word) (s : State) : State :=
  let s := s.set (F.LNT_STATUS_SEQ_STATE n) (bitsOf w.toNat 3 0)
  let s := forEach (maskBits 4 (bitsOf w.toNat 11 8)) (fun c s => s.set (F.LNT_CNT_VALUE_VALUE n c) 0) s
  let s := if bitOf w.toNat 12 then lntTrigger n hits s else s
  let s := if bitOf w.toNat 12 || bitOf w.toNat 13 then raise (65 + 4 * n) s else s
  let keep := fun b s => forEach (List.range 4) (fun t s =>
    let s := modTap n t (fun x => { x with keeping := b }) s
    if b || (s.tap n t).frame.isSome then s else endLoss n t (tapHead s n t).1 s) s
  match bitsOf w.toNat 5 4 with
  | 1 => lntEnter n 2 (keep true s)
  | 2 => lntEnter n 1 (keep false s)
  | _ => s

/-- SEQUENCER_TRANSITION (R492 to R497): one core cycle of the sequencer. [log 67 DEDUCED] -/
def execSequencerTransition (n : Fin 16) (s : State) : Out :=
  .next (
    let n := n.val
    if lntRuns s n then
      let vals := (List.range 4).map (counterNow s n)
      let hits := (s.lan n).cycleHits
      let s := forEach (List.range 4) (fun c s => s.set (F.LNT_CNT_VALUE_VALUE n c) (vals.getD c 0)) s
      let st := s.get (F.LNT_STATUS_SEQ_STATE n)
      let s := modLnt n (fun l => { l with
        cycleHits := 0, starts := 0, errFrames := 0, mhits := Vector.replicate 8 0, seqAt := s.elapsed }) s
      if condHolds s n hits (s.rd (R.LNT_SEQ_COND_A n st)) then applyAction n hits (s.rd (R.LNT_SEQ_ACT_A n st)) s
      else if condHolds s n hits (s.rd (R.LNT_SEQ_COND_B n st)) then applyAction n hits (s.rd (R.LNT_SEQ_ACT_B n st)) s
      else s
    else s)

/-! ### Start and stop -/

/-- A framing setting breaks its rule (R539). -/
def framingBad (s : State) (n : Nat) : Bool :=
  (List.range 4).any (fun t =>
    s.flag (F.LNT_TAP_CFG_EN n t) &&
      (let u := tapU s n t
       let c := s.get (F.LNT_TAP_LEN_CHUNK_LEN n t)
       let m := s.get (F.LNT_TAP_LEN_MAX_LEN n t)
       (!s.flag (F.LNT_TAP_CFG_FRAMING n t) && (c % u != 0 || c < 64 || 4096 < c)) || m < 64 || 16384 < m ||
       (s.flag (F.LNT_TAP_CFG_FRAMING n t) &&
         (s.get (F.LNT_MU_CTRL_TAP n (s.get (F.LNT_TAP_CFG_START_MU n t))) != t ||
          (s.flag (F.LNT_TAP_CFG_END_EN n t) &&
            s.get (F.LNT_MU_CTRL_TAP n (s.get (F.LNT_TAP_CFG_END_MU n t))) != t))))) ||
  (List.range 8).any (fun m =>
    s.flag (F.LNT_MU_CTRL_EN n m) && s.flag (F.LNT_MU_CTRL_ANCHOR n m) &&
      s.get (F.LNT_MU_CTRL_OFFSET n m) % tapU s n (s.get (F.LNT_MU_CTRL_TAP n m)) != 0) ||
  (s.get (F.LNT_CTRL_MODE n) == 2 && s.get (F.LNT_FILTER_HEAD_LEN n) == 0)

/-- An enable of the Lantern would be refused (R539). -/
def lntRefuses (s : State) (n : Nat) : Bool :=
  s.get (F.LNT_RING_SIZE_MIB n) == 0 || s.get (F.LNT_IDX_SIZE_SIZE n) == 0 || s.get (F.LNT_FIFO_SIZE n) == 0 ||
    !inExternal s (s.get (F.LNT_RING_BASE_MIB n) * 2 ^ 20) (ringSize s n) ||
    !inExternal s (s.get (F.LNT_IDX_BASE_BASE n) * 4096) (s.get (F.LNT_IDX_SIZE_SIZE n) * 4096) ||
    !stgAreaOn s (s.get (F.LNT_FIFO_BASE n)) (s.get (F.LNT_FIFO_SIZE n)) || framingBad s n

/-- The Lantern leaves Idle (R488, R498, R538): SEQ, TSC and the sequencer restart, a START record is written at WR_PTR,
and it is Armed. -/
def lntStart (n : Nat) (s : State) : State :=
  let wr := s.get64 (R.LNT_WR_PTR_LO n) (R.LNT_WR_PTR_HI n)
  let prev := (s.lan n).prevReset
  let s := modLnt n (fun _ => { LntS.init with
    layPos := wr, issuePos := wr, commitPos := wr, wrPos := wr, chunkDone := wr / 2 ^ 20, seqAt := s.elapsed }) s
  let s := s.set (F.LNT_STATUS_SEQ_STATE n) 0
  let s := forEach (List.range 4) (fun c s => s.set (F.LNT_CNT_VALUE_VALUE n c) 0) s
  let s := (s.set (F.LNT_CTRL_EN n) 1).set (F.LNT_STATUS_RING_FULL n) 0
  let s := if ringTakes s n 32 then
      layMarker n 3 s.tt.tt (leBytes 6 s.tt.lsc.toNat ++ [BitVec.ofNat 8 (s.get (F.LNT_CTRL_MODE n)),
        if prev then 1 else 0]) s
    else s.set (F.LNT_STATUS_RING_FULL n) 1
  lntEnter n 1 s

/-- The Lantern stops (R519, R529, R540): frames in progress end with TRUNC, loss episodes close, the STOP record and a
PAD to the line boundary are written, and it is Stopping. [log 61 DEDUCED] -/
def lntStop (n cause : Nat) (s : State) : State :=
  let s := s.set (F.LNT_CTRL_EN n) 0
  let s := forEach (List.range 4) (fun t s =>
    let s := drainWindow n t true 8 s
    let s := match (s.tap n t).frame with | some f => closeFrame n t f true s | none => s
    endLoss n t s.tt.tt s) s
  let s := layMarker n 4 s.tt.tt [BitVec.ofNat 8 cause] s
  let s := layPad n ((64 - (s.lan n).layPos % 64) % 64) s
  let s := modLnt n (fun l => { l with stopping := some cause, flushTo := l.layPos, partialOut := false }) s
  lntEnter n 3 s

/-- A write of EN (R200, R538, R539, R540); the cause is that of the STOP record. -/
def lntEnWrite (n : Nat) (en : Bool) (cause : Nat) (s : State) : State :=
  let st := lntState s n
  let down := st = 3 || s.rst.engines.contains n
  if en then
    if down then (s.set (F.LNT_CTRL_EN n) 1).set (F.LNT_STATUS_ENABLE_PENDING n) 1
    else if st = 0 then (if lntRefuses s n then s.set (F.LNT_STATUS_REFUSED n) 1 else lntStart n s)
    else s
  else if down then (s.set (F.LNT_CTRL_EN n) 0).set (F.LNT_STATUS_ENABLE_PENDING n) 0
  else if st = 1 ∨ st = 2 then lntStop n cause s
  else s

/-- PTR_RESET in Idle (R542). -/
def lntPtrReset (n : Nat) (s : State) : State :=
  let s := s.set64 (R.LNT_WR_PTR_LO n) (R.LNT_WR_PTR_HI n) 0
  let s := s.set64 (R.LNT_RD_PTR_LO n) (R.LNT_RD_PTR_HI n) 0
  (s.set (F.LNT_WRAPS_COUNT n) 0).set (F.LNT_IDX_PTR_ENTRY n) 0

/-- A write of LNTn_CTRL (R538, R541, R542). [log 7 DEDUCED, log 59 DEDUCED] -/
def lntCtrlWrite (n : Nat) (v : Word) (s : State) : State :=
  let old := s.rd (R.LNT_CTRL n)
  let s :=
    if lntState s n = 0 then
      let s := s.wr (R.LNT_CTRL n) ((v &&& 0x00011F30) ||| (old &&& 1))
      if (F.LNT_CTRL_PTR_RESET n).on v then lntPtrReset n s else s
    else if (old ^^^ v) &&& 0x00011F30 != 0 || (F.LNT_CTRL_PTR_RESET n).on v then s.set (F.LNT_STATUS_IGNORED n) 1
    else s
  lntEnWrite n ((F.LNT_CTRL_EN n).on v) 1 s

/-- A write of half of RD_PTR (R527, R534, R545): ring space is freed, and RING_FULL episodes end; what is left of a frame that is
being lost is accounted in an episode of its own (R19, R532). [log 60 DEDUCED] -/
def lntRdPtrWrite (n : Nat) (high : Bool) (v : Word) (s : State) : State :=
  let was := rdPtr s n
  let s := s.writeByAcc (if high then R.LNT_RD_PTR_HI n else R.LNT_RD_PTR_LO n) v
  if rdPtr s n = was then s
  else
  let s := s.set (F.LNT_STATUS_RING_FULL n) 0
  forEach (List.range 4) (fun t s =>
    match (s.tap n t).loss with
    | some e =>
      if e.cause = 2 then
        let h := tapHead s n t
        let s := endLoss n t h.1 s
        if (s.tap n t).frame.isSome then beginLoss n t (if storeBlock s n 0 = 1 then 1 else 2) h.1 h.2 s else s
      else s
    | none => s) s

/-- A write of another Lantern register (R541). [log 59 DEDUCED] -/
def lntOtherWrite (n a : Nat) (v : Word) (s : State) : State :=
  if a = R.LNT_STATUS n then s.writeByAcc a v
  else if lntState s n = 0 then s.writeByAcc a v
  else s.set (F.LNT_STATUS_IGNORED n) 1

/-- When TT steps, every running Lantern writes a STEP record (R78, R519). -/
def lntStepMarks (before after : TT64) (s : State) : State :=
  forEach (List.range 16) (fun n s =>
    if lntRuns s n && ringTakes s n 32 then layMarker n 5 before (leBytes 8 after.toNat) s else s) s

/-- A lane lost a lock: the taps that read it process what they have received, close their frames with ERR and begin a LANE
episode (R19, R503, R531, R545). -/
def lntLaneLost (lane : Nat) (s : State) : State :=
  forEach (List.range 16) (fun n s => forEach (List.range 4) (fun t s =>
    if lntRuns s n && s.flag (F.LNT_TAP_CFG_EN n t) && tapLane s n t = lane && !tapLocked s n t then
      let s := drainWindow n t true 8 s
      let s := match (s.tap n t).frame with
        | some f => closeFrame n t { f with err := true, cut := f.keep } false s
        | none => s
      if (s.tap n t).keeping && s.get (F.LNT_CTRL_MODE n) != 3 then
        beginLoss n t 3 s.tt.tt (s.tap n t).tsc s
      else s
    else s) s) s

/-- LANE_LOSS_OF_LOCK (R464, R468, R479): 0 CDR, 1 PCS, 2 FEC lock is lost. -/
def execLaneLossOfLock (n : Fin 64) (which : Fin 3) (s : State) : Out :=
  .next (lntLaneLost n.val (laneLossOfLock n.val which.val s))

/-! ### The ring -/

/-- LANTERN_FLUSH_TIMEOUT (R508, R520): closed records have waited FLUSH_US. -/
def execLanternFlushTimeout (n : Fin 16) (s : State) : Out :=
  .next (
    let n := n.val
    let l := s.lan n
    if lntRuns s n && l.fifoLen != 0 && decide (l.fifoSince + 1000 * s.get (F.LNT_RT_FLUSH_US n) ≤ s.elapsed) then
      let s := layPad n ((64 - l.layPos % 64) % 64) s
      modLnt n (fun l => { l with flushTo := l.layPos }) s
    else s)

/-- The index entry of a chunk (R528, R529). [log 66 DEDUCED] -/
def indexEntry (s : State) (n chunk : Nat) (partialEntry : Bool) : List Byte :=
  let rs := (s.lan n).placed.filter fun p => p.off / 2 ^ 20 == chunk
  let real := rs.filter fun p => p.kind != 6
  let flag := fun k => b2n (rs.any fun p => p.kind == k)
  leBytes 8 ((real.head?.map fun p => p.tt.toNat).getD 0) ++ leBytes 8 ((real.getLast?.map fun p => p.tt.toNat).getD 0) ++
    leBytes 4 (chunk % s.get (F.LNT_RING_SIZE_MIB n)) ++
    leBytes 4 ((rs.head?.map fun p => p.off % 2 ^ 20).getD 0xFFFFFFFF) ++
    leBytes 2 ((rs.head?.map Placed.seq).getD 0) ++
    [BitVec.ofNat 8 (flag 2 + 2 * b2n (rs.any Placed.trig) + 4 * flag 5 + 8 * b2n partialEntry + 16 * flag 3), 0] ++
    leBytes 4 (s.get (F.LNT_WRAPS_COUNT n))

/-- Write the index entry of a chunk at the index ring's next place (R528). -/
def issueIndex (n chunk : Nat) (partialEntry : Bool) (s : State) : State :=
  let ahead := ((s.lan n).bursts.filter LntBurst.index).length
  let entries := s.get (F.LNT_IDX_SIZE_SIZE n) * 128
  let k := (s.get (F.LNT_IDX_PTR_ENTRY n) + ahead) % entries
  let e := indexEntry s n chunk partialEntry
  let id := s.bb.nextId
  let s := modLnt n (fun l => { l with
    bursts := l.bursts ++ [⟨id, chunk, 32, true, false⟩]
    placed := if partialEntry then l.placed else l.placed.filter fun p => p.off / 2 ^ 20 != chunk
    chunkDone := if partialEntry then l.chunkDone else chunk + 1 }) s
  bbIssue (16 + n) true (s.get (F.LNT_IDX_BASE_BASE n) * 4096 + 32 * k) e 32
    (s.deadlineIn (s.get (F.LNT_RT_SLACK_NS n))) (.lantern n) s

/-- How far the committed spans reach from a position, by fuel. [log 64 DEDUCED] -/
def reachFrom (spans : List (Nat × Nat)) : Nat → Nat → Nat
  | 0, p => p
  | k + 1, p => match spans.find? (fun x => x.1 == p) with
    | some x => reachFrom spans k (p + x.2)
    | none => p

/-- WR_PTR and WRAPS follow the last committed record (R522 to R524), LOSS records are reported (R544), and a crossed
1 MiB boundary writes an index entry (R528). [log 64 DEDUCED] -/
def advanceWr (n : Nat) (s : State) : State :=
  let l := s.lan n
  let size := ringSize s n
  let reach := reachFrom l.acked l.acked.length l.commitPos
  let done := l.placed.filter fun p => decide (l.wrPos < p.off + p.len ∧ p.off + p.len ≤ reach)
  let wr := done.foldl (fun a p => max a (p.off + p.len)) l.wrPos
  let s := modLnt n (fun l => { l with
    sent := l.sent.drop (wr - l.wrPos), commitPos := reach, acked := l.acked.filter (fun x => decide (reach ≤ x.1)), wrPos := wr }) s
  let s := s.set64 (R.LNT_WR_PTR_LO n) (R.LNT_WR_PTR_HI n) (wr % size)
  let s := s.addWrap (F.LNT_WRAPS_COUNT n) (wr / size - l.wrPos / size)
  let s := forEach (done.filter fun p => p.kind == 2) (fun _ s =>
    raise (66 + 4 * n) (s.set (F.LNT_STATUS_LOSS n) 1)) s
  if (s.lan n).chunkDone < wr / 2 ^ 20 then issueIndex n (s.lan n).chunkDone false s else s

/-- At a stop, once every ring burst is out of the way, the PARTIAL index entry is written (R529, R540). [log 66 DEDUCED] -/
def stopIndex (n : Nat) (s : State) : State :=
  let l := s.lan n
  if l.stopping.isSome && l.fifoLen == 0 && !l.partialOut && l.bursts.all LntBurst.index then
    modLnt n (fun l => { l with partialOut := true }) (issueIndex n (l.wrPos / 2 ^ 20) true s)
  else s

/-- The first finished burst of a Lantern, ring or index, with the wanted outcome. -/
def finishedBurst (s : State) (n : Nat) (index ok : Bool) : Option LntBurst :=
  (s.lan n).bursts.find? fun b => b.index == index &&
    (match doneStatus s b.id with | some st => (st == .ok) == ok | none => false)

/-- A burst is taken off a Lantern's list and its answer consumed. -/
def dropBurst (n : Nat) (b : LntBurst) (s : State) : State :=
  modLnt n (fun l => { l with bursts := l.bursts.erase b }) (dropDone b.id s)

/-- Lay a record again that was laid out before, with the bytes it has (R523, R535). [log 64 DEDUCED] -/
def layOld (n : Nat) (b : List Byte) (p : Placed) (s : State) : State :=
  let rest := ringSize s n - (s.lan n).layPos % max 1 (ringSize s n)
  let s := if rest < b.length then layPad n rest s else s
  let q := (s.lan n).seq
  modLnt n (fun l => { l with
      seq := q, placed := l.placed.dropLast ++ (l.placed.getLast?.map fun x => { x with seq := p.seq }).toList })
    (layBytes n b p s)

/-- The WRITE_ERR episodes of records that could not be written, a LOSS record for each tap (R19, R518, R535). `kept` are the
records that are laid again. [log 64 DEDUCED] -/
def layLost (n : Nat) (lost kept : List Placed) (s : State) : State :=
  forEach (List.range 4) (fun t s =>
    let mine := lost.filter fun p => (p.kind == 1 || p.kind == 2) && p.tap == t
    match mine.head? with
    | some p =>
      let e : Episode :=
        ⟨4, p.tt, p.tsc, (mine.map Placed.symbols).sum, (mine.map Placed.frames).sum, (mine.map Placed.bytes).sum⟩
      let next := kept.find? fun p => p.kind == 1 && p.tap == t
      layLoss n t 4 false e (match next with | some q => q.tt | none => (tapHead s n t).1) e.symbols s
    | none => s) s

/-- Records are lost that overlap the given spans of ring positions (R535, R785): WR_PTR passes only committed records, so what is
laid out behind it and not lost is laid out again, behind the LOSS records. Bursts on their way count for nothing.
[log 64 DEDUCED] -/
def loseSpans (n : Nat) (spans : List (Nat × Nat)) (s : State) : State :=
  let l := s.lan n
  let ((fifo, bad), s) := fifoGet n l.issuePos l.fifoLen s
  let spans := spans ++ bad.map fun p => (p, 8)
  let open_ := l.placed.filter fun p => decide (l.wrPos < p.off + p.len) && p.kind != 6
  let gone := fun (p : Placed) => spans.any fun x => decide (x.1 < p.off + p.len ∧ p.off < x.1 + x.2)
  let bytes := fun (p : Placed) => ((l.sent ++ fifo).drop (p.off - l.wrPos)).take p.len
  let kept := open_.filter (!gone ·)
  let s := modLnt n (fun l => { l with
    sent := [], again := [], issuePos := l.wrPos, layPos := l.wrPos, commitPos := l.wrPos, acked := []
    bursts := l.bursts.map fun b => if b.index then b else { b with void := true }
    placed := l.placed.filter fun p => decide (p.off + p.len ≤ l.wrPos) }) s
  let s := forEach kept (fun p => layOld n (bytes p) p) (layLost n (open_.filter gone) kept s)
  let s := if l.stopping.isSome then layPad n ((64 - (s.lan n).layPos % 64) % 64) s else s
  updatePanic n (modLnt n (fun x => { x with flushTo := if l.issuePos < l.flushTo then x.layPos else x.flushTo }) s)

/-- The bytes a burst takes now (R507, R508): up to the next 256-byte boundary when the FIFO reaches it, or what a flush
asks for. -/
def burstLen (l : LntS) : Nat :=
  let room := 256 - l.issuePos % 256
  if !l.again.isEmpty || l.bursts.any LntBurst.void then 0
  else if room ≤ l.fifoLen then room
  else if l.issuePos < l.flushTo then min l.fifoLen (l.flushTo - l.issuePos)
  else 0

/-- LANTERN_BURST_ISSUE (R507, R509, R510, R785): closed records leave the FIFO in a burst; records with a word that cannot be read
become a WRITE_ERR episode. -/
def execLanternBurstIssue (n : Fin 16) (s : State) : Out :=
  .next (
    let n := n.val
    let l := s.lan n
    let k := burstLen l
    if s.works && k != 0 && ringSize s n != 0 then
      let ((data, bad), s') := fifoGet n l.issuePos k s
      if bad.isEmpty then
        let id := s'.bb.nextId
        let s := modLnt n (fun l => { l with
          sent := l.sent ++ data, issuePos := l.issuePos + k, fifoSince := s.elapsed
          bursts := l.bursts ++ [⟨id, l.issuePos, k, false, false⟩] }) s'
        let a := s.get (F.LNT_RING_BASE_MIB n) * 2 ^ 20 + l.issuePos % ringSize s n
        bbIssue (16 + n) true a data k (s.deadlineIn (s.get (F.LNT_RT_SLACK_NS n))) (.lantern n) (updatePanic n s)
      else loseSpans n [] s
    else s)

/-- LANTERN_BURST_COMMIT (R523, R528): a committed ring burst advances WR_PTR. -/
def execLanternBurstCommit (n : Fin 16) (s : State) : Out :=
  .next (match finishedBurst s n.val false true with
    | some b =>
      let s := dropBurst n.val b s
      let s := if b.void then s else modLnt n.val (fun l => { l with acked := l.acked ++ [(b.off, b.len)], fails := 0 }) s
      stopIndex n.val (advanceWr n.val s)
    | none => s)

/-- IDX_PTR goes on to the next entry, round the index ring (R528). -/
def nextIndex (n : Nat) (s : State) : State :=
  let k := s.get (F.LNT_IDX_PTR_ENTRY n) + 1
  s.set (F.LNT_IDX_PTR_ENTRY n) (if s.get (F.LNT_IDX_SIZE_SIZE n) * 128 ≤ k then 0 else k)

/-- LANTERN_INDEX_COMMIT (R528, R530): the index entry and its records are committed; the chunk event is raised.
[log 66 DEDUCED] -/
def execLanternIndexCommit (n : Fin 16) (s : State) : Out :=
  .next (match finishedBurst s n.val true true with
    | some b => raise (64 + 4 * n.val) (nextIndex n.val (dropBurst n.val b s))
    | none => s)

/-- An index burst has failed: its place in the index ring is passed over. [log 66 DEDUCED] -/
def indexFailed (n : Nat) (s : State) : State :=
  match finishedBurst s n true false with
  | some b => stopIndex n (nextIndex n (raise (67 + 4 * n) ((dropBurst n b s).set (F.LNT_STATUS_WR_ERR n) 1)))
  | none => s

/-- LANTERN_BURST_ERROR (R535, R544): WR_ERR sets, the records of the burst become a WRITE_ERR episode, and the fourth
failure in a row stops the Lantern. [log 64 DEDUCED] -/
def execLanternBurstError (n : Fin 16) (s : State) : Out :=
  .next (match finishedBurst s n.val false false with
    | some b =>
      let n := n.val
      let s := dropBurst n b s
      if b.void then stopIndex n s
      else
        let s := raise (67 + 4 * n) (s.set (F.LNT_STATUS_WR_ERR n) 1)
        let s := loseSpans n [(b.off, b.len)] (modLnt n (fun l => { l with fails := l.fails + 1 }) s)
        if 4 ≤ (s.lan n).fails && lntRuns s n then lntStop n 3 s else stopIndex n s
    | none => indexFailed n.val s)

/-- LANTERN_STOP_COMPLETE (R200, R540): everything is committed; the Lantern is Idle, and a held enable is applied. -/
def execLanternStopComplete (n : Fin 16) (s : State) : Out :=
  .next (
    let n := n.val
    let l := s.lan n
    if lntState s n = 3 && l.fifoLen == 0 && l.bursts.isEmpty && l.partialOut then
      let s := modLnt n (fun l => { l with stopping := none }) (lntEnter n 0 s)
      if s.flag (F.LNT_STATUS_ENABLE_PENDING n) then
        lntEnWrite n true 1 ((s.set (F.LNT_STATUS_ENABLE_PENDING n) 0).set (F.LNT_CTRL_EN n) 0)
      else s
    else s)

/-! ### Register commands -/

/-- LANTERN_ENABLE (R538, R539): LNTn_CTRL written with EN 1. -/
def execLanternEnable (p : Partner) (n : Fin 16) (v : Word) (s : State) : Out :=
  .next (viaPartner p (R.LNT_CTRL n.val) (lntCtrlWrite n.val (v ||| 1)) s)

/-- LANTERN_DISABLE (R540): LNTn_CTRL written with EN 0. -/
def execLanternDisable (p : Partner) (n : Fin 16) (v : Word) (s : State) : Out :=
  .next (viaPartner p (R.LNT_CTRL n.val) (lntCtrlWrite n.val (v &&& 0xFFFFFFFE)) s)

/-- LANTERN_RD_PTR_WRITE (R527). -/
def execLanternRdPtrWrite (p : Partner) (n : Fin 16) (high : Bool) (v : Word) (s : State) : Out :=
  .next (viaPartner p (R.LNT_RD_PTR_LO n.val) (lntRdPtrWrite n.val high v) s)

/-- PTR_RESET (R542). [log 7 DEDUCED] -/
def execPtrReset (p : Partner) (n : Fin 16) (v : Word) (s : State) : Out :=
  .next (viaPartner p (R.LNT_CTRL n.val) (lntCtrlWrite n.val ((v ||| 0x20000) &&& 0xFFFFFFFE)) s)

/-- A read of BYTES_LO latches the high half (R546). -/
def lntBytesRead (n t : Nat) (s : State) : Word × State :=
  (s.rd (R.LNT_TAP_BYTES_LO n t),
    modTap n t (fun x => { x with bytesHi := (s.rd (R.LNT_TAP_BYTES_HI n t)).setWidth 16 }) s)

/-- LANTERN_BYTES_READ (R546). -/
def execLanternBytesRead (p : Partner) (n : Fin 16) (tap : Fin 4) (s : State) : Out :=
  .next (viaPartnerRead p (R.LNT_TAP_BYTES_LO n.val tap.val) (lntBytesRead n.val tap.val) s)

/-- The state of a Lantern after an Engine reset (R197, R543); a held enable is applied (R199, R200). [log 64 DEDUCED] -/
def resetLantern (n : Nat) (s : State) : State :=
  let ran := lntState s n != 0 || (s.lan n).prevReset
  let pend := s.flag (F.LNT_STATUS_ENABLE_PENDING n)
  let s := { s with
    regs := restoreIn (R.LNT_CTRL n) (R.LNT_CTRL n + 0xFFFF) (fun (x : Scope) => x == Scope.eng) s.regs
    bb := { s.bb with done := s.bb.done.filter (fun (x : Reply) => x.origin != Origin.lantern n) } }
  let s := modLnt n (fun _ => { LntS.init with prevReset := ran }) (s.set (F.LNT_STATUS_ENABLE_PENDING n) 0)
  if pend then lntEnWrite n true 1 s else s

end Sys2Proof.Machine
end

