-- ==== Sys2Proof/Machine/Beacon.lean ====
section
/-!
DEFINITION. Sys2Proof/Machine/Beacon.lean: the Beacon pattern engines (11_beacons_schedule.md, R547 to R576): programs and
their segments, starting, passes, jumps, stopping, and streaming from external memory.
-/

namespace Sys2Proof.Machine

/-- A Beacon beside its registers. -/
def State.bcnOf (s : State) (n : Nat) : BcnS := vget s.bcn (finOf 15 n)

/-- Change a Beacon beside its registers. -/
def modBcn (n : Nat) (f : BcnS → BcnS) (s : State) : State :=
  { s with bcn := vset s.bcn (finOf 15 n) (f (s.bcnOf n)) }

/-- STATE (R555): 0 IDLE, 1 LOADING, 2 READY, 3 PLAYING, 4 STOPPING. -/
def bcnState (s : State) (n : Nat) : Nat := s.get (F.BCN_STATUS_STATE n)

/-- A Beacon enters a state (R612). -/
def bcnEnter (n st : Nat) (s : State) : State := raise (128 + 2 * n) (s.set (F.BCN_STATUS_STATE n) st)

/-! ### Programs (R547 to R554) -/

/-- A segment descriptor (R552). -/
structure Seg where
  stream : Bool
  last : Bool
  jumpEn : Bool
  jumpAtEnd : Bool
  evtStart : Bool
  next : Nat
  line : Nat
  target : Nat
  loops : Nat
  units : Nat
  addr : Nat
deriving DecidableEq, Repr

/-- Descriptor `g` of a program table. -/
def segAt (prog : List Byte) (g : Nat) : Seg :=
  let b := fun i n => leAt prog (32 * g + i) n
  let f := b 0 1
  { stream := bitOf f 0, last := bitOf f 1, jumpEn := bitOf f 2, jumpAtEnd := bitOf f 3, evtStart := bitOf f 4
    next := b 1 1 % 64, line := b 2 1 % 8, target := b 3 1 % 64, loops := b 4 4, units := b 8 4, addr := b 16 6 }

/-- The lanes that LANES names (R547). -/
def bcnLanes (s : State) (n : Nat) : List Nat := (maskBits 4 (s.get (F.BCN_CTRL_LANES n))).map (4 * n + ·)

/-- The lane whose settings the program follows (R548). -/
def bcnLane (s : State) (n : Nat) : Nat := (bcnLanes s n).headD (4 * n)

/-- The bytes of a unit (R485, R548). -/
def bcnU (s : State) (n : Nat) : Nat := unitSize false (s.get (F.XCV_CFG_PCS (bcnLane s n)))

/-- The bytes of data for one unit on each named lane (R549). -/
def unitBytes (s : State) (n : Nat) : Nat :=
  bcnU s n * (if s.flag (F.BCN_CTRL_DIST n) then (bcnLanes s n).length else 1)

/-- The bytes of a pass. -/
def passBytes (s : State) (n : Nat) (g : Seg) : Nat := g.units * unitBytes s n

/-- The bytes of a pass in whole lines (R570). -/
def passLines (s : State) (n : Nat) (g : Seg) : Nat := (passBytes s n g + 63) / 64 * 64

/-- Line bits of the Beacon's lanes in a millisecond. [log 68 DEDUCED] -/
def lineRate (s : State) (n : Nat) : Nat :=
  let l := bcnLane s n
  s.get (F.XCV_RATE_BAUD_KBD l) * (if s.flag (F.XCV_CFG_MOD l) then 2 else 1)

/-- Units that have ended a time after the start, in 1/64 ns of the lanes' transmit clock. [log 68 DEDUCED] -/
def unitsIn (s : State) (n t : Nat) : Nat := t * lineRate s n / (64000000 * unitBits s (bcnLane s n))

/-- The time after the start, in 1/64 ns, at which `u` units have ended. [log 68 DEDUCED] -/
def unitTime (s : State) (n u : Nat) : Nat :=
  if lineRate s n = 0 then 0 else (u * (64000000 * unitBits s (bcnLane s n)) + lineRate s n - 1) / lineRate s n

/-- A segment of a program is bad by itself (R554). -/
def segBad (s : State) (n : Nat) (prog : List Byte) (k : Nat) : Bool :=
  let g := segAt prog k
  g.units == 0 ||
    (if g.stream then !inExternal s g.addr (passLines s n g)
      else decide (g.addr < 0x820) || decide (65536 * s.get (F.BCN_PMEM_SIZE n) < g.addr + passBytes s n g)) ||
    (g.jumpEn && (segAt prog g.target).stream)

/-- The segments that a segment leads to. -/
def segNexts (prog : List Byte) (k : Nat) : List Nat :=
  let g := segAt prog k
  (if g.last then [] else [g.next]) ++ (if g.jumpEn then [g.target] else [])

/-- The segments reached from those seen, by fuel. -/
def reachable (prog : List Byte) : Nat → List Nat → List Nat → List Nat
  | 0, _, seen => seen
  | _, [], seen => seen
  | f + 1, k :: todo, seen =>
    if seen.contains k then reachable prog f todo seen else reachable prog f (segNexts prog k ++ todo) (k :: seen)

/-- The program is bad (R554). -/
def programBad (s : State) (n : Nat) (prog : List Byte) : Bool :=
  (reachable prog 256 [s.get (F.BCN_CTRL_START_SEG n)] []).any (segBad s n prog)

/-- The segment that plays, or will first. -/
def curSeg (s : State) (n : Nat) : Seg := segAt (s.bcnOf n).prog (s.get (F.BCN_STATUS_SEG n))

/-! ### Where a program stands (R558, R573) -/

/-- Unit slots that have ended since Playing began. [log 68 DEDUCED] -/
def slotsNow (s : State) (n : Nat) : Nat := unitsIn s n (s.bcnOf n).ran

/-- Program units of the current pass that have been sent when slot `b` begins: those whose slots have passed, and at least those
whose data has left the stream buffer. -/
def playedBy (s : State) (n b : Nat) : Nat :=
  let x := s.bcnOf n
  max (min (b - x.base - x.late) (curSeg s n).units)
    (if (curSeg s n).stream then (x.used - x.segPos) / unitBytes s n else 0)

/-- The slot with which the current pass ends. -/
def passEnd (s : State) (n : Nat) : Nat := (s.bcnOf n).base + (curSeg s n).units + (s.bcnOf n).late

/-- Stream bytes, by position, that have been used. -/
def usedTo (s : State) (n : Nat) : Nat :=
  let b := s.bcnOf n
  if bcnState s n = 3 && (curSeg s n).stream then b.segPos + playedBy s n (slotsNow s n) * unitBytes s n else b.used

/-- Bytes in the stream buffer (R571). -/
def bufLevel (s : State) (n : Nat) : Nat := (s.bcnOf n).used + (s.bcnOf n).buf.length - usedTo s n

/-- BCNn_UNITS (R611). [log 71 DEDUCED] -/
def unitsSent (s : State) (n : Nat) : Nat :=
  ((s.bcnOf n).sent + (if bcnState s n = 3 then playedBy s n (slotsNow s n) else 0)) % 2 ^ 48

/-! ### Streaming (R570 to R574) -/

/-- PANIC follows the buffer while a stream is read or played (R571). -/
def bcnPanic (n : Nat) (s : State) : State :=
  let st := bcnState s n
  let streaming := (1 ≤ st && st ≤ 3) && ((s.bcnOf n).streamSeg.isSome || (st == 3 && (curSeg s n).stream))
  if !streaming then s.set (F.BCN_STATUS_PANIC n) 0
  else if bufLevel s n ≤ 1024 * s.get (F.BCN_PANIC_PANIC_LO n) then s.set (F.BCN_STATUS_PANIC n) 1
  else if 1024 * s.get (F.BCN_PANIC_PANIC_HI n) ≤ bufLevel s n then s.set (F.BCN_STATUS_PANIC n) 0
  else s

/-- Bytes that have been used leave the buffer. -/
def bcnTrim (n : Nat) (s : State) : State :=
  let u := usedTo s n
  bcnPanic n (modBcn n (fun b => { b with buf := b.buf.drop (u - b.used), used := max b.used (min u (b.used + b.buf.length)) }) s)

/-- The stream under way is given up: its data and its bursts are dropped. -/
def dropStream (n : Nat) (s : State) : State :=
  modBcn n (fun b => { b with buf := [], used := b.next, segPos := b.next, streamSeg := none, out := [] }) s

/-- Reading of a segment begins (R556, R572). -/
def openStream (n g : Nat) (s : State) : State :=
  modBcn n (fun b => { b with streamSeg := some g, streamPass := 0, streamOff := 0 }) s

/-- The next burst of the stream (R570): its address and length. -/
def nextBurst (s : State) (n : Nat) : Option (Nat × Nat) :=
  let b := s.bcnOf n
  match b.streamSeg with
  | some g =>
    let d := segAt b.prog g
    if d.loops != 0 && decide (d.loops ≤ b.streamPass) then none
    else
      let a := d.addr + b.streamOff
      some (a, min (256 - a % 256) (passLines s n d - b.streamOff))
  | none => none

/-- Buffer space for a burst is free (R570). -/
def burstRoom (s : State) (n len : Nat) : Bool := decide ((s.bcnOf n).next + len ≤ usedTo s n + 65536)

/-- A segment read to its end, in its last pass, gives way to a STREAM segment that follows (R572). -/
def streamOnward (n : Nat) (s : State) : State :=
  let b := s.bcnOf n
  let d := curSeg s n
  if bcnState s n = 3 && b.streamSeg == some (s.get (F.BCN_STATUS_SEG n)) && (nextBurst s n).isNone && !d.last &&
      d.loops == b.pass + 1 && (segAt b.prog d.next).stream then
    openStream n d.next s
  else s

/-- A burst goes out (R570). -/
def issueBurst (n : Nat) (s : State) : State :=
  let s := streamOnward n (bcnTrim n s)
  match nextBurst s n with
  | some (a, len) =>
    if burstRoom s n len then
      let id := s.bb.nextId
      let b := s.bcnOf n
      let total := passLines s n (segAt b.prog (b.streamSeg.getD 0))
      let s := modBcn n (fun b => { b with
        out := b.out ++ [(id, len)], next := b.next + len
        streamOff := if total ≤ b.streamOff + len then 0 else b.streamOff + len
        streamPass := if total ≤ b.streamOff + len then b.streamPass + 1 else b.streamPass }) s
      bbIssue (32 + n) false a [] len (s.deadlineIn (s.get (F.BCN_RT_SLACK_NS n))) (.beacon n) s
    else s
  | none => s

/-- UNDERRUN sets for a number of units; the first unit since the last clear is latched (R573). [log 71 DEDUCED] -/
def underrun (n units : Nat) (at_ : TT64) (s : State) : State :=
  let s := if s.flag (F.BCN_STATUS_UNDERRUN n) then s
    else s.set64 (R.BCN_UNDERRUN_TT n 0) (R.BCN_UNDERRUN_TT n 1) at_.toNat
  raise (129 + 2 * n) ((s.addWrap (F.BCN_UNDERRUNS_COUNT n) units).set (F.BCN_STATUS_UNDERRUN n) 1)

/-- The TT at which a slot began, or now where it has not. -/
def slotTt (s : State) (n b : Nat) : TT64 := ttAdd s.tt.tt (-(((s.bcnOf n).ran - unitTime s n b : Nat) : Int))

/-- Units of the pass whose slots begin before slot `b` and whose data had not arrived then (R573): each slot is filled and the
rest is shifted. [log 71 DEDUCED] -/
def catchUnderrunTo (n b : Nat) (s : State) : State :=
  let s := bcnTrim n s
  let x := s.bcnOf n
  let d := curSeg s n
  if bcnState s n = 3 && d.stream then
    let have_ := (x.used + x.buf.length - x.segPos) / unitBytes s n
    let due := min (b - x.base - x.late) d.units
    if have_ < due then underrun n (due - have_) (slotTt s n (x.base + x.late + have_)) (modBcn n (fun x => { x with late := x.late + (due - have_) }) s) else s
  else s

/-- The same up to the slot that is being sent. -/
def catchUnderrun (n : Nat) (s : State) : State := catchUnderrunTo n (slotsNow s n + 1) s

/-- A burst's answer has come: its data enters the buffer. -/
def takeBurst (n : Nat) (data : List Byte) (s : State) : State :=
  bcnTrim n (modBcn n (fun b => { b with buf := b.buf ++ data, out := b.out.drop 1 }) (catchUnderrun n s))

/-- Units with a byte in a span of a pass. -/
def unitsUnder (ub lo len : Nat) : Nat := if ub = 0 then 0 else (lo + len - 1) / ub + 1 - lo / ub

/-- Answers to bursts are taken in their order while they are good; those nobody waits for are dropped. -/
def bcnAnswers (n : Nat) (s : State) : State :=
  let mine := (s.bcnOf n).out.map (·.1)
  let s := { s with bb := { s.bb with done := s.bb.done.filter fun x => match x.origin with
    | .beacon m => m != n || mine.contains x.id
    | _ => true } }
  forEach (s.bcnOf n).out (fun o s =>
    match (s.bcnOf n).out with
    | (id, len) :: _ =>
      if id = o.1 && doneStatus s id == some .ok then
        takeBurst n (padTo len (doneData s id)) (dropDone id (modBcn n (fun b => { b with fails := 0 }) s))
      else s
    | [] => s) s

/-! ### Loading, starting, ending (R553 to R562) -/

/-- The pattern area in Staging SRAM. -/
def bcnArea (s : State) (n : Nat) : Nat := 65536 * s.get (F.BCN_PMEM_BASE n)

/-- Bytes of the pattern area; a word that cannot be read gives free values. [log 69 DEDUCED] -/
def areaBytes (n off len : Nat) (s : State) : List Byte × State :=
  match stgReadSpan (bcnArea s n + off) len s with
  | (some b, s) => (b, s)
  | (none, s) => (leBytes len s.free, s.draw)

/-- Loading is entered (R553, R554, R556, R559): the program is copied and checked, and a STREAM start segment is read.
[log 69 DEDUCED] -/
def bcnLoad (n : Nat) (s : State) : State :=
  let s := dropStream n (bcnEnter n 1 s)
  let (prog, s) := areaBytes n 0 2048 s
  let (fill, s) := areaBytes n 0x800 (bcnU s n) s
  let s := modBcn n (fun b => { b with prog := prog, fill := fill, pass := 0, late := 0, base := 0, badSeen := [] }) s
  if programBad s n prog then
    let s := (s.set (F.BCN_STATUS_BAD_PROGRAM n) 1).set (F.BCN_STATUS_REFUSED n) 1
    bcnEnter n 0 (modBcn n (fun b => { b with held := none }) (s.set (F.BCN_CTRL_EN n) 0))
  else
    let g := s.get (F.BCN_CTRL_START_SEG n)
    bcnPanic n (if (segAt prog g).stream then openStream n g s else s)

/-- A pass of the current segment begins (R552, R572). -/
def passStart (n : Nat) (s : State) : State :=
  let d := curSeg s n
  let s := modBcn n (fun b => { b with badSeen := [] }) s
  let s := if d.evtStart then raise (129 + 2 * n) s else s
  let b := s.bcnOf n
  if !d.stream && !d.last && d.loops == b.pass + 1 && (segAt b.prog d.next).stream then
    openStream n d.next (dropStream n s)
  else streamOnward n s

/-- A segment is entered; its passes are fresh. [log 70 DEDUCED] -/
def enterSeg (n g : Nat) (s : State) : State :=
  let s := s.set (F.BCN_STATUS_SEG n) g
  bcnPanic n (passStart n (modBcn n (fun b => { b with pass := 0, late := 0 }) s))

/-- Playing begins (R557, R575, R576): the first symbol leaves at `t`. -/
def bcnPlay (n : Nat) (t : TT64) (late : Bool) (s : State) : State :=
  let s := s.set64 (R.BCN_START_TT n 0) (R.BCN_START_TT n 1) t.toNat
  let s := if late then s.set (F.BCN_STATUS_LATE_START n) 1 else s
  let s := modBcn n (fun b => { b with
    ran := 0, base := 0, late := 0, lineAt := Vector.replicate 8 none, held := none }) s
  let s := forEach (bcnLanes s n) (fun m => modLane m (fun x => { x with txRem := 0, txQueue := [] })) s
  enterSeg n (s.get (F.BCN_CTRL_START_SEG n)) (bcnEnter n 3 s)

/-- What became of an action on a target (R590), worst last. -/
inductive Fate where
  | onTime | late | skipped | noTarget
deriving DecidableEq, Repr

/-- The code of a RESULT (R577). -/
def Fate.code : Fate → Nat
  | .onTime => 1 | .late => 2 | .skipped => 3 | .noTarget => 4

/-- A start reaches the Beacon (R557, R565, R589): a Ready one plays, one in Loading holds it or skips it. -/
def bcnStartReq (n : Nat) (t : TT64) (entry : Option Nat) (skip late : Bool) (s : State) : Fate × State :=
  match bcnState s n with
  | 2 => (if late then .late else .onTime, bcnPlay n t false s)
  | 1 =>
    if skip then (.skipped, s)
    else (.late, modBcn n (fun b => { b with held := some (entry, entry.isSome) }) s)
  | _ => (.noTarget, s)

/-- The program ends at slot `b` (R559). [log 70 DEDUCED] -/
def programEnd (n b : Nat) (s : State) : State :=
  let s := catchUnderrunTo n b s
  let played := playedBy s n b
  bcnLoad n (modBcn n (fun x => { x with sent := x.sent + played }) s)

/-- A stop (R561): Playing ends at the next unit boundary. [log 72 DEDUCED] -/
def bcnStopReq (n : Nat) (s : State) : Fate × State :=
  if bcnState s n = 3 then
    (.onTime, programEnd n (if unitTime s n (slotsNow s n) = (s.bcnOf n).ran then slotsNow s n else slotsNow s n + 1) s)
  else (.noTarget, s)

/-- EN changes to 0 (R562). [log 72 DEDUCED] -/
def bcnDisable (n : Nat) (s : State) : State :=
  let s := s.set (F.BCN_CTRL_EN n) 0
  let played := if bcnState s n = 3 then playedBy (catchUnderrun n s) n (slotsNow s n + 1) else 0
  let s := dropStream n (modBcn n (fun x => { x with sent := x.sent + played, held := none }) (catchUnderrun n s))
  bcnPanic n (bcnEnter n 4 s)

/-- An enable would be refused (R564). -/
def bcnRefuses (s : State) (n : Nat) : Bool :=
  let l := bcnLanes s n
  s.get (F.BCN_PMEM_SIZE n) == 0 || l.isEmpty || !stgAreaOn s (s.get (F.BCN_PMEM_BASE n)) (s.get (F.BCN_PMEM_SIZE n)) ||
    l.any (fun m => !lanesAgree s (bcnLane s n) m)

/-- A write of EN (R200, R556, R562, R564). -/
def bcnEnWrite (n : Nat) (en : Bool) (s : State) : State :=
  let st := bcnState s n
  let down := st = 4 || s.rst.engines.contains (16 + n)
  if en then
    if down then (s.set (F.BCN_CTRL_EN n) 1).set (F.BCN_STATUS_ENABLE_PENDING n) 1
    else if st = 0 then
      if bcnRefuses s n then s.set (F.BCN_STATUS_REFUSED n) 1 else bcnLoad n (s.set (F.BCN_CTRL_EN n) 1)
    else s
  else if down then (s.set (F.BCN_CTRL_EN n) 0).set (F.BCN_STATUS_ENABLE_PENDING n) 0
  else if st = 0 then s
  else bcnDisable n s

/-- A write of BCNn_CTRL (R563). [log 7 DEDUCED] -/
def bcnCtrlWrite (n : Nat) (v : Word) (s : State) : State :=
  let old := s.rd (R.BCN_CTRL n)
  let s :=
    if bcnState s n = 0 then s.wr (R.BCN_CTRL n) ((v &&& 0x003F07F0) ||| (old &&& 1))
    else if (old ^^^ v) &&& 0x003F07F0 != 0 then s.set (F.BCN_STATUS_IGNORED n) 1
    else s
  bcnEnWrite n ((F.BCN_CTRL_EN n).on v) s

/-- BCNn_CMD (R557, R561, R565): a held CMD.START is applied at Ready. [log 72 DEDUCED] -/
def bcnCmdWrite (n : Nat) (v : Word) (s : State) : State :=
  let s := whenB ((F.BCN_CMD_START n).on v) (fun s => (bcnStartReq n s.tt.tt none false false s).2) s
  whenB ((F.BCN_CMD_STOP n).on v) (fun s => (bcnStopReq n s).2) s

/-! ### Jump lines (R567, R568) -/

/-- Set jump line `k`. -/
def setJumpLine (n k : Nat) (s : State) : State :=
  modBcn n (fun b =>
    let i := finOf 7 k
    { b with lineAt := vset b.lineAt i (some ((vget b.lineAt i).getD b.ran)) }) s

/-- A write of BCNn_JUMP. -/
def jumpWrite (n : Nat) (v : Word) (s : State) : State := forEach (maskBits 8 v.toNat) (setJumpLine n) s

/-- A write of BCNn_JUMP_CLR. -/
def jumpClear (n : Nat) (v : Word) (s : State) : State :=
  forEach (maskBits 8 v.toNat) (fun k => modBcn n (fun b => { b with lineAt := vset b.lineAt (finOf 7 k) none })) s

/-- BCNn_JUMP as it reads. -/
def jumpWord (s : State) (n : Nat) : Word :=
  BitVec.ofNat 32 ((List.range 8).foldl (fun acc k => acc + b2n (vget (s.bcnOf n).lineAt (finOf 7 k)).isSome * 2 ^ k) 0)

/-- The slot at whose beginning a set jump line takes the program to JUMP_TO, if that lies in the current pass (R568): the
end of the pass, or the first unit boundary at least 64 ns after the line was set. [log 70 DEDUCED] -/
def jumpSlot (s : State) (n : Nat) : Option Nat :=
  let b := s.bcnOf n
  let d := curSeg s n
  if bcnState s n = 3 && d.jumpEn then
    match vget b.lineAt (finOf 7 d.line) with
    | some t =>
      let e := passEnd s n
      if d.jumpAtEnd then (if t ≤ unitTime s n e then some e else none)
      else
        let from_ := t + 64 * 64
        let u := unitsIn s n from_
        let u := if unitTime s n u < from_ then u + 1 else u
        let k := max u (b.base + 1)
        if k ≤ e then some k else none
    | none => none
  else none

/-- The current pass has been played. -/
def countPass (n : Nat) (s : State) : State :=
  let d := curSeg s n
  let e := passEnd s n
  let p := passLines s n d
  let s := modBcn n (fun b => { b with
    sent := b.sent + d.units, base := e, late := 0, pass := b.pass + 1
    segPos := if d.stream then b.segPos + p else b.segPos }) s
  s.addWrap (F.BCN_LOOPS_COUNT n) 1

/-- BEACON_JUMP (R568). [log 70 DEDUCED] -/
def bcnJump (n : Nat) (s : State) : State :=
  let s := catchUnderrunTo n (match jumpSlot s n with
    | some k => if (curSeg s n).jumpAtEnd then slotsNow s n + 1 else min k (slotsNow s n + 1)
    | none => slotsNow s n + 1) s
  match jumpSlot s n with
  | some k =>
    if k ≤ slotsNow s n then
      let d := curSeg s n
      let played := playedBy s n k
      let s := if k = passEnd s n then countPass n s
        else modBcn n (fun b => { b with sent := b.sent + played, base := k }) s
      let s := modBcn n (fun b => { b with lineAt := vset b.lineAt (finOf 7 d.line) none }) s
      enterSeg n d.target (dropStream n (s.addWrap (F.BCN_JUMPS_COUNT n) 1))
    else s
  | none => s

/-- BEACON_PASS_END (R558, R559). [log 70 DEDUCED] -/
def bcnPassEnd (n : Nat) (s : State) : State :=
  let s := catchUnderrun n s
  let d := curSeg s n
  if bcnState s n = 3 && decide (passEnd s n ≤ slotsNow s n) && (jumpSlot s n).isNone then
    let s := countPass n s
    if d.loops != 0 && decide (d.loops ≤ (s.bcnOf n).pass) then
      if d.last then bcnLoad n s else enterSeg n d.next s
    else passStart n s
  else s

/-! ### Errors (R573, R574, R785) -/

/-- A failed burst: its units are filled and counted; the fourth one in a row stops the program. [log 71 DEDUCED] -/
def failBurst (n id len : Nat) (s : State) : State :=
  let b := s.bcnOf n
  let lo := b.used + b.buf.length - b.segPos
  let units := unitsUnder (unitBytes s n) lo len
  let s := takeBurst n (List.replicate len 0) (dropDone id s)
  let s := (underrun n units s.tt.tt s).set (F.BCN_STATUS_RD_ERR n) 1
  let s := modBcn n (fun b => { b with fails := b.fails + 1 }) s
  if 4 ≤ (s.bcnOf n).fails then (bcnStopReq n s).2 else s

/-- An unreadable word of the current pass's Staging data that has not been accounted, and the units it touches.
[log 69 DEDUCED] -/
def badWordOf (s : State) (n : Nat) : Option (Nat × Nat) :=
  let d := curSeg s n
  let lo := bcnArea s n + d.addr
  let len := passBytes s n d
  let bad := fun (m : Option Mark) => match m with | none | some (.correctable _) => false | _ => true
  match (stgWords lo len).find? (fun w => bad (stgMark s w) && !(s.bcnOf n).badSeen.contains w) with
  | some w =>
    let a := max lo (8 * w)
    some (w, unitsUnder (unitBytes s n) (a - lo) (min (lo + len) (8 * w + 8) - a))
  | none => none

/-- BEACON_READ_ERROR (R574, R785): the oldest burst failed, or the pattern data holds an unreadable word.
[log 69 DEDUCED] -/
def bcnReadError (n : Nat) (s : State) : State :=
  match (s.bcnOf n).out with
  | (id, len) :: _ =>
    match doneStatus s id with
    | some .ok => s
    | some _ => failBurst n id len s
    | none => s
  | [] =>
    if bcnState s n = 3 && !(curSeg s n).stream then
      match badWordOf s n with
      | some (w, units) =>
        let s := (stgReadWord w s).2
        modBcn n (fun b => { b with badSeen := w :: b.badSeen })
          ((underrun n units s.tt.tt s).set (F.BCN_STATUS_RD_ERR n) 1)
      | none => s
    else s

/-! ### Ready, Idle, reset -/

/-- The start segment is prefetched: every burst that fits has been answered (R556). [log 72 DEDUCED] -/
def prefetched (s : State) (n : Nat) : Bool :=
  let b := s.bcnOf n
  b.streamSeg.isNone ||
    (b.out.isEmpty && (match nextBurst s n with | some (_, len) => !burstRoom s n len | none => true))

/-- Ready is reached, and a held start is applied (R556, R565, R589). [log 72 DEDUCED] -/
def bcnReady (n : Nat) (s : State) : State :=
  if bcnState s n = 1 && prefetched s n then
    let s := bcnEnter n 2 s
    match (s.bcnOf n).held with
    | some (_, late) => bcnPlay n s.tt.tt late s
    | none => s
  else s

/-- Idle is reached; a held enable is applied (R200, R562). -/
def bcnIdle (n : Nat) (s : State) : State :=
  if bcnState s n = 4 then
    let s := bcnEnter n 0 s
    if s.flag (F.BCN_STATUS_ENABLE_PENDING n) then
      bcnEnWrite n true ((s.set (F.BCN_STATUS_ENABLE_PENDING n) 0).set (F.BCN_CTRL_EN n) 0)
    else s
  else s

/-- The state of a Beacon after an Engine reset (R566); a held enable is applied (R199, R200). [log 71 DEDUCED] -/
def resetBeacon (n : Nat) (s : State) : State :=
  let pend := s.flag (F.BCN_STATUS_ENABLE_PENDING n)
  let s := { s with
    regs := restoreIn (R.BCN_CTRL n) (R.BCN_CTRL n + 0xFFFF) (fun x => x == .eng) s.regs
    bb := { s.bb with done := s.bb.done.filter (fun x => x.origin != .beacon n) } }
  let s := modBcn n (fun b => { BcnS.init with sent := b.sent, unitsHi := b.unitsHi }) s
  let s := forEach (List.range 4) (fun i => modLane (4 * n + i) (fun x => { x with txLast := none, txQueue := [] })) s
  let s := bcnPanic n (s.set (F.BCN_STATUS_ENABLE_PENDING n) 0)
  if pend then bcnEnWrite n true s else s

/-! ### Registers (R611) -/

/-- A write of another register of the BCN page: outside Idle only the W1C bits take it (R563). -/
def bcnOtherWrite (n a : Nat) (v : Word) (s : State) : State :=
  if a = R.BCN_STATUS n || bcnState s n == 0 then s.writeByAcc a v else s.set (F.BCN_STATUS_IGNORED n) 1

/-- A write of a register of a BCN page. -/
def bcnWrite (a : Nat) (v : Word) (s : State) : State :=
  let n := (a - R.BCN_CTRL 0) / 0x10000
  if a = R.BCN_CTRL n then bcnCtrlWrite n v s
  else if a = R.BCN_CMD n then bcnCmdWrite n v s
  else if a = R.BCN_JUMP n then jumpWrite n v s
  else if a = R.BCN_JUMP_CLR n then jumpClear n v s
  else bcnOtherWrite n a v s

/-- A read of BCNn_UNITS_LO latches the high half. -/
def unitsRead (n : Nat) (s : State) : Word × State :=
  (BitVec.ofNat 32 (unitsSent s n), modBcn n (fun b => { b with unitsHi := BitVec.ofNat 16 (unitsSent s n / 2 ^ 32) }) s)

/-- A read of a register of a BCN page. -/
def bcnRead (a : Nat) (s : State) : Word × State :=
  let n := (a - R.BCN_CTRL 0) / 0x10000
  if a = R.BCN_JUMP n then (jumpWord s n, s)
  else if a = R.BCN_UNITS_LO n then unitsRead n s
  else if a = R.BCN_UNITS_HI n then ((s.bcnOf n).unitsHi.setWidth 32, s)
  else (s.readByAcc a, s.clearByAcc a)

/-! ### Commands -/

/-- BEACON_ENABLE (R556, R564): BCNn_CTRL written with EN. -/
def execBeaconEnable (p : Partner) (n : Fin 16) (v : Word) (s : State) : Out :=
  .next (viaPartner p (R.BCN_CTRL n.val) (bcnCtrlWrite n.val (v ||| 1)) s)

/-- BEACON_READY (R556). -/
def execBeaconReady (n : Fin 16) (s : State) : Out := .next (whenB s.works (bcnReady n.val) s)

/-- BEACON_CMD_START (R557): BCNn_CMD written with START. -/
def execBeaconCmdStart (p : Partner) (n : Fin 16) (s : State) : Out :=
  .next (viaPartner p (R.BCN_CMD n.val) (bcnCmdWrite n.val 1) s)

/-- BEACON_CMD_STOP (R561): BCNn_CMD written with STOP. -/
def execBeaconCmdStop (p : Partner) (n : Fin 16) (s : State) : Out :=
  .next (viaPartner p (R.BCN_CMD n.val) (bcnCmdWrite n.val 2) s)

/-- BEACON_DISABLE (R562): BCNn_CTRL written with EN 0. -/
def execBeaconDisable (p : Partner) (n : Fin 16) (v : Word) (s : State) : Out :=
  .next (viaPartner p (R.BCN_CTRL n.val) (bcnCtrlWrite n.val (v &&& 0xFFFFFFFE)) s)

/-- BEACON_IDLE (R562). -/
def execBeaconIdle (n : Fin 16) (s : State) : Out := .next (whenB s.works (bcnIdle n.val) s)

/-- BEACON_PASS_END (R558). -/
def execBeaconPassEnd (n : Fin 16) (s : State) : Out := .next (whenB s.works (bcnPassEnd n.val) s)

/-- BEACON_JUMP (R568). -/
def execBeaconJump (n : Fin 16) (s : State) : Out := .next (whenB s.works (bcnJump n.val) s)

/-- BCNN_JUMP (R567). -/
def execBcnnJump (p : Partner) (n : Fin 16) (v : Word) (s : State) : Out :=
  .next (viaPartner p (R.BCN_JUMP n.val) (jumpWrite n.val v) s)

/-- BCNN_JUMP_CLR (R567). -/
def execBcnnJumpClr (p : Partner) (n : Fin 16) (v : Word) (s : State) : Out :=
  .next (viaPartner p (R.BCN_JUMP_CLR n.val) (jumpClear n.val v) s)

/-- BCN_JMP_EDGE (R567): an edge from the running static region. -/
def execBcnJmpEdge (n : Fin 16) (k : Fin 8) (s : State) : Out :=
  .next (whenB (s.fabricOn && s.flag F.CFG_STATUS_DONE) (setJumpLine n.val k.val) s)

/-- BEACON_STREAM_BURST (R570). -/
def execBeaconStreamBurst (n : Fin 16) (s : State) : Out :=
  .next (whenB (s.works && decide (1 ≤ bcnState s n.val ∧ bcnState s n.val ≤ 3)) (issueBurst n.val) s)

/-- BEACON_UNDERRUN (R573). -/
def execBeaconUnderrun (n : Fin 16) (s : State) : Out :=
  .next (whenB s.works (fun s => bcnPanic n.val (catchUnderrun n.val s)) s)

/-- BEACON_READ_ERROR (R574). -/
def execBeaconReadError (n : Fin 16) (s : State) : Out := .next (whenB s.works (bcnReadError n.val) s)

/-- BEACON_UNITS_READ (R611). -/
def execBeaconUnitsRead (p : Partner) (n : Fin 16) (s : State) : Out :=
  .next (viaPartnerRead p (R.BCN_UNITS_LO n.val) (unitsRead n.val) s)

end Sys2Proof.Machine
end

