-- ==== Sys2Proof/Machine/PsmStore.lean ====
section
/-!
DEFINITION. Sys2Proof/Machine/PsmStore.lean: what the Psiom store holds (17_psiom_store.md): bytes, program units, sector
records and key copies, as the configuration engine, Shade and the bring-up read them.
-/

namespace Sys2Proof.Machine

/-- An erased byte (R841). [log 12 DESIGN CHOICE] -/
def psmErased : Nat → Byte := fun _ => 0xFF

/-- Bytes of the store. -/
def psmBytes (s : State) (a n : Nat) : List Byte := mget psmErased s.psm.bytes a n

/-- A program unit's state. [log 12 DESIGN CHOICE] -/
def psmUnit (s : State) (u : Nat) : UnitS := sget (fun _ => .erased) s.psm.units u

/-- A sector's record (R858). [log 12 DESIGN CHOICE] -/
def psmSector (s : State) (k : Nat) : Sector := sget (fun _ => ⟨.erased, 0, false⟩) s.psm.sectors k

/-- Replace a sector's record. -/
def setSector (k : Nat) (x : Sector) (s : State) : State :=
  { s with psm := { s.psm with sectors := sset (fun _ => ⟨.erased, 0, false⟩) s.psm.sectors k x } }

/-- A sector's state changes. -/
def sectorTo (k : Nat) (st : SecState) (s : State) : State := setSector k { psmSector s k with state := st } s

/-- Program a unit (R849, R850): its bytes, and what its check bits say. -/
def psmPut (u : Nat) (b : List Byte) (st : UnitS) (s : State) : State :=
  { s with psm := { s.psm with
      bytes := mput psmErased s.psm.bytes (16 * u) (b.take 16)
      units := sset (fun _ => .erased) s.psm.units u st } }

/-- Every unit of a sector is erased. -/
def psmWipe (k : Nat) (s : State) : State :=
  { s with psm := { s.psm with
      bytes := s.psm.bytes.filter (fun c => c.1 / 4096 != k)
      units := s.psm.units.filter (fun c => c.1 / 256 != k) } }

/-- The store address lies in the key area (R845). -/
def inKeyArea (a : Nat) : Bool := 2016 ≤ a / 4096 && a / 4096 < 2048

/-- What a configuration load reads (R845): the key area reads as zeros. [log 107 DEDUCED] -/
def psmRead (s : State) (a n : Nat) : List Byte :=
  (psmBytes s a n).zipIdx.map fun x => if inKeyArea (a + x.2) then 0 else x.1

/-- A span of the store cannot be read by a load (R861, R874): it passes the store's end, meets a sector that is neither
ERASED nor WRITTEN or whose erase began during the load, or holds a unit whose read fails. [log 107 DEDUCED] -/
def psmBadIn (s : State) (a n : Nat) : Bool :=
  decide (0x800000 < a + n) ||
    (List.range ((a + n - 1) / 4096 + 1 - a / 4096)).any (fun i =>
      let st := (psmSector s (a / 4096 + i)).state
      (st != .erased && st != .written) || s.psm.cut.contains (a / 4096 + i)) ||
    (List.range ((a + n - 1) / 16 + 1 - a / 16)).any (fun i => psmUnit s (a / 16 + i) == .uncorrectable)

/-! ### Key copies -/

/-- The sector of a copy of a slot: copy 0 is A, copy 1 is B (R866). -/
def copySector (slot copy : Nat) : Nat := 2016 + 2 * slot + copy

/-- The pattern of a commit unit (R866). -/
def commitPat : List Byte := [0xC3, 0x5A, 0xC3, 0x5A, 0xC3, 0x5A, 0xC3, 0x5A, 0xC3, 0x5A, 0xC3, 0x5A]

end Sys2Proof.Machine
end

