-- ==== Sys2Proof/Machine/Logic.lean ====
section
/-!
DEFINITION. Sys2Proof/Machine/Logic.lean: the fabric's logic (08_fabric.md): logic cells, Pewter slices, the TT read port, and the
boundary signals of the regions (07_regions.md). What joins what is the image's (log 18).
-/

namespace Sys2Proof.Machine

/-- How many logic cells a region has, 24 being the static region (R354). -/
def cellCount (r : Nat) : Nat := if r = 24 then 81920 else 51200

/-- How many Pewter slices a region has (R354). -/
def sliceCount (r : Nat) : Nat := if r = 24 then 256 else 160

/-- A region's clocks run: those of the static region while it runs (R365, R370, R377). -/
def clocked (s : State) (r : Nat) : Bool :=
  s.fabricOn && (if r = 24 then s.flag F.CFG_STATUS_DONE else (vget s.rgn (finOf 23 r)).clocks)

/-- A flip-flop's value, and its number in its region. -/
def flopNo (c : Nat) (second : Bool) : Nat := 2 * c + b2n second

/-- A flip-flop holds 1. -/
def flopVal (s : State) (r c : Nat) (second : Bool) : Bool := (vget s.fab.flops (finOf 24 r)).contains (flopNo c second)

/-- A number of bits, bit 0 first. -/
def bitsNat (v : Net → Bool) (l : List Net) : Nat := l.foldr (fun n acc => b2n (v n) + 2 * acc) 0

/-- A logic cell's LUT: one of six inputs, or two of five that share their inputs (R392). [log 131 PRESUMED] -/
def lutVal (v : Net → Bool) (c : CellCfg) (second : Bool) : Bool :=
  if c.split then c.lut.getLsbD (bitsNat v (c.ins.take 5) + 32 * b2n second) else c.lut.getLsbD (bitsNat v (c.ins.take 6))

/-- A cell's carry stage: the LUT says whether the carry goes on or the first input takes its place. [log 131 PRESUMED] -/
def carryVal (v : Net → Bool) (c : CellCfg) : Bool :=
  if lutVal v c false then v c.carryIn else (c.ins.head?.map v).getD false

/-! ### Pewter slices (R406 to R408) -/

/-- A slice's registers. -/
def pewterOf (s : State) (r k : Nat) : Pewter := sget (fun _ => ⟨0, 0, 0⟩) (vget s.fab.pewter (finOf 24 r)) k

/-- A slice stands on another of its column: the static region has two columns of 128, every other region one of 128 and one of
32 (R408). [log 131 PRESUMED] -/
def hasBelow (k : Nat) : Bool := k % 128 != 0

/-- The pre-adder's sum of two signed 24-bit operands (R406). -/
def preSum (v : Net → Bool) (c : PewterCfg) : BitVec 25 :=
  BitVec.ofInt 25 (signedOf 24 (bitsNat v (c.a.take 24)) + ((c.d.map fun d => signedOf 24 (bitsNat v (d.take 24))).getD 0))

/-- The multiplier's operand from the pre-adder: the sum where 24 bits hold it. [log 126 DESIGN CHOICE] -/
def preOperand (p : BitVec 25) : BitVec 24 :=
  if -8388608 ≤ p.toInt ∧ p.toInt < 8388608 then BitVec.ofInt 24 p.toInt else Config.preWide p

/-- The signed product of 24 and 18 bits (R406). -/
def preMul (v : Net → Bool) (c : PewterCfg) (p : BitVec 25) : BitVec 42 :=
  BitVec.ofInt 42 ((preOperand p).toInt * signedOf 18 (bitsNat v (c.b.take 18)))

/-- The accumulator adds, subtracts or loads (R406); `base` is itself, or the accumulator of the slice below (R407).
[log 126 DESIGN CHOICE] -/
def accNext (v : Net → Bool) (c : PewterCfg) (base : BitVec 56) (m : BitVec 42) : BitVec 56 :=
  let x := if v c.load then m.toInt else if v c.subtract then base.toInt - m.toInt else base.toInt + m.toInt
  if -2 ^ 55 ≤ x ∧ x < 2 ^ 55 then BitVec.ofInt 56 x else Config.accWide x

/-- What a slice's stages give, an unused pipeline register being passed through (R406, R407). -/
def pewterStages (v : Net → Bool) (c : PewterCfg) (k : Nat) (x : Pewter) : Pewter :=
  let pre := preSum v c
  let mul := preMul v c (if c.preReg then x.pre else pre)
  let below := BitVec.ofNat 56 (if hasBelow k then bitsNat v ((List.range 56).map (Net.acc (k - 1))) else 0)
  ⟨pre, mul, accNext v c (if c.cascade then below else x.acc) (if c.mulReg then x.mul else mul)⟩

/-! ### Nets and boundary signals -/

/-- A clamped boundary signal (R358). -/
def clampVal (code : Nat) (held : Bool) : Bool :=
  match code % 4 with
  | 1 => true
  | 2 => held
  | _ => false

/-- The level of a net of region `r`, by fuel: what an isolation cell lets out of a region is clamped (R357 to R360), what enters
a region is not. [log 131 PRESUMED] -/
def netVal (s : State) : Nat → Nat → Net → Bool
  | 0, _, n => Config.loopNet n
  | k + 1, r, n =>
    let v := netVal s k r
    match n with
    | .const b => b
    | .flop c i => flopVal s r c i
    | .lut c i => lutVal v (Config.imageCell s.cfg.frames r c) i
    | .carry c => carryVal v (Config.imageCell s.cfg.frames r c)
    | .acc c b =>
      let g := Config.imagePewter s.cfg.frames r c
      ((if g.accReg then pewterOf s r c else pewterStages v g c (pewterOf s r c)).acc).getLsbD b
    | .fromStatic i => decide (r < 24) && netVal s k 24 (Config.imageEnter s.cfg.frames r i)
    | .fromRegion q i =>
      if r = 24 ∧ q < 24 then
        let x := vget s.rgn (finOf 23 q)
        match (Config.imageBoundary s.cfg.frames q)[i]? with
        | some (m, code) => if x.clamped then clampVal code (x.hold.getD i false) else netVal s k q m
        | none => false
      else false
    | .ttPort b => r == 24 && s.fab.ttPort.getLsbD b
    | .laneRx q b => r == 24 && (vget s.xcv (finOf 63 q)).rxWord.getD b false
    | .outside i => Config.outsideNet i s.clk.now

/-- The fuel that every net without a loop settles in: each LUT, carry stage and slice is passed once. -/
def netFuel : Nat := 4194304

/-- The level of a net. -/
def State.net (s : State) (r : Nat) (n : Net) : Bool := netVal s netFuel r n

/-- A boundary signal of a region, behind its isolation cell (R358). -/
def boundary (s : State) (r i : Nat) : Bool := s.net 24 (.fromRegion r i)

/-- The level of a fabric master port's PANIC input (R674). -/
def setPanicIn (m : Nat) (on : Bool) (s : State) : State :=
  if m < 64 then s
  else
    let l := s.bb.panicIn.filter fun p => p != m - 64
    { s with bb := { s.bb with panicIn := if on then (m - 64) :: l else l } }

/-- The PANIC input of a region's port takes its clamp value; HOLD keeps its level (R358). [log 126 DESIGN CHOICE] -/
def panicClamped (r : Nat) (s : State) : State :=
  let code := ((Config.imageBoundary s.cfg.frames r)[Config.imagePanic s.cfg.frames r]?).map (·.2)
  setPanicIn (64 + r) (clampVal (code.getD 0) (s.bb.panicIn.contains r)) s

/-- Every isolation cell of a region clamps, and its clocks stop (R359, R365 step 4). -/
def clampRegion (r : Nat) (s : State) : State :=
  let i := finOf 23 r
  let x := vget s.rgn i
  if x.clamped then { s with rgn := vset s.rgn i { x with clocks := false } }
  else
    let held := (List.range (Config.imageBoundary s.cfg.frames r).length).map (boundary s r)
    panicClamped r { s with rgn := vset s.rgn i { x with clamped := true, clocks := false, hold := held } }

/-- Every isolation cell of a region releases (R359, R370). -/
def releaseClamps (r : Nat) (s : State) : State :=
  let i := finOf 23 r
  let s := { s with rgn := vset s.rgn i { vget s.rgn i with clamped := false } }
  setPanicIn (64 + r) (boundary s r (Config.imagePanic s.cfg.frames r)) s

/-! ### Clock edges -/

/-- A clock edge reaches a flip-flop or a slice: its region's clocks run, and so does the PLL it comes from (R365, R415). -/
def edgeAt (s : State) (r kind k : Nat) (pll : Option Nat) : Bool :=
  clocked s r && (pll.all fun n => s.flag (F.CLK_PLL_STATUS_LOCKED n)) && Config.imageEdge s.cfg.frames r kind k s.clk.now

/-- A flip-flop's next value: an asynchronous set or reset at once, a synchronous one and the data at an edge (R393).
[log 126 DESIGN CHOICE] -/
def flopNext (v : Net → Bool) (c : FlopCfg) (edge q : Bool) : Bool :=
  if c.async && v c.sr then c.sets
  else if edge then
    if !c.async && v c.sr && (!Config.syncWaits || v c.ce) then c.sets else if v c.ce then v c.d else q
  else q

/-- The flip-flops of a region after a nanosecond. -/
def flopsNext (s : State) (r : Nat) : List Nat :=
  (List.range (2 * cellCount r)).filter fun k =>
    let c := Config.imageCell s.cfg.frames r (k / 2)
    let f := if k % 2 = 0 then c.flop0 else c.flop1
    flopNext (s.net r) f (edgeAt s r 0 k f.pll) (flopVal s r (k / 2) (k % 2 == 1))

/-- The Pewter slices of a region after a nanosecond. -/
def pewterNext (s : State) (r : Nat) : List (Nat × Pewter) :=
  ((List.range (sliceCount r)).map fun k =>
    let c := Config.imagePewter s.cfg.frames r k
    let x := pewterOf s r k
    (k, if edgeAt s r 1 k c.pll then pewterStages (s.net r) c k x else x)).filter fun p => p.2 != ⟨0, 0, 0⟩

/-- A nanosecond of the regions whose clocks run, and of the TT read port (R419). -/
def logicTick (s : State) : State :=
  if (List.range 25).any (clocked s) then
    { s with fab := { s.fab with
        flops := Vector.ofFn fun r => if clocked s r.val then flopsNext s r.val else vget s.fab.flops r
        pewter := Vector.ofFn fun r => if clocked s r.val then pewterNext s r.val else vget s.fab.pewter r
        ttPort := if edgeAt s 24 2 0 none then ttAdd s.tt.tt (-((Config.ttPortLag s.clk.now % 65 : Nat) : Int)) else s.fab.ttPort } }
  else s

/-- The flip-flops of a region that starts: 0 under CLEAR, the initial values of its logic frames under INIT (R326, R327); the
registers of its slices start at 0. [log 126 DESIGN CHOICE] -/
def startFlops (r : Nat) (init : Bool) (s : State) : State :=
  let l := if init then (List.range (2 * cellCount r)).filter (fun k =>
      let c := Config.imageCell s.cfg.frames r (k / 2)
      (if k % 2 = 0 then c.flop0 else c.flop1).init) else []
  { s with fab := { s.fab with
      flops := vset s.fab.flops (finOf 24 r) l, pewter := vset s.fab.pewter (finOf 24 r) [] } }

end Sys2Proof.Machine
end

