-- ==== Sys2Proof/Machine/Region.lean ====
section
/-!
DEFINITION. Sys2Proof/Machine/Region.lean: the regions of the fabric (07_regions.md): the region map, the lifecycle,
commands and region faults.
-/

namespace Sys2Proof.Machine

/-- The first logic frame of a region, region 24 standing for the static region (R354). -/
def logicBase (r : Nat) : Nat := if r = 24 then 0 else 0x2800 + 0x2000 * r

/-- How many logic frames a region has (R354). -/
def logicCount (r : Nat) : Nat := if r = 24 then 0x2800 else 0x2000

/-- The region a frame address belongs to (R298, R354). -/
def regionOfFrame (f : Nat) : Nat :=
  if f < 0x2800 then 24 else if f < 0x32800 then (f - 0x2800) / 0x2000
  else if f < 0x33580 then 24 else (f - 0x33580) / 0x870

/-- The region a block RAM tile belongs to (R354). -/
def regionOfTile (t : Nat) : Nat := if t < 192 then 24 else (t - 192) / 120

/-- The region a fabric port belongs to (R354). -/
def regionOfPort (p : Nat) : Nat := if p < 24 then p else 24

/-- A region, or the static region, is Running (R363, R377). -/
def regionRunning (s : State) (r : Nat) : Bool :=
  if r = 24 then s.flag F.CFG_STATUS_DONE else s.get (F.RGN_STATUS_STATE r) == 1

/-- Change a region's state beside its registers. -/
def modRgn (r : Nat) (f : RgnS → RgnS) (s : State) : State :=
  { s with rgn := vset s.rgn (finOf 23 r) (f (vget s.rgn (finOf 23 r))) }

/-- A region's state beside its registers. -/
def State.rgnOf (s : State) (r : Nat) : RgnS := vget s.rgn (finOf 23 r)

/-- Region `r` reaches Unloaded or Running (R365, R370, R391). -/
def rgnReached (r : Nat) (s : State) : State := setLevelBit 253 R.RGN_EVENT r s

/-- Initializing is entered (R326, R327, R370): the flip-flops take their start values, and the clocks start with the clamps
still applied. [log 127 DEDUCED] -/
def startRegion (r : Nat) (s : State) : State :=
  let s := startFlops r (s.flag (F.RGN_STATUS_START_STATE r)) s
  modRgn r (fun x => { x with
    clocks := true, drainAt := none, again := false, claimed := false, initAt := some s.clk.now, nextCause := none })
    (s.set (F.RGN_STATUS_STATE r) 4)

/-- Initializing waits for RELEASE with its clocks stopped (R329, R332). -/
def holdRegion (r : Nat) (s : State) : State :=
  modRgn r (fun x => { x with claimed := false }) (s.set (F.RGN_STATUS_STATE r) 4)

/-- A START of an Unloaded region (R372). -/
def startIfValid (r : Nat) (s : State) : State :=
  if s.flag (F.RGN_STATUS_FRAMES_VALID r) then startRegion r s else s.set (F.RGN_STATUS_REFUSED r) 1

/-- Isolating steps 3 to 5 (R359, R365, R367, R373, R375, R433): grants revoked, partial bursts discarded, locks released,
clamps on, clocks stopped, Unloaded; then a RESTART or a held START is applied, unless the configuration engine has taken the
region. [log 56 DEDUCED] -/
def finishIsolating (r : Nat) (s : State) : State :=
  let again := (s.rgnOf r).again
  let s := clampRegion r (endSlaveAccesses r (reclaim (64 + r) s))
  let s := modRgn r (fun x => { x with drainAt := none, again := false, initAt := none, nextCause := none }) s
  let s := rgnReached r (s.set (F.RGN_STATUS_STATE r) 0)
  if (s.rgnOf r).claimed then s.set (F.RGN_STATUS_ENABLE_PENDING r) 0
  else if s.flag (F.RGN_STATUS_ENABLE_PENDING r) then startIfValid r (s.set (F.RGN_STATUS_ENABLE_PENDING r) 0)
  else if again && s.flag (F.RGN_STATUS_FRAMES_VALID r) then startRegion r s
  else s

/-- A Running region enters Isolating (R365); after a fault, or with an idle port, the drain is over at once (R366).
[log 56 DEDUCED] -/
def isolate (r cause : Nat) (fault again : Bool) (s : State) : State :=
  let s := (s.set (F.RGN_STATUS_STATE r) 2).set (F.RGN_STATUS_LAST_CAUSE r) cause
  let s := modRgn r (fun x => { x with drainAt := some s.clk.now, again := again }) (fenceNew (64 + r) s)
  if fault || masterIdle (64 + r) s then finishIsolating r s else s

/-- Initializing completes after 1 us of running clocks (R370): the clamps release, the port's fence lifts, and the region is
Running; one that a load waits for goes on to Isolating (R388). [log 127 DEDUCED] -/
def finishInit (r : Nat) (s : State) : State :=
  match (s.rgnOf r).initAt with
  | some t =>
    if s.fabricOn && s.get (F.RGN_STATUS_STATE r) == 4 && decide (t + 1000 ≤ s.clk.now) then
      let next := (s.rgnOf r).nextCause
      let s := modRgn r (fun x => { x with initAt := none, nextCause := none }) (unfence (64 + r) (releaseClamps r s))
      let s := rgnReached r (s.set (F.RGN_STATUS_STATE r) 1)
      match next with
      | some c => isolate r c false false s
      | none => s
    else s
  | none => s

/-- A region leaves Running for the configuration engine, or for an error of its load (R319, R324, R345, R375, R388): from Running
through Isolating, from Initializing once that completes, from a held start at once. [log 127 DEDUCED] -/
def claimRegion (r cause : Nat) (s : State) : State :=
  let s := modRgn r (fun x => { x with claimed := true, again := false }) (s.set (F.RGN_STATUS_ENABLE_PENDING r) 0)
  let st := s.get (F.RGN_STATUS_STATE r)
  if st = 1 then isolate r cause false false s
  else if st = 4 then
    if (s.rgnOf r).initAt.isSome then modRgn r (fun x => { x with nextCause := some cause }) s
    else finishIsolating r (s.set (F.RGN_STATUS_LAST_CAUSE r) cause)
  else s

/-- The engine lets go of a region. -/
def unclaim (r : Nat) (s : State) : State := modRgn r (fun x => { x with claimed := false }) s

/-- A region that drains and whose port has become idle goes on (R365). [log 56 DEDUCED] -/
def drainCheck (m : Nat) (s : State) : State :=
  if 64 ≤ m ∧ m < 88 then
    if s.get (F.RGN_STATUS_STATE (m - 64)) = 2 && masterIdle m s then finishIsolating (m - 64) s else s
  else s

/-- A Region reset (R378, R381, R388): FRAMES_VALID clears, the cause and RGN_FAULT are recorded; a region that is
already Isolating keeps its cause and skips the rest of its drain. [log 56 DEDUCED] -/
def regionReset (r cause : Nat) (s : State) : State :=
  let s := setLevelBit 253 R.RGN_FAULT r (s.set (F.RGN_STATUS_FRAMES_VALID r) 0)
  if s.get (F.RGN_STATUS_STATE r) = 1 then isolate r cause true false s
  else if s.get (F.RGN_STATUS_STATE r) = 2 then finishIsolating r (modRgn r (fun x => { x with again := false }) s)
  else s

/-- A write of RGN_CTRLn (R372 to R376). -/
def rgnCtrlWrite (r : Nat) (v : Word) (s : State) : State :=
  let s := s.writeByAcc (R.RGN_CTRL r) v
  let st := s.get (F.RGN_STATUS_STATE r)
  match (F.RGN_CTRL_CMD r).of v with
  | 1 =>
    if st = 1 then isolate r 1 false false s
    else if st = 2 then
      modRgn r (fun x => { x with again := false }) (s.set (F.RGN_STATUS_ENABLE_PENDING r) 0)
    else if st = 3 ∨ st = 4 then s.set (F.RGN_STATUS_REFUSED r) 1
    else s
  | 2 =>
    if st = 2 then s.set (F.RGN_STATUS_ENABLE_PENDING r) 1
    else if st = 0 then startIfValid r s
    else s
  | 3 =>
    if st = 1 then isolate r 2 false true s
    else if st = 2 then s.set (F.RGN_STATUS_ENABLE_PENDING r) 1
    else if st = 0 then startIfValid r s
    else s
  | _ => s

/-- UNLOAD (R372). [log 7 DEDUCED] -/
def execUnload (p : Partner) (n : Fin 24) (v : Word) (s : State) : Out :=
  .next (viaPartner p (R.RGN_CTRL n.val) (rgnCtrlWrite n.val (fieldSet v 1 0 1)) s)

/-- START (R372). -/
def execStart (p : Partner) (n : Fin 24) (v : Word) (s : State) : Out :=
  .next (viaPartner p (R.RGN_CTRL n.val) (rgnCtrlWrite n.val (fieldSet v 1 0 2)) s)

/-- RESTART (R372). -/
def execRestart (p : Partner) (n : Fin 24) (v : Word) (s : State) : Out :=
  .next (viaPartner p (R.RGN_CTRL n.val) (rgnCtrlWrite n.val (fieldSet v 1 0 3)) s)

/-- DRAIN_US_EXPIRY (R365): DRAIN_US has passed since the region entered Isolating, or its port has become idle. -/
def execDrainUsExpiry (n : Fin 24) (s : State) : Out :=
  .next (match (s.rgnOf n.val).drainAt with
    | some t =>
      if s.get (F.RGN_STATUS_STATE n.val) = 2 &&
          (decide (t + 1000 * s.get (F.RGN_CTRL_DRAIN_US n.val) ≤ s.clk.now) || masterIdle (64 + n.val) s) then
        finishIsolating n.val s
      else s
    | none => s)

end Sys2Proof.Machine
end

