-- ==== Sys2Proof/Machine/CfgEngine.lean ====
section
/-!
DEFINITION. Sys2Proof/Machine/CfgEngine.lean: Zenum images and the configuration engine (06_zenum_images.md): the image
checks, Zenum-LZ, frame writing, the digest, start policies, load errors, reloads and readback verify.
-/

namespace Sys2Proof.Machine

/-! ### Image checks -/

/-- The first failing check of a list, with its error code and logical offset. [log 54 DEDUCED] -/
def firstFail : List (Bool × Nat × Nat) → Option (Nat × Nat)
  | [] => none
  | (ok, code, off) :: rest => if ok then firstFail rest else some (code, off)

/-- A byte of the header that no field names is zero (R303). [log 54 DEDUCED] -/
def reservedZero (h : List Byte) : Bool :=
  byteAt h 0x0F == 0 && leAt h 0x11 3 == 0 && leAt h 0x58 40 == 0 && (byteAt h 0x0E &&& 0xFE) == 0

/-- The errors of the header in the order of R343, each with the offset of the field it concerns. [log 54 DEDUCED] -/
def headerError (h : List Byte) : Option (Nat × Nat) :=
  let rc := (byteAt h 0x10).toNat
  let pc := leAt h 0x18 4
  let df := leAt h 0x14 4
  firstFail [
    (h.take 4 == [0x5A, 0x4E, 0x4D, 0x1A], 1, 0),
    (byteAt h 4 == 1, 2, 4),
    (leAt h 6 2 == 128, 2, 6),
    ((byteAt h 0x0D).toNat ≤ 1, 2, 0x0D),
    (reservedZero h, 2, 0x0E),
    (leAt h 8 4 == 0x00019640, 3, 8),
    ((byteAt h 0x0C).toNat ≤ Config.revision.toNat, 3, 0x0C),
    (1 ≤ rc && rc ≤ 25, 4, 0x10),
    (1 ≤ df && df ≤ 262144, 4, 0x14),
    (1 ≤ pc && pc ≤ 262144, 4, 0x18),
    (leAt h 0x1C 4 == 128, 4, 0x1C),
    (leAt h 0x20 4 == 128 + 16 * rc, 4, 0x20),
    (leAt h 0x24 4 == leAt h 0x20 4 + 8 * pc, 4, 0x24),
    (leAt h 0x2C 4 == leAt h 0x24 4 + leAt h 0x28 4, 4, 0x2C)]

/-- The fields of a header (R303). -/
def parseHeader (h : List Byte) : ZHdr :=
  { hold := byteAt h 0x0D == 1
    full := (byteAt h 0x0E).getLsbD 0
    regions := (byteAt h 0x10).toNat
    dictFrames := leAt h 0x14 4
    places := leAt h 0x18 4
    placeOff := leAt h 0x20 4
    dictOff := leAt h 0x24 4
    dictLen := leAt h 0x28 4
    streamLen := leAt h 0x2C 4
    digest := (h.drop 0x30).take 32
    designId := leAt h 0x50 8 }

/-- The region number of a region table byte: 24 for the static region, 25 for a value that names none (R304). -/
def regionCode (b : Nat) : Nat := if b = 0xFF then 24 else if b < 24 then b else 25

/-- One region table entry is well formed by itself (R304). -/
def entryOk (e : List Byte) : Bool :=
  regionCode (byteAt e 0).toNat != 25 && (byteAt e 1).toNat ≤ 1 && (byteAt e 2).toNat ≤ 1 && byteAt e 3 == 0 &&
    leAt e 12 4 == 0

/-- The 16-byte entries of the region table. -/
def tableEntries (st : List Byte) (h : ZHdr) : List (List Byte) :=
  (List.range h.regions).map fun i => (st.drop (128 + 16 * i)).take 16

/-- The slices follow one another with no gap and cover the placement list (R305). -/
def slicesOk (total : Nat) : Nat → List (List Byte) → Bool
  | at_, [] => at_ == total
  | at_, e :: es => leAt e 4 4 == at_ && slicesOk total (at_ + leAt e 8 4) es

/-- One 8-byte placement entry expanded to (frame address, dictionary index) pairs (R306). -/
def expandPlace (e : List Byte) : List (Nat × Nat) :=
  let fa := leAt e 0 3
  let di := leAt e 4 4
  (List.range ((byteAt e 3).toNat + 1)).map fun k => (fa + k, di % 2 ^ 18 + k * (di / 2 ^ 31))

/-- The zero bits of a placement entry are zero (R306). -/
def placeOk (e : List Byte) : Bool := leAt e 0 3 < 2 ^ 18 && bitsOf (leAt e 4 4) 30 18 == 0

/-- The region of a load that a table entry and its slice give (R305, R306). -/
def tableRegion (st : List Byte) (h : ZHdr) (e : List Byte) : ZRgn :=
  { region := regionCode (byteAt e 0).toNat
    init := byteAt e 1 == 1
    pairs := (List.range (leAt e 8 4)).flatMap fun i => expandPlace ((st.drop (h.placeOff + 8 * (leAt e 4 4 + i))).take 8) }

/-- Frame addresses rise strictly and belong to the region (R307). -/
def pairsOk (r : Nat) : Option Nat → List (Nat × Nat) → Bool
  | _, [] => true
  | prev, (f, _) :: rest =>
    f < 2 ^ 18 && regionOfFrame f == r && (match prev with | none => true | some q => decide (q < f)) && pairsOk r (some f) rest

/-- The first uses of the dictionary indexes come in ascending order, and every index below the limit is used (R309). -/
def indexOrderOk (limit : Nat) : Nat → List (Nat × Nat) → Bool
  | next, [] => next == limit
  | next, (_, i) :: rest => if i < next then indexOrderOk limit next rest
    else i == next && i < limit && indexOrderOk limit (next + 1) rest

/-- No region that is CLEAR or has no HAS_BRAM places block RAM frames (R308). -/
def bramOk (st : List Byte) (h : ZHdr) (e : List Byte) : Bool :=
  (byteAt e 1 == 1 && byteAt e 2 == 1) || (tableRegion st h e).pairs.all (fun p => p.1 < 0x32800)

/-- No region is named twice, and the static region stands last in a full image and in no other (R305). -/
def namesOk (h : ZHdr) (es : List (List Byte)) : Bool :=
  let rs := es.map fun e => regionCode (byteAt e 0).toNat
  decide rs.Nodup && (if h.full then rs.getLast? == some 24 else !rs.contains 24)

/-- The errors of the region table and the placement list (R325, R343, R344). [log 54 DEDUCED] -/
def tableError (st : List Byte) (h : ZHdr) (done : Bool) : Option (Nat × Nat) :=
  let es := tableEntries st h
  let rs := es.map (tableRegion st h)
  let pl := (List.range h.places).map fun i => (st.drop (h.placeOff + 8 * i)).take 8
  firstFail [
    (es.all entryOk, 5, 128),
    (namesOk h es, 5, 128),
    (slicesOk h.places 0 es, 5, 128),
    (h.full || done, 5, 128),
    (pl.all placeOk, 6, h.placeOff),
    (rs.all (fun r => pairsOk r.region none r.pairs), 6, h.placeOff),
    (es.all (bramOk st h), 5, 128),
    (indexOrderOk h.dictFrames 0 (rs.flatMap ZRgn.pairs), 6, h.placeOff)]

/-! ### Zenum-LZ -/

/-- What decoding yields: more output with the position after it, too few input bytes, or a token error at a position. -/
inductive LzStep where
  | out (bytes : List Byte) (pos : Nat)
  | short
  | bad (pos : Nat)
deriving DecidableEq, Repr

/-- Copy bytes one at a time from a distance back in the output (R315). -/
def copyBack : Nat → Nat → List Byte → List Byte
  | 0, _, out => out
  | n + 1, d, out => copyBack n d (out ++ [byteAt out (out.length - d)])

/-- The 256 bytes of a logic or block RAM content frame as it stands (R296, R297). [log 9 DESIGN CHOICE] -/
def frameBytes (s : State) (f : Nat) : List Byte :=
  if f < 0x32800 then mget (fun _ => 0) s.cfg.frames (256 * f) 256
  else mget (fun _ => 0) s.fab.bram (256 * (f - 0x32800)) 256

/-- Decode one token of the compressed dictionary (R313 to R316). -/
def lzToken (s : State) (l : Load) (comp out : List Byte) (i : Nat) : LzStep :=
  if comp.length ≤ i then .short
  else
    let t := (byteAt comp i).toNat
    let n := t % 64
    let j := if n = 63 then i + 2 else i + 1
    let len := if n = 63 then 66 + (byteAt comp (i + 1)).toNat else n + 3
    match t / 64 with
    | 0 => if comp.length < i + 2 + n then .short else .out (out ++ (comp.drop (i + 1)).take (n + 1)) (i + 2 + n)
    | 1 =>
      if comp.length < j + 2 then .short
      else
        let d := leAt comp j 2 + 1
        if out.length < d then .bad i else .out (copyBack len d out) (j + 2)
    | 2 =>
      if comp.length < j + 3 then .short
      else
        let fa := leAt comp j 3
        let p := out.length % 256
        if 0x327FF < fa || !l.written.contains fa || 256 < p + len then .bad i
        else .out (out ++ ((frameBytes s fa).drop p).take len) (j + 3)
    | _ => .bad i

/-- Decode tokens until the output reaches a length, by fuel (every token adds a byte or more). -/
def lzTo (s : State) (l : Load) (comp : List Byte) (want : Nat) : Nat → List Byte → Nat → LzStep
  | 0, out, i => .out out i
  | k + 1, out, i =>
    if want ≤ out.length then .out out i
    else match lzToken s l comp out i with
      | .out o j => lzTo s l comp want k o j
      | .short => .short
      | .bad q => .bad q

/-! ### A load -/

/-- The load under way with its first error recorded (R343). [log 54 DEDUCED] -/
def failLoad (code off : Nat) (l : Load) : Load := if l.error.isSome then l else { l with error := some (code, off) }

/-- Replace the load under way. -/
def State.putLoad (s : State) (l : Load) : State := { s with cfg := { s.cfg with load := some l } }

/-- A load starts (R335, R353). -/
def startLoad (src cs addr : Nat) (reload : Option Nat) (s : State) : State :=
  let s := ((s.set F.CFG_STATUS_BUSY 1).set F.CFG_STATUS_ACTIVE_SRC src).set F.CFG_PROGRESS_FRAMES 0
  let s := if src = 1 then { s.set F.BFP_STATUS_CFG_ACTIVE 1 with bfp := { s.bfp with issued := [] } } else s
  let s := { s with psm := { s.psm with cut := [] } }
  s.putLoad ⟨src, cs, addr, [], 0, 0, [], none, false, [], [], 0, [], 0, [], [], [], [], none, none, false, s.elapsed, reload⟩

/-- The Read that the part issues for a configuration load: 0xEE, 0x11 in 8D-8D-8D with a 4-byte address and DUMMY dummy cycles
(R286). [log 44 DESIGN CHOICE] -/
def readFlash (cs addr len : Nat) (s : State) : State :=
  { s with bfp := { s.bfp with issued :=
      [⟨cs, true, [0xEE, 0x11], some (BitVec.ofNat 32 addr), s.get F.BFP_CTRL_DUMMY, false, [], len⟩] } }

/-- The length of an image file of logical length S (R300). -/
def fileLen (S : Nat) : Nat := S + 4 * ((S + 65531) / 65532)

/-- The logical length that the first 48 bytes of an image give. [log 54 DEDUCED] -/
def peekLen (l : Load) : Nat :=
  match l.hdr with
  | some h => h.streamLen
  | none => if l.stream.isEmpty then leAt l.raw 0x2C 4 else leAt l.stream 0x2C 4

/-- How long block `k` is, its CRC-32 included (R300); the first holds a whole header, whatever STREAM_LEN says. [log 54 DEDUCED] -/
def blockLen (S k : Nat) : Nat := min 65536 (max (fileLen S - 65536 * k) (if k = 0 then 132 else 0))

/-- STREAM_LEN has been received: it lies in the first 48 bytes. [log 54 DEDUCED] -/
def lenKnown (l : Load) : Bool := decide (1 ≤ l.blocks) || decide (48 ≤ l.raw.length)

/-- Every byte of the file has been received (R339): STREAM_LEN gives the file's length, and no file is shorter than the block
that holds its header. [log 54 DEDUCED] -/
def allReceived (l : Load) : Bool :=
  lenKnown l && decide (max (fileLen (peekLen l)) (blockLen (peekLen l) 0) ≤ l.got)

/-- The engine holds input that it has not consumed (R347): bytes of an unchecked block, or of the dictionary after the last token
decoded. [log 54 DEDUCED] -/
def unconsumed (l : Load) : Bool :=
  !l.raw.isEmpty || (match l.hdr with
    | some h => decide (h.dictOff + l.tokPos < l.stream.length)
    | none => false)

/-- The checks made once a block has passed: the header with the first block, the tables when they are complete. -/
def checkImage (done : Bool) (l : Load) : Load :=
  let l :=
    if l.hdr.isNone && l.error.isNone then
      match headerError (l.stream.take 128) with
      | some (c, o) => failLoad c o l
      | none => { l with hdr := some (parseHeader (l.stream.take 128)) }
    else l
  match l.hdr with
  | some h =>
    if !l.checked && l.error.isNone && h.dictOff ≤ l.stream.length then
      match tableError l.stream h done with
      | some (c, o) => failLoad c o l
      | none =>
        let rs := (tableEntries l.stream h).map (tableRegion l.stream h)
        { l with checked := true, todo := rs, names := rs.map fun r => (r.region, r.init) }
    else l
  | none => l

/-- Take a whole block: its CRC-32 is checked before any of its bytes is used (R301, R302). -/
def takeBlock (now : Nat) (done : Bool) (blk : List Byte) (l : Load) : Load :=
  let data := blk.take (blk.length - 4)
  if leAt blk (blk.length - 4) 4 = (crc32 data).toNat then
    checkImage done { l with stream := l.stream ++ data, blocks := l.blocks + 1, lastProgress := now }
  else failLoad 7 (65532 * l.blocks) l

/-- A full image is a Fabric reset (R324, R388, R434): DONE clears, every region is taken out of Running, and so is the static
region with its ports. [log 127 DEDUCED] -/
def fabricReset (s : State) : State :=
  let s := ((s.set F.CFG_STATUS_DONE 0).set F.SVP_STATUS_CFG_DONE 0).set F.CFG_STATUS_HELD 0
  let s := { s with
    cfg := { s.cfg with held := [], starting := s.cfg.starting.filter (fun x => !x.1) }
    rst := { s.rst with ioReleased := false, doneAt := none }
    fab := { s.fab with evt := 0, uarts := s.fab.uarts.map fun u => { Uart.init with ctsHigh := u.ctsHigh } }
    regs := restoreIn 0x00F000040000 0x00F00006FFFF (fun x => x == .rgn || x == .fab) s.regs }
  let s := endSlaveAccesses 24 (forEach (List.range 8) (fun i s => fence (88 + i) s) s)
  forEach (List.range 24) (fun r s => claimRegion r 4 (s.set (F.RGN_STATUS_FRAMES_VALID r) 0)) s

/-- A region that waited for RELEASE does so no more once another load has taken it. [log 127 DEDUCED] -/
def dropHeld (r : Nat) (s : State) : State :=
  if s.cfg.held.any (fun x => x.1 == r) then
    let l := s.cfg.held.filter fun x => x.1 != r
    { s.setB F.CFG_STATUS_HELD (!l.isEmpty) with cfg := { s.cfg with held := l } }
  else s

/-- The engine takes a region: it must be Unloaded, and enters Loading (R319, R368, R369, R375). -/
def takeRegion (r : Nat) (full : Bool) (s : State) : State :=
  let cause := if full then 4 else 3
  if r = 24 ∨ s.get (F.RGN_STATUS_STATE r) = 3 then s
  else
    let s := dropHeld r (claimRegion r cause s)
    if s.get (F.RGN_STATUS_STATE r) = 0 then
      ((s.set (F.RGN_STATUS_STATE r) 3).set (F.RGN_STATUS_FRAMES_VALID r) 0).set (F.RGN_STATUS_LAST_CAUSE r) cause
    else s

/-- The engine may write frames of a region (R324, R368): the region is in Loading, and for a full image no other one is still on
its way to Unloaded. -/
def canWrite (s : State) (full : Bool) (r : Nat) : Bool :=
  (r == 24 || s.get (F.RGN_STATUS_STATE r) == 3) &&
    (!full || (List.range 24).all fun q => s.get (F.RGN_STATUS_STATE q) == 0 || s.get (F.RGN_STATUS_STATE q) == 3)

/-- Store a frame's bytes, clearing the check marks of a block RAM frame's words. -/
def storeFrame (f : Nat) (b : List Byte) (s : State) : State :=
  if f < 0x32800 then { s with cfg := { s.cfg with frames := mput (fun _ => 0) s.cfg.frames (256 * f) b } }
  else
    let a := 256 * (f - 0x32800)
    { s with fab := { s.fab with
        bram := mput (fun _ => 0) s.fab.bram a b
        bramMark := s.fab.bramMark.filter fun m => !(decide (a ≤ 9 * m.1 + 8 ∧ 9 * m.1 < a + 256)) } }

/-- The bytes a pair's frame takes: decoded at its index's first use, copied from there later (R321). -/
def pairBytes (s : State) (l : Load) (h : ZHdr) (f i : Nat) : LzStep × Load :=
  match l.firstAt.find? (fun x => x.1 == i) with
  | some (_, g) => (.out (frameBytes s g) 0, l)
  | none =>
    let comp := (l.stream.drop h.dictOff).take h.dictLen
    match lzTo s l comp (256 * (i + 1)) 257 l.dictOut l.tokPos with
    | .out o j => (.out ((o.drop (256 * i)).take 256) j,
        { l with dictOut := o, tokPos := j, firstAt := l.firstAt ++ [(i, f)], lastProgress := s.elapsed })
    | .short => (if allReceived l && decide (65532 * l.blocks ≥ h.streamLen) then .bad l.tokPos else .short, l)
    | .bad q => (.bad q, l)

/-- The frames of a region in the order they are written: every logic frame, then the placed block RAM frames (R320,
R322). The frame at a cursor, with the dictionary index placed there. -/
def frameAtCursor (z : ZRgn) (c : Nat) : Option (Nat × Option Nat) :=
  if c < logicCount z.region then
    let f := logicBase z.region + c
    some (f, (z.pairs.find? (fun p => p.1 == f)).map (·.2))
  else
    ((z.pairs.filter (fun p => decide (0x32800 ≤ p.1)))[c - logicCount z.region]?).map fun p => (p.1, some p.2)

/-- Write one frame of a load. -/
def writeFrame (l : Load) (h : ZHdr) (z : ZRgn) (f : Nat) (idx : Option Nat) (s : State) : State :=
  match idx with
  | none =>
    let s := storeFrame f (List.replicate 256 0) s
    let s := s.addWrap F.CFG_PROGRESS_FRAMES 1
    s.putLoad { l with
      frame := l.frame + 1, written := f :: l.written, lastProgress := s.elapsed
      refIn := l.refIn ++ List.replicate 256 0 }
  | some i =>
    match pairBytes s l h f i with
    | (.out b _, l) =>
      let s := storeFrame f b s
      let s := s.addWrap F.CFG_PROGRESS_FRAMES 1
      s.putLoad { l with
        frame := l.frame + 1, lastProgress := s.elapsed
        written := if f < 0x32800 then f :: l.written else l.written
        digestIn := l.digestIn ++ leBytes 4 f ++ b
        refIn := if f < 0x32800 then l.refIn ++ b else l.refIn }
    | (.short, l) => s.putLoad l
    | (.bad q, l) => s.putLoad (failLoad 8 (h.dictOff + q) { l with todo := z :: l.todo.drop 1 })

/-- The regions of a load that has passed, or was held, start (R328, R331, R332, R370). -/
def startLoaded (full : Bool) (l : List (Nat × Bool)) (s : State) : State :=
  let s := forEach l (fun x s => if x.1 = 24 then startFlops 24 x.2 s else startRegion x.1 s) s
  { s with cfg := { s.cfg with starting := s.cfg.starting ++ [(full, s.clk.now, l.map (·.1))] } }

/-- Every region of a load has started: a full image sets DONE and releases the user I/O, and event 249 is raised (R328, R331,
R332). [log 127 DEDUCED] -/
def loadStarted (full : Bool) (s : State) : State :=
  if full then
    let s := (s.set F.CFG_STATUS_DONE 1).set F.SVP_STATUS_CFG_DONE 1
    let s := forEach (List.range 8) (fun i s => unfence (88 + i) s) s
    let s := { s with rst := { s.rst with ioReleased := true, doneAt := some s.clk.now } }
    let s := s.wr R.SCH_PINS (s.rd R.SCH_PIN_INIT)
    let s := forEach (List.range 16) (fun n s =>
      let c := Config.imagePll s.cfg.frames n
      let s := s.wr (R.CLK_PLL_CFG n) (BitVec.ofNat 32 (c % 2 ^ 32) &&& 0x07FFFC00)
      let s := s.wr (R.CLK_PLL_DIV n) (BitVec.ofNat 32 (c / 2 ^ 32) &&& 0x7F7F7F7F)
      s.setB (F.CLK_PLL_STATUS_EN n) (s.flag (F.CLK_PLL_CFG_PREDIV n))) s
    raise 249 s
  else raise 249 s

/-- A nanosecond of the regions that are Initializing, and of the loads that start them (R370); the static region takes the same
time. [log 127 DEDUCED] -/
def cfgTick (s : State) : State :=
  let s := forEach (List.range 24) finishInit s
  match s.cfg.starting with
  | (full, t, l) :: rest =>
    if s.fabricOn && decide (t + 1000 ≤ s.clk.now) && l.all (fun r => r == 24 || (s.rgnOf r).initAt.isNone) then
      loadStarted full { s with cfg := { s.cfg with starting := rest } }
    else s
  | [] => s

/-- Record that a region's frames are valid, with its start state and its readback reference (R348, R369, R390). -/
def validateRegions (l : List (Nat × Bool)) (s : State) : State :=
  forEach l (fun x s =>
    if x.1 = 24 then s
    else (s.set (F.RGN_STATUS_FRAMES_VALID x.1) 1).setB (F.RGN_STATUS_START_STATE x.1) x.2) s

/-- ABORT ends the load under way with ABORTED, at the logical offset reached (R341, R343). -/
def abortLoad (s : State) : State :=
  match s.cfg.load with
  | some l => if l.error.isSome then s else s.putLoad { failLoad 0xB l.stream.length l with abortAt := some s.clk.now }
  | none => s

/-- A write of CFG_CTRL (R329, R332, R335, R336, R341); ABORT acts on the load that runs when the word is written.
[log 54 DEDUCED] -/
def cfgCtrlWrite (v : Word) (s : State) : State :=
  let s := s.writeByAcc R.CFG_CTRL v
  let busy := s.cfg.load.isSome
  let s := if F.CFG_CTRL_ABORT.on v then abortLoad s else s
  let s :=
    if F.CFG_CTRL_GO.on v then
      if busy then s.set F.CFG_STATUS_REFUSED 1
      else if F.CFG_CTRL_SRC.of v = 3 then s
      else startLoad (F.CFG_CTRL_SRC.of v) (F.CFG_CTRL_CS.of v) (s.rd R.CFG_SRC_ADDR).toNat none s
    else s
  if F.CFG_CTRL_RELEASE.on v && s.flag F.CFG_STATUS_HELD then
    let h := s.cfg.held
    let s := { s.set F.CFG_STATUS_HELD 0 with cfg := { s.cfg with held := [] } }
    startLoaded s.cfg.heldFull h s
  else s

/-- A Schedule Unit reload of a region reaches the engine (R342): it starts, or waits for the load in progress. -/
def cfgReload (r : Nat) (s : State) : State :=
  if s.cfg.load.isSome then { s with cfg := { s.cfg with waiting := s.cfg.waiting ++ [r] } }
  else
    let n := finOf 23 r
    startLoad (if s.flag (F.CFG_RELOAD_SRC n.val) then 2 else 1) (s.get (F.CFG_RELOAD_CS n.val))
      (16 * s.get (F.CFG_RELOAD_ADDR16 n.val)) (some n.val) s

/-- A word of a FIFO load (R338, R339). -/
def cfgFifoWord (v : Word) (s : State) : Option State :=
  match s.cfg.load with
  | some l =>
    if l.src = 0 && l.error.isNone && !allReceived l then
      some (s.putLoad { l with raw := l.raw ++ leBytes 4 v.toNat, got := l.got + 4 })
    else none
  | none => none

/-! ### Commands -/

/-- CFG_GO (R335, R336). -/
def execCfgGo (p : Partner) (v : Word) (s : State) : Out :=
  .next (viaPartner p R.CFG_CTRL (cfgCtrlWrite (v ||| 0x80000000)) s)

/-- CFG_FIFO_WRITE (R338, R339): the word joins the running FIFO load, or fails with BUS_ERR. -/
def execCfgFifoWrite (p : Partner) (v : Word) (s : State) : Out :=
  .next (
    if s.reaches p then
      match s.gate p R.CFG_CTRL with
      | some e => s.answer (.partner p) e 0
      | none =>
        match cfgFifoWord v s with
        | some s => s.answer (.partner p) .ok 0
        | none => s.answer (.partner p) .busErr 0
    else s)

/-- CONFIG_BLOCK_CHECK (R302): the next whole block, from the FIFO, from the flash (whose bytes come with the command)
or from the Psiom store, is checked. [log 44 DESIGN CHOICE, log 107 DEDUCED] -/
def execConfigBlockCheck (flash : List Byte) (s : State) : Out :=
  .next (match s.cfg.load with
    | some l =>
      if l.error.isSome || allReceived l && decide (fileLen (peekLen l) ≤ 65536 * l.blocks) then s
      else
        let done := s.flag F.CFG_STATUS_DONE
        if l.src = 0 then
          let n := blockLen (peekLen l) l.blocks
          if lenKnown l && n ≤ l.raw.length then
            s.putLoad (takeBlock s.elapsed done (l.raw.take n) { l with raw := l.raw.drop n })
          else s
        else if l.src = 1 && s.bfp.cmd.isSome then s
        else
          let base := l.addr + 65536 * l.blocks
          let bytes := if l.src = 1 then padTo 65536 flash else psmRead s base 65536
          let n := blockLen (if l.stream.isEmpty then leAt bytes 0x2C 4 else peekLen l) l.blocks
          if l.src = 2 && psmBadIn s base n then s.putLoad (failLoad 0xA (65532 * l.blocks) l)
          else
            let s := if l.src = 1 then readFlash l.cs base n s else s
            s.putLoad (takeBlock s.elapsed done (bytes.take n) { l with got := l.got + n })
    | none => s)

/-- CONFIG_FRAME_WRITE (R319 to R322): the current region is taken, then its next frame is written.
[log 55 DESIGN CHOICE] -/
def execConfigFrameWrite (s : State) : Out :=
  .next (match s.cfg.load with
    | some l =>
      match l.hdr, l.todo with
      | some h, z :: rest =>
        if l.error.isSome || !l.checked then s
        else
          let first := h.full && !l.cleared
          let l := { l with cleared := true }
          let s := if first then fabricReset (s.putLoad l) else s
          let s := takeRegion z.region h.full s
          if !canWrite s h.full z.region then s
          else match frameAtCursor z l.frame with
            | some (f, idx) => writeFrame l h z f idx s
            | none =>
              { s with cfg := { s.cfg with
                  load := some { l with todo := rest, frame := 0, refIn := [] }
                  refs := sset (fun _ => []) s.cfg.refs z.region (sha256 l.refIn) } }
      | _, _ => s
    | none => s)

/-- CONFIG_DIGEST_CHECK (R323, R328, R329, R331, R332): the digest is checked, and the named regions start or are held.
[log 55 DESIGN CHOICE] -/
def execConfigDigestCheck (s : State) : Out :=
  .next (match s.cfg.load with
    | some l =>
      match l.hdr with
      | some h =>
        if l.error.isSome && l.abortAt != some s.clk.now || !l.checked || !l.todo.isEmpty then s
        else if l.tokPos != h.dictLen || l.dictOut.length != 256 * h.dictFrames then
          s.putLoad (failLoad 8 (h.dictOff + l.tokPos) l)
        else if sha256 l.digestIn != h.digest then s.putLoad (failLoad 9 h.streamLen l)
        else
          let s := validateRegions l.names s
          let s := (s.set F.CFG_STATUS_BUSY 0).set F.BFP_STATUS_CFG_ACTIVE 0
          let s := if h.full then s.set64 (R.CFG_DESIGN_ID 0) (R.CFG_DESIGN_ID 1) h.designId else s
          let s := { s with cfg := { s.cfg with load := none } }
          if h.hold then
            let s := forEach l.names (fun x s => if x.1 = 24 then s else holdRegion x.1 s) s
            { s.set F.CFG_STATUS_HELD 1 with cfg := { s.cfg with held := s.cfg.held ++ l.names, heldFull := h.full } }
          else startLoaded h.full l.names s
      | none => s
    | none => s)

/-- A region of a load that ends with an error (R345, R371): once frames have been written it goes to Unloaded and stays there;
a region that the engine had only taken is let go. [log 54 DEDUCED] -/
def regionFails (wrote full : Bool) (r : Nat) (s : State) : State :=
  if r = 24 then s
  else if s.get (F.RGN_STATUS_STATE r) = 3 then unclaim r (rgnReached r (s.set (F.RGN_STATUS_STATE r) 0))
  else if wrote && s.get (F.RGN_STATUS_STATE r) != 0 then claimRegion r (if full then 4 else 3) (dropHeld r s)
  else unclaim r s

/-- CONFIG_LOAD_ERROR (R343, R345, R371): the load ends at its first error, and the regions that its image names stay Unloaded. -/
def execConfigLoadError (s : State) : Out :=
  .next (match s.cfg.load with
    | some l =>
      match l.error with
      | some (code, off) =>
        let s := (((s.set F.CFG_STATUS_ERR 1).set F.CFG_STATUS_ERR_CODE code).set F.CFG_ERR_OFFSET_OFFSET off).set
          F.CFG_STATUS_BUSY 0
        let s := s.set F.BFP_STATUS_CFG_ACTIVE 0
        let full := match l.hdr with | some h => h.full | none => false
        let wrote := s.get F.CFG_PROGRESS_FRAMES != 0
        let s := forEach l.names (fun x s => regionFails wrote full x.1 s) s
        let s := if l.cleared && full then forEach (List.range 24) unclaim s else s
        raise 251 { s with cfg := { s.cfg with load := none } }
      | none => s
    | none => s)

/-- CFG_ABORT (R341). -/
def execCfgAbort (p : Partner) (v : Word) (s : State) : Out :=
  .next (viaPartner p R.CFG_CTRL (cfgCtrlWrite ((v ||| 0x40000000) &&& 0x7FFFFFFF)) s)

/-- CFG_RELEASE (R329, R332). -/
def execCfgRelease (p : Partner) (v : Word) (s : State) : Out :=
  .next (viaPartner p R.CFG_CTRL (cfgCtrlWrite ((v ||| 0x20000000) &&& 0x3FFFFFFF)) s)

/-- CONFIG_RELOAD_START (R342): a waiting reload starts once the engine is free. -/
def execConfigReloadStart (s : State) : Out :=
  .next (match s.cfg.waiting with
    | r :: rest =>
      if s.cfg.load.isSome then s else cfgReload r { s with cfg := { s.cfg with waiting := rest } }
    | [] => s)

/-- CONFIG_LOCKUP (R347): input is held and nothing has progressed for 50 ms. [log 110 DEDUCED] -/
def execConfigLockup (s : State) : Out :=
  .next (match s.cfg.load with
    | some l =>
      whenB (unconsumed l && decide (l.lastProgress + 50000000 ≤ s.elapsed))
        (requestWarm .cfgLockup) s
    | none => s)

/-- The SHA-256 of a region's logic frames in ascending order (R348). -/
def regionSha (s : State) (r : Nat) : List Byte :=
  sha256 (mget (fun _ => 0) s.cfg.frames (256 * logicBase r) (256 * logicCount r))

/-- One region's compare with its reference (R349, R350, R908 code 0x0C). [log 55 DESIGN CHOICE] -/
def verifyRegion (r : Nat) (s : State) : State :=
  if regionRunning s r then
    let inj := (injArmed s 12 r none).isSome
    let s := if inj then injUsed s else s
    if inj || regionSha s r != sget (fun _ => []) s.cfg.refs r then
      let s := rasDetect 12 4 r 0 0 inj s
      let s := raise 252 (s.wr R.CFG_VERIFY_STATUS (s.rd R.CFG_VERIFY_STATUS ||| BitVec.ofNat 32 (2 ^ r)))
      if s.flag F.CFG_VERIFY_ACTION && r != 24 then regionReset r 5 s else s
    else s
  else s

/-- READBACK_VERIFY_PASS (R349 to R351): every Running region is compared with its reference. [log 55 DESIGN CHOICE] -/
def execReadbackVerifyPass (s : State) : Out :=
  .next (
    if s.works && s.flag F.CFG_VERIFY_EN &&
        decide (s.cfg.lastVerify + 1000000000 * s.get F.CFG_VERIFY_INTERVAL_S ≤ s.elapsed) then
      forEach (List.range 25) verifyRegion { s with cfg := { s.cfg with lastVerify := s.elapsed } }
    else s)

end Sys2Proof.Machine
end

