-- ==== Sys2Proof/Machine/Link.lean ====
section
/-!
DEFINITION. Sys2Proof/Machine/Link.lean: the two Filament links (03_filament_chain.md): link words, training, packets,
credits, retry, link power, and where an accepted packet goes.
-/

namespace Sys2Proof.Machine

/-! ### Link words and packets -/

/-- A link word: its type, fields from byte 1 on, and the CRC-8 of bytes 0 to 6 in byte 7 (R106, R108). -/
def linkWord (type : Byte) (fields : List Byte) : List Byte :=
  let b := padTo 7 (type :: fields)
  b ++ [crc8 b]

/-- The link word types of R108. -/
def linkTypes : List Byte :=
  [0x1E, 0x2D, 0x4B, 0x55, 0x66, 0x78, 0x87, 0x99, 0xAA, 0xB4, 0xBB, 0xC3, 0xD2, 0xE1, 0xF0, 0x3C]

/-- A link word that fails its CRC-8 or has an unknown type (R107). -/
def badWord (b : List Byte) : Bool :=
  !(linkTypes.contains (byteAt b 0)) || crc8 (b.take 7) != byteAt b 7

/-- Header fields of a packet (R113). -/
def Packet.dest (p : Packet) : Byte := byteAt p.bytes 0
def Packet.src (p : Packet) : Byte := byteAt p.bytes 1
def Packet.type (p : Packet) : Byte := byteAt p.bytes 2
def Packet.tag (p : Packet) : Byte := byteAt p.bytes 3
def Packet.len (p : Packet) : Nat := leAt p.bytes 4 2
def Packet.lastFlag (p : Packet) : Bool := (byteAt p.bytes 7).getLsbD 0
def Packet.addr (p : Packet) : Nat := leAt p.bytes 8 6
def Packet.rlen (p : Packet) : Nat := (byteAt p.bytes 15).toNat
def Packet.payload (p : Packet) : List Byte := (p.bytes.drop 16).take p.len

/-- A packet of this unit's own: DEST is the host (R121), and the payload is padded to whole words (R113). -/
def mkPacket (s : State) (vc : Nat) (type tag status flags : Byte) (addr : Nat) (orig : Byte) (payload : List Byte) : Packet :=
  { vc := vc
    words := 2 + (payload.length + 7) / 8
    bytes := [0, s.fil.addr, type, tag] ++ leBytes 2 payload.length ++ [status, flags] ++ leBytes 6 addr ++ [orig, 0] ++
      padTo ((payload.length + 7) / 8 * 8) payload }

/-- The status code as a byte (R115, R272). -/
def Status.code : Status → Byte
  | .ok => 0 | .notOwner => 1 | .accessErr => 2 | .busErr => 3 | .unmapped => 4 | .badPacket => 5 | .restricted => 6
  | .unreachable => 7 | .noUnit => 8 | .halted => 9 | .timeout => 10 | .denied => 11 | .bankDown => 12

/-- The type and virtual channel of the answer to a request type (R114). [log 32 DESIGN CHOICE] -/
def answerType (t : Byte) : Byte × Nat :=
  if t = 0x01 then (0x10, 1) else if t = 0x02 then (0x11, 1) else if t = 0x03 then (0x12, 1)
  else if t = 0x04 then (0x10, 3) else if t = 0x20 then (0x21, 2) else if t = 0x30 then (0x31, 2)
  else if t = 0x32 then (0x33, 2) else if t = 0x34 then (0x35, 2) else (0x11, 1)

/-- The request types of R114, with the virtual channel of each. -/
def requestVc (t : Byte) : Option Nat :=
  if t = 0x01 ∨ t = 0x02 ∨ t = 0x04 then some 0
  else if t = 0x03 then some 3
  else if t = 0x20 ∨ t = 0x30 ∨ t = 0x32 ∨ t = 0x34 then some 2 else none

/-- The types that only a unit sends (R114); they ask for no answer. -/
def unitType (t : Byte) : Bool := [0x10, 0x11, 0x12, 0x21, 0x31, 0x33, 0x35, 0x40, 0x41].contains t

/-- A packet that breaks a rule of its section (R111, R113, R114, R117, R179, R185). [log 123 DEDUCED] -/
def badPacketRule (p : Packet) : Bool :=
  let t := p.type
  let lenOk := decide (p.len ≤ 256 ∧ p.len % 4 = 0 ∧ p.words = 2 + (p.len + 7) / 8 ∧ p.bytes.length = 8 * p.words)
  let rlenOk := if t = 0x01 then decide (1 ≤ p.rlen ∧ p.rlen ≤ 64) else p.rlen == 0
  let zeroOk := byteAt p.bytes 6 == 0 && byteAt p.bytes 14 == 0 && (p.bytes.drop (16 + p.len)).all (fun b => b == 0)
  let loadOk :=
    if t = 0x04 then p.len == 4 && leAt p.payload 0 4 % 4 == 0 && leAt p.payload 0 4 != 0
    else if t = 0x34 then p.len == 4 && byteAt p.payload 0 == 1
    else if t = 0x20 then p.len == 4 else true
  let castOk := p.dest != 0xFF || t == 0x02 || t == 0x03 || t == 0x32 || t == 0x20
  !(requestVc t == some p.vc && lenOk && rlenOk && zeroOk && loadOk && castOk)

/-- A port's link. -/
def State.link (s : State) : Port → Link
  | .us => s.fil.us
  | .ds => s.fil.ds

/-- Change a port's link. -/
def State.setLink (s : State) (p : Port) (l : Link) : State :=
  match p with
  | .us => { s with fil := { s.fil with us := l } }
  | .ds => { s with fil := { s.fil with ds := l } }

/-- Add link words to those waiting on a port. -/
def sendOut (p : Port) (w : LinkOut) (s : State) : State :=
  s.setLink p { s.link p with words := (s.link p).words ++ [w] }

/-- Add a link word to those waiting on a port. -/
def sendWord (p : Port) (b : List Byte) (s : State) : State := sendOut p (.word b) s

/-- Add a packet to those waiting on a port. -/
def sendPacket (p : Port) (k : Packet) (s : State) : State :=
  s.setLink p { s.link p with queue := (s.link p).queue ++ [k] }

/-- The RETRAINS, REPLAYS and CRC_ERRS counts of a port (R192). -/
def errField (p : Port) (k : Nat) : Field :=
  match p, k with
  | .us, 0 => F.FIL_US_ERR_RETRAINS | .us, 1 => F.FIL_US_ERR_REPLAYS | .us, _ => F.FIL_US_ERR_CRC_ERRS
  | .ds, 0 => F.FIL_DS_ERR_RETRAINS | .ds, 1 => F.FIL_DS_ERR_REPLAYS | .ds, _ => F.FIL_DS_ERR_CRC_ERRS

/-- The event source of replays and retraining of a port (R188). -/
def linkSource : Port → Nat
  | .us => 220
  | .ds => 221

/-- An Active link retrains (R136, R150): it is counted and reported, and a CHAIN unit's upstream link leaving Active
puts it into holdover (R59). -/
def retrain (p : Port) (s : State) : State :=
  if (s.link p).state = .active then
    let l := s.link p
    let s := s.setLink p { l with state := .training, since := s.clk.now, ready0 := 0, ready1 := 0 }
    let s := raise (linkSource p) (s.incSat (errField p 0))
    match p with
    | .us => chainSourceLost s
    | .ds => s
  else s

/-- A NOTICE packet to the host (R138, R139, R141). [log 33 DEDUCED] -/
def sendNotice (kind neighbour cause : Byte) (s : State) : State :=
  sendPacket .us (mkPacket s 2 0x41 0 0 0 0 0 [kind, neighbour, cause, 0]) s

/-- The downstream port starts training once the unit is addressed and DS_EN is 1 (R131). -/
def startDownstream (s : State) : State :=
  if s.fil.addr != 0 && s.flag F.FIL_CTRL_DS_EN && s.fil.ds.state == .idleHeld && !s.nightlight then
    s.setLink .ds { s.fil.ds with state := .training, since := s.clk.now, ready0 := 0, ready1 := 0 }
  else s

/-- The downstream link is brought back to Active (R123, R162, R163, R168): from Sleep by training. -/
def wakeDown (s : State) : State :=
  let l := s.fil.ds
  match l.state with
  | .doze => s.setLink .ds { l with waking := true }
  | .sleep => s.setLink .ds { l with state := .training, waking := true, since := s.clk.now, ready0 := 0, ready1 := 0 }
  | _ => s

/-- FIL_WAKE_N is driven while the unit has something to send upstream and that link dozes or sleeps, until it is Active
(R167, R169). -/
def State.wakeOut (s : State) : Bool :=
  let l := s.fil.us
  s.fil.addr != 0 && (l.state == .doze || l.state == .sleep || (l.state == .training && l.waking)) &&
    (s.evc.held.isSome || !s.evc.out.isEmpty || !l.queue.isEmpty || !l.replay.isEmpty || !s.fil.upQueue.isEmpty)

/-- FIL_WAKE_N is low: somebody else drives it, or this unit does (R166). -/
def State.wakeLow (s : State) : Bool := s.fil.wakeIn || s.wakeOut

/-- While FIL_WAKE_N is low, an addressed unit returns its downstream link to Active (R168). -/
def wakeFollow (s : State) : State :=
  whenB (s.wakeLow && s.rst.coreUp && s.fil.addr != 0) wakeDown s

/-- A write of FIL_CTRL (R163, R190): RETRAIN bits act, DS_PM asks the downstream link for a power state, and the
Reserved DS_PM code leaves the field as it was. -/
def filCtrlWrite (v : Word) (s : State) : State :=
  let pm := F.FIL_CTRL_DS_PM.of v
  let s := s.set F.FIL_CTRL_DS_EN (F.FIL_CTRL_DS_EN.of v)
  let s := if pm = 3 then s else s.set F.FIL_CTRL_DS_PM pm
  let s := whenB (F.FIL_CTRL_RETRAIN_US.on v) (retrain .us) s
  let s := whenB (F.FIL_CTRL_RETRAIN_DS.on v) (retrain .ds) s
  let s :=
    if (pm = 1 || pm = 2) && s.fil.ds.state == .active then sendWord .ds (linkWord 0xE1 [BitVec.ofNat 8 pm]) s
    else whenB (pm == 0) wakeDown s
  startDownstream s

/-- The code of a link state (R191). -/
def LinkState.code : LinkState → Nat
  | .down => 0 | .training => 1 | .active => 2 | .doze => 3 | .sleep => 4 | .idleHeld => 5

/-- FIL_STATUS (R191). -/
def filStatusWord (s : State) : Word :=
  BitVec.ofNat 32 (s.fil.addr.toNat * 2 ^ 16 + s.fil.ds.state.code * 2 ^ 8 + s.fil.us.state.code * 2 ^ 5 +
    b2n s.evc.held.isSome * 16 + b2n s.wakeLow * 8 + b2n s.wakeOut * 4 + s.get F.FIL_STATUS_ENUM_WAIT * 2)

/-- A valid block has arrived on a port. -/
def heard (p : Port) (s : State) : State := s.setLink p { s.link p with lastRx := s.clk.now }

/-- The link can carry link words and packets. -/
def State.isActive (s : State) (p : Port) : Bool := s.rst.coreUp && (s.link p).state == .active

/-- Link words reach the part: the link is Active, or on its way back from Doze (R189). -/
def State.hears (s : State) (p : Port) : Bool :=
  s.isActive p || (s.rst.coreUp && (s.link p).state == .doze && (p == .us || (s.link p).waking))

/-- Give back the buffer of a packet (R142, R143). [log 31 DEDUCED] -/
def freeBuffer (p : Port) (vc : Nat) (s : State) : State :=
  let l := s.link p
  let i := finOf 3 vc
  s.setLink p { l with owed := vset l.owed i (vget l.owed i + 1), room := vset l.room i (vget l.room i + 1) }

/-! ### Where an accepted packet goes -/

/-- Answer a request packet with a status and no data. [log 32 DESIGN CHOICE] -/
def answerPacket (k : Packet) (st : Status) (s : State) : State :=
  let (t, vc) := answerType k.type
  let body := if t = 0x12 then leBytes 4 0 ++ leBytes 6 k.addr ++ [st.code, 0] else []
  let flags : Byte := if t = 0x10 && vc = 3 then 1 else 0
  sendPacket .us (mkPacket s vc t k.tag st.code flags k.addr k.dest body) s

/-- The ENUM_RSP of this unit (R128, R135). -/
def enumResponse (s : State) (tag : Byte) (st : Status) (hops : Byte) : Packet :=
  let flags := b2n s.nightlight + 2 * b2n (s.flag F.CFG_STATUS_DONE) + 4 * b2n (s.flag F.SVP_HOLD_HOLD)
  mkPacket s 2 0x21 tag st.code 0 0 0
    (leBytes 4 0x00019640 ++ [Config.revision, hops, BitVec.ofNat 8 flags, 0] ++
      leBytes 4 (Config.serial 0).toNat ++ leBytes 4 (Config.serial 1).toNat)

/-- A packet that cannot go on downstream (R124); an ENUM found no unit there (R130). -/
def unreachable (k : Packet) (s : State) : State :=
  if k.type = 0x20 then sendPacket .us (enumResponse s k.tag .noUnit (byteAt k.bytes 17 - 1)) s
  else if k.dest = 0xFF then s
  else if k.type = 0x03 then (if k.lastFlag then answerPacket k .unreachable s else s)
  else answerPacket k .unreachable s

/-- A packet for downstream (R119, R123, R124). A link that retrains, or trains for the first time, does not count as returning
to Active. [log 123 DEDUCED] -/
def forwardDown (k : Packet) (s : State) : State :=
  let l := s.fil.ds
  if l.state = .active || l.waking then sendPacket .ds k s
  else if l.state = .doze || l.state = .sleep then sendPacket .ds k (wakeDown s)
  else unreachable k s

/-- Put a packet among those this unit took. [log 38 DEDUCED] -/
def takePacket (k : Packet) (s : State) : State := { s with fil := { s.fil with inbox := s.fil.inbox ++ [k] } }

/-- A packet for this unit (R116, R186): while the part is halted it answers HALTED, what breaks a rule is answered BAD_PACKET
unless it is posted or no request at all, and everything else waits for its command. [log 123 DEDUCED] -/
def takeOwn (k : Packet) (s : State) : State :=
  if s.halted && k.type != 0x32 && k.type != 0x30 && k.type != 0x34 then
    let s := freeBuffer .us k.vc s
    if (k.type = 0x03 && !k.lastFlag) || unitType k.type then s else answerPacket k .halted s
  else if badPacketRule k then
    let s := raise 226 (freeBuffer .us k.vc s)
    if k.type = 0x03 || unitType k.type then s else answerPacket k .badPacket s
  else takePacket k s

/-- A packet from upstream leaves this unit downstream; a broadcast is taken too (R119). -/
def goDown (k : Packet) (s : State) : State :=
  if k.dest = 0xFF then takeOwn k (forwardDown k s) else forwardDown k (freeBuffer .us k.vc s)

/-- The packets that waited behind an ENUM go on, as far as the next ENUM (R122). -/
def flushBehind : List Packet → State → State
  | [], s => { s with fil := { s.fil with behind := [] } }
  | k :: l, s => if k.type = 0x20 then { s with fil := { s.fil with behind := k :: l } } else flushBehind l (goDown k s)

/-- An ENUM has arrived that has not gone on downstream. -/
def FilS.enumWaits (f : FilS) : Bool :=
  f.enumHeld.isSome || !f.behind.isEmpty || f.inbox.any (fun x => x.type == 0x20)

/-- A packet from upstream goes on downstream, an ENUM by its own command, and VC2 packets behind it (R122). -/
def passDown (k : Packet) (s : State) : State :=
  if k.type = 0x20 ∨ (k.vc = 2 ∧ s.fil.enumWaits) then { s with fil := { s.fil with behind := s.fil.behind ++ [k] } }
  else goDown k s

/-- A packet accepted from upstream (R116, R117, R119, R125, R128, R186). [log 31 DEDUCED, log 123 DEDUCED] -/
def acceptFromUpstream (k : Packet) (s : State) : State :=
  if k.type = 0x20 then
    let s := { s with fil := { s.fil with enumSeen := true } }
    if s.fil.addr = 0 then takePacket k s else passDown k s
  else if s.fil.addr = 0 then freeBuffer .us k.vc s
  else if k.dest = s.fil.addr then takeOwn k s
  else passDown k s

/-- Bytes 1 to 6 of the SOP word of a packet (R108, R112). -/
def sopBytes (vc : Nat) (seq words : Nat) : List Byte :=
  [BitVec.ofNat 8 vc] ++ leBytes 2 seq ++ [BitVec.ofNat 8 words, 0, 0]

/-- Send one NAK naming the expected SEQ, then wait for it (R148): `again` when that SEQ has arrived and was bad. -/
def sendNak (p : Port) (again : Bool) (s : State) : State :=
  let l := s.link p
  if l.nakSent && !again then s
  else sendWord p (linkWord 0x66 (leBytes 2 l.rxSeq)) (s.setLink p { l with nakSent := true })

/-- Send an ACK with the SEQ of the last packet accepted in order (R147). -/
def sendAck (p : Port) (s : State) : State :=
  let l := s.link p
  sendWord p (linkWord 0x55 (leBytes 2 ((l.rxSeq + 4095) % 4096))) (s.setLink p { l with ackOwed := 0 })

/-- One more acknowledgement is owed; the sixteenth goes at once (R147, R148). -/
def oweAck (p : Port) (s : State) : State :=
  let l := s.link p
  let s := s.setLink p { l with ackOwed := l.ackOwed + 1 }
  if 16 ≤ l.ackOwed + 1 then sendAck p s else s

/-! ### Blocks on the lanes (R101 to R105, R108, R111) -/

/-- The blocks of what is put on a link: control or data, and their bytes. -/
def WireItem.blocks : WireItem → List (Bool × List Byte)
  | .word b => [(true, b)]
  | .pair a b => [(true, a), (true, b)]
  | .packet q k crc =>
    (true, linkWord 0x2D (sopBytes k.vc q k.words)) ::
      ((List.range k.words).map fun i => (false, (padTo (8 * k.words) k.bytes).drop (8 * i) |>.take 8)) ++
      [(true, linkWord 0x4B ([0, 0] ++ leBytes 4 crc.toNat))]

/-- Blocks take the slots from number `k` on; each lane's alignment marker takes its slot every 16,384 blocks (R103, R104).
[log 123 DEDUCED] -/
def laySlots : Nat → List (Bool × List Byte) → List (Nat × Bool × List Byte)
  | _, [] => []
  | k, b :: l =>
    if k % 32768 = 0 then
      (k, true, linkWord 0x3C [0]) :: (k + 1, true, linkWord 0x3C [1]) :: (k + 2, b.1, b.2) :: laySlots (k + 3) l
    else (k, b.1, b.2) :: laySlots (k + 1) l

/-- The blocks as they leave: block k on lane k mod 2, its sync header first, its bits through the lane's scrambler (R101, R103,
R105). -/
def sendBlocks : List (Nat × Bool × List Byte) → Vector (BitVec 58) 2 → List Block × Vector (BitVec 58) 2
  | [], scr => ([], scr)
  | (k, c, b) :: l, scr =>
    let i := finOf 1 k
    let (bits, st) := scramble58 (vget scr i) (bitsLsb b)
    let (rest, scr') := sendBlocks l (vset scr i st)
    (⟨k % 2, c, b, c :: (!c) :: bits⟩ :: rest, scr')

/-- Put something on the link; what leaves as a pair begins in an even slot, behind an IDLE word when need be (R103, R153). -/
def putItem (p : Port) (x : WireItem) (s : State) : State :=
  let l := s.link p
  let align := match x with
    | .pair _ _ => if l.blockNo % 2 = 1 then [(true, linkWord 0x1E [])] else []
    | _ => []
  let slots := laySlots l.blockNo (align ++ x.blocks)
  let (bl, scr) := sendBlocks slots l.scr
  s.setLink p { l with wire := some x, blocks := bl, blockNo := l.blockNo + slots.length, scr := scr }

/-- An IDLE word (R108). -/
def putIdle (p : Port) (s : State) : State := putItem p (.word (linkWord 0x1E [])) s

/-- The TRAIN words of a port, one on each lane (R108): its READY is a free value, its address the unit's, and its initial
credits the buffers that hold no packet (R142, R143). [log 30 DESIGN CHOICE, log 31 DEDUCED] -/
def putTrain (p : Port) (s : State) : State :=
  let ready := s.free % 2
  let word := fun (lane : Nat) => linkWord 0xF0
    ([BitVec.ofNat 8 (lane + 2 * ready), s.fil.addr] ++ (s.link p).room.toList.map (BitVec.ofNat 8))
  putItem p (.pair (word 0) (word 1)) s.draw

/-! ### Commands: link words and training -/

/-- A bad word of a sync pair counts the pair as missed, once for its two words, which arrive together (R156).
[log 25 DEDUCED] -/
def badSyncWord (s : State) : State :=
  if s.tt.badSync.any (fun t => decide (s.clk.now < t + 1000)) then s
  else syncMissed { s with tt := { s.tt with badSync := some s.clk.now } }

/-- BAD_LINK_WORD (R107, R156): a CHAIN unit counts a sync pair with such a word as missed. [log 25 DEDUCED] -/
def execBadLinkWord (p : Port) (b : List Byte) (s : State) : Out :=
  .next (whenB (s.rst.coreUp && badWord b) (fun s =>
    let sync := p == .us && s.ttSource == 2 && (byteAt b 0 == 0x87 || byteAt b 0 == 0x99)
    whenB sync badSyncWord (s.incSat (errField p 2))) s)

/-- A link whose neighbour trains begins to train: one that is Down, or the upstream one out of Sleep (R140, R162). -/
def startTraining (p : Port) (now : Nat) (l : Link) : Link :=
  if l.state = .down then { l with state := .training, since := now, ready0 := 0, ready1 := 0 }
  else if p = .us ∧ l.state = .sleep then
    { l with state := .training, waking := true, since := now, ready0 := 0, ready1 := 0 }
  else l

/-- TRAIN (R110, R126, R143): consecutive READY words are counted on each lane; a link that is Down trains again.
[log 30 DESIGN CHOICE] -/
def execTrain (p : Port) (lane : Fin 2) (ready : Bool) (sender : Byte) (credits : List Byte) (s : State) : Out :=
  .next (
    let l := startTraining p s.clk.now (s.link p)
    if s.filUp && l.state == .training then
      let l := { l with
        neighbour := sender
        lastRx := s.clk.now
        initCredits := Vector.ofFn fun i => (byteAt credits i.val).toNat }
      s.setLink p (if lane = 0 then { l with ready0 := if ready then l.ready0 + 1 else 0 }
        else { l with ready1 := if ready then l.ready1 + 1 else 0 })
    else s)

/-- What waited behind an ENUM that has gone on goes on, unless another ENUM is before it (R122). -/
def enumGone (s : State) : State :=
  if s.fil.enumHeld.isSome || s.fil.inbox.any (fun x => x.type == 0x20) then s else flushBehind s.fil.behind s

/-- The downstream link is Active: the held ENUM goes on, and what waited behind it (R122, R130). -/
def downstreamActive (s : State) : State :=
  match s.fil.enumHeld with
  | some (k, _) => enumGone (sendPacket .ds k { s with fil := { s.fil with enumHeld := none } })
  | none => s

/-- What training brings (R110, R139, R143, R146, R149): the credits take their initial values, SEQ restarts only from Down,
words of before are gone, and unacknowledged packets are sent again. -/
def linkTrained (now : Nat) (l : Link) : Link :=
  { l with
    state := .active, activeAt := now, lastRx := now, unackedAt := now
    credits := l.initCredits, owed := Vector.replicate 4 0, words := []
    txSeq := if l.fromDown then 0 else l.txSeq
    rxSeq := if l.fromDown then 0 else l.rxSeq
    accepted := if l.fromDown then 0 else l.accepted
    fromDown := false, unacked := l.unacked.map fun x => { x with replays := 0 }
    replay := l.unacked.map Sent.seq, nakSent := false }

/-- What a return from Doze or Sleep brings (R165): the link has kept its state. -/
def linkWoken (now : Nat) (l : Link) : Link :=
  { l with state := .active, waking := false, activeAt := now, lastRx := now, unackedAt := now }

/-- LINK_ACTIVE (R110, R139, R143, R146, R165, R173): a link has trained, or has returned from Doze, or from Sleep by training.
[log 5 DESIGN CHOICE, log 30 DESIGN CHOICE, log 33 DEDUCED] -/
def execLinkActive (p : Port) (s : State) : Out :=
  .next (
    let l := s.link p
    if s.filUp && l.state == .training && decide (16 ≤ l.ready0 ∧ 16 ≤ l.ready1) then
      let s := s.setLink p (if l.waking then linkWoken s.clk.now l else linkTrained s.clk.now l)
      match p with
      | .us => { s with tt := { s.tt with echoNext := s.clk.now } }
      | .ds => downstreamActive (if l.waking then s else raise 222 (sendNotice 1 l.neighbour 0 s))
    else if s.rst.coreUp && l.state == .doze && (l.waking || p == .us) then
      let s := s.setLink p (linkWoken s.clk.now l)
      match p with
      | .us => s
      | .ds => downstreamActive s
    else s)

/-- LINK_SILENCE_TIMEOUT (R136): no valid block for 10 us. -/
def execLinkSilenceTimeout (p : Port) (s : State) : Out :=
  .next (whenB (s.isActive p && decide ((s.link p).lastRx + 10000 ≤ s.clk.now)) (retrain p) s)

/-- RETRAIN_US (R136, R190). -/
def execRetrainUs (p : Partner) (v : Word) (s : State) : Out :=
  .next (viaPartner p R.FIL_CTRL (filCtrlWrite (v ||| 0x200)) s)

/-- RETRAIN_DS (R136, R190). -/
def execRetrainDs (p : Partner) (v : Word) (s : State) : Out :=
  .next (viaPartner p R.FIL_CTRL (filCtrlWrite (v ||| 0x100)) s)

/-- A link is Down (R152): its unacknowledged packets and its words are discarded. -/
def linkDown (l : Link) : Link :=
  { l with state := .down, fromDown := true, unacked := [], replay := [], words := [], waking := false }

/-- LINK_TRAIN_TIMEOUT (R124, R137, R138, R140, R141, R152): 1 ms of training without success; the link is Down. A downstream
link from which nothing was heard since training began has lost its signal, and packets that wait for it go as R124 says.
[log 5 DESIGN CHOICE, log 33 DEDUCED] -/
def execLinkTrainTimeout (p : Port) (s : State) : Out :=
  .next (
    let l := s.link p
    if s.filUp && l.state == .training && decide (l.since + 1000000 ≤ s.clk.now) then
      match p with
      | .us => raise 225 (s.setLink .us (linkDown l))
      | .ds =>
        let s := s.setLink .ds { linkDown l with queue := [] }
        forEach l.queue unreachable (raise 223 (sendNotice 2 l.neighbour (if l.lastRx ≤ l.since then 2 else 1) s))
    else s)

/-! ### Commands: packets, acknowledgement, credits -/

/-- PACKET_RECEIVE (R112, R116, R119, R142, R147, R148): a packet for which no buffer is free is not accepted.
[log 31 DEDUCED, log 40 DESIGN CHOICE] -/
def execPacketReceive (p : Port) (vc : Fin 4) (seq : BitVec 12) (words : BitVec 6) (bytes : List Byte) (crc : Word)
    (s : State) : Out :=
  .next (
    if s.isActive p then
      let s := heard p s
      let l := s.link p
      let expected := seq.toNat == l.rxSeq
      let back := (l.rxSeq + 4096 - seq.toNat) % 4096
      if crc32 (sopBytes vc.val seq.toNat words.toNat ++ bytes) != crc then
        sendNak p expected (s.incSat (errField p 2))
      else if expected then
        if vget l.room vc = 0 then sendNak p true s
        else
          let s := oweAck p (s.setLink p { l with
            rxSeq := (l.rxSeq + 1) % 4096, accepted := min 64 (l.accepted + 1), nakSent := false
            room := vset l.room vc (vget l.room vc - 1) })
          let k : Packet := ⟨vc.val, words.toNat, bytes⟩
          match p with
          | .us => acceptFromUpstream k s
          | .ds => { s with fil := { s.fil with upQueue := s.fil.upQueue ++ [k] } }
      else if back ≤ l.accepted then oweAck p s
      else sendNak p false s
    else s)

/-- PACKET_FORWARD_UPSTREAM (R120, R122): the oldest packet from downstream goes to the upstream port unchanged.
[log 31 DEDUCED] -/
def execPacketForwardUpstream (s : State) : Out :=
  .next (match s.fil.upQueue with
    | [] => s
    | k :: rest =>
      sendPacket .us k (freeBuffer .ds k.vc { s with fil := { s.fil with upQueue := rest } }))

/-- The EVENT packet of a released message (R170). [log 39 DEDUCED] -/
def eventPacket (s : State) (m : HostMsg) : Packet :=
  let bits := (List.range 32).map fun i =>
    BitVec.ofNat 8 ((List.range 8).foldl (fun acc j => acc + b2n (m.bitmap.contains (8 * i + j)) * 2 ^ j) 0)
  mkPacket s 2 0x40 m.tag 0 (if m.held then 2 else 0) 0 0 (leBytes 8 m.tt.toNat ++ bits)

/-- The virtual channels a new packet is looked for on, in order: VC2, then VC1, VC0 and VC3 in round robin (R144).
[log 11 DESIGN CHOICE] -/
def vcOrder (rr : Nat) : List Nat :=
  match rr % 3 with
  | 0 => [2, 1, 0, 3]
  | 1 => [2, 0, 3, 1]
  | _ => [2, 3, 1, 0]

/-- The first waiting packet that may be sent: its channel has a credit and comes first in the order. [log 39 DEDUCED] -/
def nextPacket (l : Link) : Option Packet :=
  (vcOrder l.rr).findSome? fun vc =>
    if vget l.credits (finOf 3 vc) = 0 then none else l.queue.find? (fun k => k.vc == vc)

/-- The round-robin position after a packet of a channel. -/
def rrAfter (rr vc : Nat) : Nat := if vc = 1 then 1 else if vc = 0 then 2 else if vc = 3 then 0 else rr

/-- The CRC-32 of the next packet, of which an injection flips one bit (R112, R908 code 0x07); which one is free.
[log 123 DEDUCED] -/
def packetCrc (p : Port) (seq : Nat) (k : Packet) (s : State) : Word × State :=
  let crc := crc32 (sopBytes k.vc seq k.words ++ k.bytes)
  match injArmed s 7 (match p with | .us => 0 | .ds => 1) none with
  | some _ => (crc ^^^ (1 <<< (s.free % 32)), injUsed s.draw)
  | none => (crc, s)

/-- The packet is this unit's own answer that accepts a RESET. -/
def acceptsReset (s : State) (p : Port) (k : Packet) : Bool :=
  p == .us && k.type == 0x35 && k.src == s.fil.addr && byteAt k.bytes 6 == 0

/-- Put a packet with its SEQ on the link. -/
def putPacket (p : Port) (seq : Nat) (k : Packet) (s : State) : State :=
  let (crc, s) := packetCrc p seq k s
  putItem p (.packet seq k crc) s

/-- Put a new packet on the link: it takes a credit and the next SEQ, and is kept until it is acknowledged (R143, R149).
The answer to an accepted RESET starts its microsecond (R185). -/
def putOnLink (p : Port) (k : Packet) (s : State) : State :=
  let s := if acceptsReset s p k then { s with fil := { s.fil with resetAt := some s.clk.now } } else s
  let s := putPacket p (s.link p).txSeq k s
  let l := s.link p
  let i := finOf 3 k.vc
  s.setLink p { l with
    credits := vset l.credits i (vget l.credits i - 1)
    unacked := l.unacked ++ [⟨l.txSeq, k, 0⟩]
    unackedAt := if l.unacked.isEmpty then s.clk.now else l.unackedAt
    txSeq := (l.txSeq + 1) % 4096
    rr := rrAfter l.rr k.vc }

/-- The words that announce a step (R108, R158). -/
def stepWords (p : StepPending) : List (List Byte) :=
  [linkWord 0xAA (leBytes 4 (BitVec.ofInt 32 p.amount).toNat), linkWord 0xB4 (leBytes 4 (p.at_.toNat / 2 ^ 32)),
    linkWord 0xBB (leBytes 4 p.at_.toNat)]

/-- The SYNC_A and SYNC_B that leave now (R108, R153, R154): HOPS, HOLDOVER, VALID, STEP and TT. -/
def syncWords (s : State) : List Byte × List Byte :=
  let hops := if s.ttSource = 2 then s.get F.TT_STATUS_HOPS else 0
  let flags := b2n (s.flag F.TT_STATUS_HOLDOVER) + 2 * b2n (s.flag F.TT_STATUS_RUNNING) + 4 * b2n s.tt.step.isSome
  (linkWord 0x87 ([BitVec.ofNat 8 hops, BitVec.ofNat 8 flags] ++ leBytes 4 (s.tt.tt.toNat / 2 ^ 32)),
    linkWord 0x99 (leBytes 4 s.tt.tt.toNat))

/-- Put a waiting link word on the link; `rest` still waits. A sync pair is followed by the triple of a step that waits (R158,
R159), and an ECHO_RSP gives the time since its ECHO_REQ arrived (R157). -/
def putOut (p : Port) (x : LinkOut) (rest : List LinkOut) (s : State) : State :=
  let s := s.setLink p { s.link p with words := rest }
  match x with
  | .word b => putItem p (.word b) s
  | .syncPair =>
    let triple := match s.tt.step with
      | some q => (stepWords q).map LinkOut.word
      | none => []
    let (a, b) := syncWords s
    putItem p (.pair a b) (s.setLink p { s.link p with words := triple ++ rest })
  | .echoReq tag => putItem p (.word (linkWord 0xC3 [tag])) { s with tt := { s.tt with echoAt := some s.clk.now } }
  | .echoRsp tag t => putItem p (.word (linkWord 0xD2 (tag :: leBytes 4 (64 * (s.clk.now - t))))) s

/-- The packet that comes after link words and replays (R144, R149, R173): the held EVENT, for which everything else waits, then
released EVENT messages, then the next packet by channel; 64 packets at most wait for their ACK. [log 39 DEDUCED] -/
def putNew (p : Port) (s : State) : State :=
  let l := s.link p
  if 64 ≤ l.unacked.length then putIdle p s
  else match p, s.evc.held, s.evc.out with
    | .us, some m, _ =>
      if vget l.credits 2 = 0 then putIdle p s
      else
        let s := putOnLink p (eventPacket s m) { s with evc := { s.evc with held := none } }
        { s with evc := s.evc.startPending s.evcEnv }
    | .us, none, m :: ms =>
      if vget l.credits 2 = 0 then
        match nextPacket l with
        | some k => putOnLink p k (s.setLink p { l with queue := l.queue.erase k })
        | none => putIdle p s
      else putOnLink p (eventPacket s m) { s with evc := { s.evc with out := ms } }
    | _, _, _ =>
      match nextPacket l with
      | some k => putOnLink p k (s.setLink p { l with queue := l.queue.erase k })
      | none => putIdle p s

/-- One more replay of the packet with a SEQ. -/
def replayed (q : Nat) (l : Link) : Link :=
  { l with unacked := l.unacked.map fun x => if x.seq = q then { x with replays := x.replays + 1 } else x }

/-- What an Active port sends next (R144). -/
def transmit (p : Port) (s : State) : State :=
  let l := s.link p
  match l.words, l.replay with
  | w :: ws, _ => putOut p w ws s
  | [], q :: qs =>
    let s := s.setLink p { l with replay := qs }
    match l.unacked.find? (fun x => x.seq == q) with
    | some x => putPacket p q x.packet s
    | none => putIdle p s
  | [], [] => putNew p s

/-- PACKET_TRANSMIT (R108, R140, R143, R144, R149, R173): an Active port sends link words first, then replays, then the held EVENT,
then new packets, else IDLE; a port that trains sends TRAIN words. [log 39 DEDUCED] -/
def execPacketTransmit (p : Port) (s : State) : Out :=
  .next (
    if s.isActive p then transmit p s
    else whenB (s.filUp && ((s.link p).state == .training || (p == .us && s.fil.us.state == .down))) (putTrain p) s)

/-- ACK_SEND (R147): the SEQ of the last packet accepted in order. -/
def execAckSend (p : Port) (s : State) : Out :=
  .next (whenB (s.isActive p && (s.link p).ackOwed != 0) (sendAck p) s)

/-- The packets still unacknowledged once every packet up to a SEQ has been acknowledged. -/
def ackThrough (seq : Nat) (l : List Sent) : List Sent :=
  if l.any (fun x => x.seq == seq) then (l.dropWhile (fun x => x.seq != seq)).drop 1 else l

/-- ACK (R149). -/
def execAck (p : Port) (seq : BitVec 12) (s : State) : Out :=
  .next (
    if s.hears p then
      let s := heard p s
      let l := s.link p
      let u := ackThrough seq.toNat l.unacked
      s.setLink p { l with
        unacked := u
        replay := l.replay.filter (fun q => u.any (fun y => y.seq == q))
        unackedAt := if u = l.unacked then l.unackedAt else s.clk.now }
    else s)

/-- NAK (R149, R150): the packets from the SEQ named are replayed, also when the link first returns from Doze (R189), and the
fourth replay of a SEQ retrains the link. A NAK that names none of them replays nothing. [log 124 DEDUCED] -/
def execNak (p : Port) (seq : BitVec 12) (s : State) : Out :=
  .next (
    if s.hears p then
      let s := heard p s
      let l := s.link p
      let u := l.unacked.dropWhile (fun x => x.seq != seq.toNat)
      if u.isEmpty then s
      else
        let l := u.foldl (fun l x => replayed x.seq l) l
        let s := s.setLink p { l with replay := u.map Sent.seq }
        let s := raise (linkSource p) (s.incSat (errField p 1))
        if l.unacked.any (fun x => decide (4 ≤ x.replays)) then retrain p s else s
    else s)

/-- ACK_TIMEOUT (R150): unacknowledged packets have waited 10 us. -/
def execAckTimeout (p : Port) (s : State) : Out :=
  .next (
    let l := s.link p
    whenB (s.isActive p && !l.unacked.isEmpty && decide (l.unackedAt + 10000 ≤ s.clk.now)) (retrain p) s)

/-- CREDIT (R143). -/
def execCredit (p : Port) (credits : List Byte) (s : State) : Out :=
  .next (
    if s.hears p then
      let s := heard p s
      let l := s.link p
      s.setLink p { l with credits := Vector.ofFn fun i => vget l.credits i + (byteAt credits i.val).toNat }
    else s)

/-- CREDIT_SEND (R143): the freed buffers are returned in one CREDIT word. -/
def execCreditSend (p : Port) (s : State) : Out :=
  .next (
    let l := s.link p
    if s.isActive p && l.owed.toList.any (fun n => n != 0) then
      sendWord p (linkWord 0x78 (l.owed.toList.map (BitVec.ofNat 8))) (s.setLink p { l with owed := Vector.replicate 4 0 })
    else s)

/-! ### Commands: link power -/

/-- DS_PM (R163, R190): the requested power state of the downstream link is written. -/
def execDsPm (p : Partner) (v : Word) (s : State) : Out :=
  .next (viaPartner p R.FIL_CTRL (filCtrlWrite (v &&& 0x31)) s)

/-- A link leaves Active for Doze or Sleep: no sync word and no echo waits for its return (R162). -/
def linkRests (st : LinkState) (l : Link) : Link :=
  { l with
    state := st, waking := false
    words := l.words.filter fun w => match w with | .word _ => true | _ => false }

/-- Messages that have been released and not sent wait for the link: the first is held (R172, R174, R189). -/
def holdReleased (s : State) : State :=
  let wait := s.evc.out.map fun m => { m with held := true }
  match s.evc.held, wait with
  | none, m :: ms => { s with evc := { s.evc with held := some m, out := ms } }
  | _, _ => { s with evc := { s.evc with out := wait } }

/-- The answer to DOZE_REQ or SLEEP_REQ leaves at once (R164, R174), and an accepting unit's link changes state; a request may
find the link dozing or asleep already (R189). -/
def powerRequest (st : LinkState) (s : State) : State :=
  let l := s.fil.us
  if s.rst.coreUp && (l.state == .active || l.state == .doze || l.state == .sleep) then
    let s := heard .us s
    if l.unacked.isEmpty then
      let s := putItem .us (.word (linkWord 0xE1 [3])) s
      chainSourceLost (holdReleased (s.setLink .us (linkRests st s.fil.us)))
    else putItem .us (.word (linkWord 0xE1 [4])) s
  else s

/-- DOZE_REQ (R164). -/
def execDozeReq (s : State) : Out := .next (powerRequest .doze s)

/-- SLEEP_REQ (R164). -/
def execSleepReq (s : State) : Out := .next (powerRequest .sleep s)

/-- ACCEPT (R162, R163): the downstream link takes the state that DS_PM asks for as the ACCEPT arrives, and returns at once while
FIL_WAKE_N is low (R168). [log 123 DEDUCED] -/
def execAccept (s : State) : Out :=
  .next (
    if s.isActive .ds then
      let s := heard .ds s
      let pm := s.get F.FIL_CTRL_DS_PM
      if pm = 1 then wakeFollow (s.setLink .ds (linkRests .doze s.fil.ds))
      else if pm = 2 then wakeFollow (s.setLink .ds (linkRests .sleep s.fil.ds))
      else s
    else s)

/-- REFUSE (R164): the link stays Active. -/
def execRefuse (s : State) : Out := .next (whenB (s.isActive .ds) (heard .ds) s)

/-- FIL_WAKE_N_LOW (R168): while the line is low, an addressed unit returns its downstream link to Active. -/
def execFilWakeNLow (low : Bool) (s : State) : Out :=
  .next (wakeFollow { s with fil := { s.fil with wakeIn := low } })

end Sys2Proof.Machine
end

