-- ==== Sys2Proof/Machine/SchTable.lean ====
section
/-!
DEFINITION. Sys2Proof/Machine/SchTable.lean: the entries of the schedule tables (11_beacons_schedule.md, R577 to R596): their
fields, when they are due, and which of them are late.
-/

namespace Sys2Proof.Machine

/-- An entry that nothing has written (log 10). -/
def entryZero : Nat → SchEntry := fun _ => ⟨0, 0, 0, 0, false⟩

/-- Entry `k`: entry k mod 1024 of table k / 1024. -/
def State.entry (s : State) (k : Nat) : SchEntry := sget entryZero s.sch.tab k

/-- Replace an entry. -/
def setEntry (k : Nat) (e : SchEntry) (s : State) : State :=
  { s with sch := { s.sch with tab := sset entryZero s.sch.tab k e } }

/-- VALID, and RESULT is PENDING. -/
def SchEntry.armed (e : SchEntry) : Bool := bitOf e.w2.toNat 31 && e.result == 0

/-- BASE is LSC. -/
def SchEntry.onLsc (e : SchEntry) : Bool := bitOf e.w2.toNat 30

/-- LATE_POL is SKIP. -/
def SchEntry.skips (e : SchEntry) : Bool := bitOf e.w2.toNat 29

/-- ACTION. -/
def SchEntry.action (e : SchEntry) : Nat := bitsOf e.w2.toNat 27 24

/-- ARG. -/
def SchEntry.arg (e : SchEntry) : Nat := bitsOf e.w2.toNat 23 0

/-- An LSC time counts as reached (R82). -/
def lscReached (lsc t : BitVec 48) : Bool := decide ((lsc - t).toNat < 2 ^ 47)

/-- The active table: 0 is A, 1 is B. -/
def activeTable (s : State) : Nat := s.get F.SCH_STATUS_ACTIVE

/-- SWAP_AT. -/
def swapAt (s : State) : Nat := s.get64 R.SCH_SWAP_AT_LO R.SCH_SWAP_AT_HI

/-- A swap is armed whose nanosecond comes no later than a time. -/
def swapBy (s : State) (ns : Nat) : Bool := s.sch.swapArmed && decide (swapAt s / 64 ≤ ns)

/-- Change the armed entries of a table that a test picks. -/
def lateWhere (table : Nat) (p : SchEntry → Bool) (s : State) : State :=
  forEach (s.sch.tab.filter fun x => decide (x.1 / 1024 = table) && x.2.armed && p x.2)
    (fun x s => setEntry x.1 { x.2 with late := true } s) s

/-- A time lies in the skipped span of a forward step by `d` at `at_` (R72), which may pass the end of the range (R41). -/
def inSpan (at_ : TT64) (d : Nat) (t : TT64) : Bool := decide (0 < (t - at_).toNat ∧ (t - at_).toNat < d)

/-- The entries in a forward step's skipped span become late (R72, R587): those of the active table, up to an armed swap
(R608). -/
def markSkipped (at_ : TT64) (d : Nat) (s : State) : State :=
  lateWhere (activeTable s) (fun e => !e.onLsc && inSpan at_ d e.time && !swapBy s (ttNs e.time)) s

/-- The Unit is frozen: the nanosecond of the warning still completes (R605, R608). -/
def schFrozen (s : State) : Bool := s.flag F.SCH_STATUS_FROZEN && s.rst.bowAt != some s.clk.now

/-- A swap has fallen due. [log 75 DEDUCED] -/
def swapDue (s : State) : Bool :=
  s.sch.swapArmed && decide (s.sch.swapFrom ≤ s.clk.now ∧ swapAt s / 64 ≤ ttNs s.tt.tt)

/-- An interval of group `g` has ended (R597). -/
def groupDue (s : State) (g : Nat) : Bool :=
  s.flag (F.SCH_GRP_CTRL_EN g) && decide ((vget s.sch.grps (finOf 15 g)).nextEnd ≤ (s.tt.tt.toNat : Int))

/-- Some sample is due. -/
def sampleDue (s : State) : Bool := (List.range 16).any (groupDue s)

/-- A sample, a swap or a TT entry that falls due no later than `t` has not acted yet: it comes before a step at `t` (R73,
R604). -/
def boundaryOpen (s : State) (t : TT64) : Bool :=
  s.works && !schFrozen s && (sampleDue s || swapDue s ||
    s.sch.tab.any fun x => decide (x.1 / 1024 = activeTable s) && x.2.armed && !x.2.onLsc && !x.2.late &&
      decide (x.2.time.toNat ≤ t.toNat) && !swapBy s (ttNs x.2.time))

end Sys2Proof.Machine
end

