-- ==== Sys2Proof/Machine/Tt.lean ====
section
/-!
DEFINITION. Sys2Proof/Machine/Tt.lean: Tester Time (02_tester_time.md) and Tester Time on the chain (03_filament_chain.md):
how it counts, its sources, holdover and relock, slews and steps, sync pairs, echoes, and the Pilot comparators' inputs.
-/

namespace Sys2Proof.Machine

/-! ### Counting (R39, R41, R65, R79) -/

/-- What a slew adds to TT in one nanosecond, and the slew after it (R65, R66): its rate in parts of a million, until its
offset has been applied. -/
def slewPart (s : State) : Int × State :=
  match s.tt.slew with
  | none => (0, s)
  | some w =>
    if w.left = 0 then (0, if w.requested then s else { s with tt := { s.tt with slew := none, slewAcc := 0 } })
    else
      let acc := s.tt.slewAcc + w.left.sign * (64 * w.ppm : Nat)
      let whole := acc.tdiv 1000000
      let take := if w.left.natAbs < whole.natAbs then w.left else whole
      let left := w.left - take
      (take, { s with tt := { s.tt with
        slew := some { w with left := left }, slewAcc := if left = 0 then 0 else acc - 1000000 * whole } })

/-- The interval ends of the statistics groups move with a step (R597). -/
def moveEnds (d : Int) (s : State) : State :=
  { s with sch := { s.sch with grps := s.sch.grps.map fun g => { g with nextEnd := g.nextEnd + d } } }

/-- A request's deadline moves with a step (R77). -/
def Req.moved (d : Int) (r : Req) : Req := { r with deadline := r.deadline + d }

/-- Every deadline in flight moves with a step (R77). -/
def moveDeadlines (d : Int) (s : State) : State :=
  { s with bb := { s.bb with
    points := s.bb.points.map fun p => { p with
      pending := p.pending.map (Req.moved d)
      owner := p.owner.map fun o => { o with req := o.req.moved d }
      next := p.next.map (Req.moved d) }
    bursts := s.bb.bursts.map fun b => { b with req := b.req.moved d } } }

/-- TT passes its largest value: a backward step by the whole range (R41, R77, R78). [log 27 DEDUCED] -/
def wrapEffects (before after : TT64) (s : State) : State :=
  moveEnds (-(2 ^ 64)) (moveDeadlines (-(2 ^ 64))
    (lntStepMarks before after { s with tt := { s.tt with lastStep := some s.clk.now } }))

/-- TT counts one nanosecond while it runs. -/
def ttTick (s : State) : State :=
  if s.flag F.TT_STATUS_RUNNING then
    let (d, s) := slewPart s
    let before := s.tt.tt
    let after := ttAdd before (64 + d)
    let s := { s with tt := { s.tt with tt := after, run := s.tt.run + (64 + d).toNat } }
    if after.toNat < before.toNat then wrapEffects before after s else s
  else s

/-- Line bits of one PCS code unit of a lane; a 66-bit block under RS(544,514) takes 68 (R80, R462). -/
def codeUnitBits (s : State) (lane : Nat) : Nat :=
  match s.get (F.XCV_CFG_PCS lane) with
  | 1 => 10
  | 2 => if s.flag (F.XCV_CFG_MOD lane) && s.get (F.XCV_CFG_FEC lane) == 2 then 68 else 66
  | _ => 130

/-- What `k` symbols add to LSC, and the bits left of an incomplete code unit (R80): unit intervals, or code units of which
`markers`, under RS-FEC, were alignment markers. -/
def lscCount (s : State) (k markers : Nat) : Nat × Nat :=
  let n := s.get F.TT_LSC_CTRL_LANE
  if !s.flag F.TT_LSC_CTRL_UNIT || s.get (F.XCV_CFG_PCS n) = 0 then (k, 0)
  else
    let pam4 := s.flag (F.XCV_CFG_MOD n)
    let bits := s.tt.lscRem + k * (if pam4 then 2 else 1)
    let units := bits / codeUnitBits s n
    let fec := pam4 && s.get (F.XCV_CFG_PCS n) == 2 && s.get (F.XCV_CFG_FEC n) != 0
    (units - (if fec then markers % (units + 1) else 0), bits % codeUnitBits s n)

/-- How many nanoseconds of TT and of LSC are kept. -/
def histLength : Nat := 1024

/-- LSC counts the symbols that its lane received in the nanosecond while it runs; its latest values are kept for R18 and R584.
[log 28 DESIGN CHOICE, log 80 DEDUCED] -/
def lscTick (s : State) : State :=
  if s.flag F.TT_LSC_CTRL_EN then
    let s := { s with tt := { s.tt with lscHist := (s.tt.lsc :: s.tt.lscHist).take histLength } }
    if lscRunning s then
      let (n, r) := lscCount s (Config.rxCount (s.get F.TT_LSC_CTRL_LANE) s.clk.now) s.free
      { s.draw with tt := { s.tt with lsc := s.tt.lsc + BitVec.ofNat 48 n, lscRem := r } }
    else s
  else s

/-- The cycle of an addressing ends: the move of the token raises its event (R31, R36). -/
def moveReported (s : State) : State :=
  if s.fil.moveDue then raise 227 { s with fil := { s.fil with moveDue := false } } else s

/-- One nanosecond of elapsed time. [log 1 DESIGN CHOICE, log 115 DESIGN CHOICE] -/
def timeTick (s : State) : State :=
  let s := moveReported s
  let s := { s with tt := { s.tt with ttHist := (s.tt.tt :: s.tt.ttHist).take histLength } }
  lscTick (ttTick { s with clk := { s.clk with now := s.clk.now + 1 } })

/-! ### Steps (R72 to R78) -/

/-- TT steps by `d` at the instant `at_`: skipped entries, comparators, deadlines and Lantern markers follow; what is held
as a plain number moves by what the value of TT moves. [log 21 DEDUCED, log 27 DEDUCED] -/
def applyStep (at_ : TT64) (d : Int) (s : State) : State :=
  let now := ttAdd s.tt.tt d
  let net : Int := (now.toNat : Int) - s.tt.tt.toNat
  let s := { s with tt := { s.tt with tt := now, lastStep := some s.clk.now } }
  let s := lntStepMarks at_ (ttAdd at_ d) (moveEnds net (moveDeadlines net s))
  if 0 < d then
    forEach (List.range 4) (ttMatchIf fun v => inSpan at_ d.toNat (BitVec.ofNat 64 v)) (markSkipped at_ d.toNat s)
  else s

/-! ### Corrections (R49 to R54, R62 to R64, R982) -/

/-- The last phase error; one that its register cannot hold is a free value. [log 22 DEDUCED] -/
def recordError (e : Int) (s : State) : State :=
  if -(2 ^ 31 : Int) ≤ e ∧ e < 2 ^ 31 then s.set F.TT_SYNC_ERROR_ERROR (BitVec.ofInt 32 e).toNat
  else s.draw.set F.TT_SYNC_ERROR_ERROR s.free

/-- The source is followed again: a unit whose sync words carry HOLDOVER stays in holdover (R982). -/
def relocked (s : State) : State :=
  let s := { s with tt := { s.tt with phasePending := false } }
  if s.tt.holdRx then s
  else leaveHoldover { s with tt := { s.tt with trimmed := true } }

/-- The first phase measurement after the source returned (R62, R63); CHAIN units treat every large error so (R54). An error
that R62 or R63 corrects sets no SYNC_ERR. [log 121 DEDUCED] -/
def relock (e : Int) (s : State) : State :=
  if e.natAbs ≤ 64000 * s.get F.TT_CTRL_RELOCK_US then relocked (slewIn (-e) (cancelUserSlew s))
  else if s.flag F.TT_CTRL_AUTO_STEP then
    let s := cancelUserSlew s
    relocked (applyStep s.tt.tt (-e) s)
  else s.set F.TT_STATUS_SYNC_ERR 1

/-- A measured error of TT is handled (R49, R50, R54); it is the first phase measurement only once the source has returned
(R62, R980). [log 22 DEDUCED] -/
def phaseError (e : Int) (s : State) : State :=
  let s := recordError e s
  if s.tt.phasePending && (s.ttSource == 2 || s.tt.refLocked) then relock e s
  else if e.natAbs ≤ 128 then (if e = 0 then s else slewIn (-e) s)
  else if s.ttSource = 2 then relock e s
  else
    let s := s.set F.TT_STATUS_SYNC_ERR 1
    if s.flag F.TT_CTRL_AUTO_STEP then applyStep s.tt.tt (-e) s else s

/-- TT is set outright (R47, R981): it acts as a step, and cancels a slew asked for (R94); a step that waits stays armed.
[log 21 DEDUCED, log 121 DEDUCED] -/
def setTt (t : TT64) (s : State) : State :=
  let s := cancelUserSlew s
  let s := applyStep s.tt.tt ((t.toNat : Int) - s.tt.tt.toNat) s
  { s.set F.TT_STATUS_EPOCH_VALID 1 with tt := { s.tt with tt := t, slew := none } }

/-! ### Sources (R45, R46, R57 to R59) -/

/-- The TT_REF frequency is one that REF_KHZ lets the part lock to (R46). -/
def refGood (s : State) : Bool :=
  let k := s.get F.TT_REF_CTRL_REF_KHZ
  let d := (s.tt.refKhz - k) + (k - s.tt.refKhz)
  decide (10000 ≤ k ∧ k ≤ 312500 ∧ d * 1000 ≤ k)

/-- The TT_REF multiplier locks, unless the reference is bad (R46); with TT_SYNC_PERIOD 0 that ends holdover (R980).
[log 24 DEDUCED] -/
def refTry (s : State) : State :=
  if refGood s then
    let s := { s.set F.TT_STATUS_REF_BAD 0 with tt := { s.tt with refLocked := true } }
    if s.flag F.TT_STATUS_HOLDOVER then (if s.get F.TT_SYNC_PERIOD_NS = 0 then relocked s else s) else { s.set F.TT_STATUS_LOCKED 1 with tt := { s.tt with trimmed := true } }
  else s.set F.TT_STATUS_REF_BAD 1

/-- The TT_REF multiplier loses lock (R58). -/
def refLost (s : State) : State :=
  if s.ttSource = 1 && s.tt.refLocked then
    enterHoldover { s with tt := { s.tt with refLocked := false } }
  else s

/-- The reference is judged again (R46): a bad one that the multiplier follows loses the lock. [log 24 DEDUCED] -/
def refJudge (s : State) : State :=
  if s.ttSource != 1 then s
  else if !s.tt.refLocked then refTry s
  else if refGood s then s
  else refLost (s.set F.TT_STATUS_REF_BAD 1)

/-- A new source is selected: TT keeps its value and runs unless the source is OFF (R43, R45, R57, R981).
[log 24 DEDUCED, log 121 DEDUCED] -/
def sourceChanged (new : Nat) (s : State) : State :=
  let s := if s.flag F.TT_STATUS_HOLDOVER then raise 173 (s.set F.TT_STATUS_HOLDOVER 0) else s
  let s := ((s.set F.TT_STATUS_LOCKED 0).set F.TT_STATUS_REF_BAD 0).setB F.TT_STATUS_RUNNING (new != 0)
  let s := { s with tt := { s.tt with
    phasePending := new == 2, refLocked := false, holdRx := false, missed := 0 } }
  let s := match s.tt.step with
    | some p => if p.announced then { s.set F.TT_STATUS_ADJ_BUSY 0 with tt := { s.tt with step := none } } else s
    | none => s
  if new = 1 then refTry s else s

/-- A write of TT_CTRL. -/
def ttCtrlWrite (v : Word) (s : State) : State :=
  let old := s.ttSource
  let s := s.writeByAcc R.TT_CTRL v
  if s.ttSource = old then s else sourceChanged s.ttSource s

/-- A write of TT_REF_CTRL: in REF mode the reference is judged again (R46). [log 24 DEDUCED] -/
def refCtrlWrite (v : Word) (s : State) : State := refJudge (s.writeByAcc R.TT_REF_CTRL v)

/-- REF_DELAY as a signed count of 1/64 ns (R47). -/
def refDelay (s : State) : Int := signedOf 12 (s.get F.TT_REF_CTRL_REF_DELAY)

/-- The error of TT at a TT_SYNC edge (R48): how far it is ahead of the nearest expected instant, TT and the epoch taken as
plain numbers. [log 22 DEDUCED] -/
def phaseAt (s : State) : Int :=
  let epoch : Int := s.get64 R.TT_EPOCH_LO R.TT_EPOCH_HI
  let period : Int := (64 * s.get F.TT_SYNC_PERIOD_NS : Nat)
  let r := ((s.tt.tt.toNat : Int) - epoch + refDelay s) % period
  if 2 * r ≤ period then r else r - period

/-- A pulse within 1 us after a step is no phase check (R94). -/
def justStepped (s : State) : Bool :=
  match s.tt.lastStep with
  | some t => decide (s.clk.now < t + 1000)
  | none => false

/-- A TT_SYNC rising edge in REF mode (R47 to R50, R62, R63). An epoch load does not by itself end holdover.
[log 121 DEDUCED] -/
def syncEdge (s : State) : State :=
  if s.ttSource != 1 then s
  else if s.flag F.TT_SYNC_CTRL_ARM then
    let t := ttAdd (BitVec.ofNat 64 (s.get64 R.TT_EPOCH_LO R.TT_EPOCH_HI)) (-refDelay s)
    setTt t ((s.set F.TT_SYNC_CTRL_ARM 0).set F.TT_SYNC_CTRL_EPOCH_LOADED 1)
  else if s.get F.TT_SYNC_PERIOD_NS = 0 || justStepped s then s
  else phaseError (phaseAt s) s

/-- A TT_REF frequency is measured (R46, R58, R62, R980). -/
def refRelock (khz : Nat) (s : State) : State := refJudge { s with tt := { s.tt with refKhz := khz } }

/-! ### TT_ADJ_CTRL (R65 to R69, R94, R979) -/

/-- An adjustment is refused. -/
def adjRefuse (s : State) : State := s.set F.TT_STATUS_ADJ_REFUSED 1

/-- An instant lies less than 4 us ahead, comparing full 64-bit values (R68). -/
def tooSoon (s : State) (at_ : TT64) : Bool := decide (at_.toNat < s.tt.tt.toNat + 256000)

/-- CANCEL (R94, R161). [log 26 DEDUCED] -/
def adjCancel (s : State) : State :=
  match s.tt.step with
  | some p =>
    if p.announced then s
    else if tooSoon s p.at_ then adjRefuse s
    else endAdjust { s with tt := { s.tt with step := none } }
  | none => cancelUserSlew s

/-- GO (R65, R68). -/
def adjGo (s : State) : State :=
  let amount := signedOf 32 (s.get F.TT_ADJ_AMOUNT_AMOUNT)
  let rate := s.get F.TT_ADJ_CTRL_RATE_PPM
  if s.flag F.TT_STATUS_ADJ_BUSY || s.ttSource == 2 then adjRefuse s
  else if s.flag F.TT_ADJ_CTRL_MODE then
    let at_ := BitVec.ofNat 64 (s.get64 R.TT_ADJ_AT_LO R.TT_ADJ_AT_HI)
    if tooSoon s at_ then adjRefuse s
    else { s.set F.TT_STATUS_ADJ_BUSY 1 with tt := { s.tt with step := some ⟨at_, amount, false, 0⟩ } }
  else if rate = 0 || 200 < rate then adjRefuse s
  else
    let own := match s.tt.slew with | some w => w.left | none => 0
    { s.set F.TT_STATUS_ADJ_BUSY 1 with tt := { s.tt with slew := some ⟨amount + own, rate, true⟩ } }

/-- A write of TT_ADJ_CTRL: CANCEL acts before GO (R979). -/
def adjCtrlWrite (v : Word) (s : State) : State :=
  let s := s.writeByAcc R.TT_ADJ_CTRL v
  let s := whenB (F.TT_ADJ_CTRL_CANCEL.on v) adjCancel s
  whenB (F.TT_ADJ_CTRL_GO.on v) adjGo s

/-- The word of a write of TT_ADJ_CTRL. -/
def adjWord (rate : Byte) (cancel step go : Bool) : Word :=
  BitVec.ofNat 32 (256 * rate.toNat + 4 * b2n cancel + 2 * b2n step + b2n go)

/-! ### The TT page (R95) -/

/-- A write of a register of the TT page. -/
def ttWrite (a : Nat) (v : Word) (s : State) : State :=
  if a = R.TT_CTRL then ttCtrlWrite v s
  else if a = R.TT_REF_CTRL then refCtrlWrite v s
  else if a = R.TT_ADJ_CTRL then adjCtrlWrite v s
  else if a = R.TT_LSC_CTRL then lscCtrlWrite v s
  else if R.PLT_CMP_CTRL 0 ≤ a ∧ a ≤ R.PLT_CMP_CTRL 7 then cmpCtrlWrite ((a - R.PLT_CMP_CTRL 0) / 4) v s
  else if R.PLT_TTM 0 0 ≤ a ∧ a ≤ R.PLT_TTM 3 1 then
    ttmWrite ((a - R.PLT_TTM 0 0) / 8) ((a - R.PLT_TTM 0 0) % 8 == 4) v s
  else s.writeByAcc a v

/-- A read of a register of the TT page (R42, R95). -/
def ttRead (a : Nat) (s : State) : Word × State :=
  if a = R.TT_NOW_LO then
    (s.tt.tt.setWidth 32, { s with tt := { s.tt with latchHi := (s.tt.tt >>> 32).setWidth 32 } })
  else if a = R.TT_NOW_HI then (s.tt.latchHi, s)
  else if a = R.TT_LSC_LO then
    (s.tt.lsc.setWidth 32, { s with tt := { s.tt with lscHi := (s.tt.lsc >>> 32).setWidth 16 } })
  else if a = R.TT_LSC_HI then (s.tt.lscHi.setWidth 32, s)
  else (s.readByAcc a, s.clearByAcc a)

/-! ### Sync pairs (R54, R55, R59, R153 to R161, R981, R982) -/

/-- Another 1.024 us of TT have begun, or of the 1 GHz counter while TT stands still (R155, R157). -/
def syncDue (s : State) : Bool :=
  if s.flag F.TT_STATUS_RUNNING then s.tt.tt.toNat / 65536 != s.tt.syncIdx else decide (s.tt.syncAt + 1024 ≤ s.clk.now)

/-- A sync pair is to leave downstream (R153 to R155, R158, R159). -/
def sendSync (s : State) : State :=
  sendOut .ds .syncPair { s with tt := { s.tt with syncIdx := s.tt.tt.toNat / 65536, syncAt := s.clk.now } }

/-- A pair has arrived: an announced step is disarmed when this is the second in a row without a triple, which a pair whose STEP
flag is 1 may still bring (R159). [log 26 DEDUCED] -/
def stepAnnounced (flag : Bool) (s : State) : State :=
  match s.tt.step with
  | some p =>
    let n := p.pairsWithout + 1
    if !p.announced then s
    else if (!flag && decide (2 ≤ n)) || decide (3 ≤ n) then { s.set F.TT_STATUS_ADJ_BUSY 0 with tt := { s.tt with step := none } }
    else { s with tt := { s.tt with step := some { p with pairsWithout := n } } }
  | none => s

/-- A valid sync pair at a CHAIN unit. -/
def syncValid (hops flags : Byte) (t : TT64) (s : State) : State :=
  let s := { s with tt := { s.tt with missed := 0, holdRx := flags.getLsbD 0 } }
  let s := s.set F.TT_STATUS_HOPS (hops.toNat + 1)
  let target := t + BitVec.ofNat 64 (s.get F.TT_HOP_DELAY_DELAY)
  let s := if flags.getLsbD 0 then enterHoldover s
    else if s.flag F.TT_STATUS_HOLDOVER then { s with tt := { s.tt with phasePending := true } } else s
  if s.flag F.TT_STATUS_EPOCH_VALID then phaseError (ttDiff s.tt.tt target) s
  else relocked (setTt target s)

/-- A received sync pair (R54, R156, R159). [log 25 DEDUCED] -/
def syncReceived (hops flags : Byte) (t : TT64) (s : State) : State :=
  if s.ttSource != 2 then s
  else stepAnnounced (flags.getLsbD 2) (if flags.getLsbD 1 then syncValid hops flags t s else syncMissed s)

/-- A received STEP triple at a CHAIN unit (R159, R160, R983): the first one arms the step, unless it has passed; a later one
keeps it armed. [log 23 DEDUCED] -/
def stepReceived (amount : Word) (at_ : TT64) (s : State) : State :=
  if s.ttSource != 2 then s
  else match s.tt.step with
    | some p => { s with tt := { s.tt with step := some { p with pairsWithout := 0 } } }
    | none =>
      if s.tt.tt.toNat < at_.toNat then
        { s.set F.TT_STATUS_ADJ_BUSY 1 with tt := { s.tt with step := some ⟨at_, amount.toInt, true, 0⟩ } }
      else s

/-- TT_HOP_DELAY is the mean of the last 16 measurements (R52, R53). [log 23 DEDUCED] -/
def hopMeasured (m : Nat) (s : State) : State :=
  let l := (m :: s.tt.hopMeas).take 16
  { s.set F.TT_HOP_DELAY_DELAY (l.sum / l.length) with tt := { s.tt with hopMeas := l, echoAt := none } }

/-! ### Commands -/

/-- TT_NOW_LO_READ (R42). -/
def execTtNowLoRead (p : Partner) (s : State) : Out := .next (viaPartnerRead p R.TT_NOW_LO (ttRead R.TT_NOW_LO) s)

/-- TT_CTRL is written while TT_REF measures at `khz`: the same source judges its reference by it (R46). -/
def sourceSelect (khz : Nat) (v : Word) (s : State) : State :=
  let t := ttCtrlWrite v { s with tt := { s.tt with refKhz := khz } }
  if t.ttSource = s.ttSource then refJudge t else t

/-- TT_SOURCE_SELECT (R45): TT_CTRL is written; TT_REF then measures at `refKhz`, 0 when absent. -/
def execTtSourceSelect (p : Partner) (v : Word) (refKhz : Nat) (s : State) : Out :=
  .next (viaPartner p R.TT_CTRL (sourceSelect refKhz v) s)

/-- TT_SYNC_ARM (R47): TT_SYNC_CTRL written with ARM. -/
def execTtSyncArm (p : Partner) (v : Word) (s : State) : Out :=
  .next (viaPartner p R.TT_SYNC_CTRL (fun s => s.writeByAcc R.TT_SYNC_CTRL (v ||| 1)) s)

/-- TT_SYNC_EDGE (R47, R48). -/
def execTtSyncEdge (s : State) : Out := .next (whenB s.rst.coreUp syncEdge s)

/-- TT_REF_LOSS_OF_LOCK (R58). -/
def execTtRefLossOfLock (s : State) : Out := .next (whenB s.rst.coreUp refLost s)

/-- TT_REF_RELOCK (R980). -/
def execTtRefRelock (refKhz : Nat) (s : State) : Out := .next (whenB s.rst.coreUp (refRelock refKhz) s)

/-- SYNC_WORDS_MISSED (R59): eight in a row have been missed. -/
def execSyncWordsMissed (s : State) : Out := .next (whenB s.rst.coreUp chainSourceLost s)

/-- TT_SLEW_START (R65): TT_ADJ_CTRL written with GO and MODE slew. -/
def execTtSlewStart (p : Partner) (rate : Byte) (s : State) : Out :=
  .next (viaPartner p R.TT_ADJ_CTRL (adjCtrlWrite (adjWord rate false false true)) s)

/-- TT_STEP_ARM (R68): TT_ADJ_CTRL written with GO and MODE step. -/
def execTtStepArm (p : Partner) (rate : Byte) (s : State) : Out :=
  .next (viaPartner p R.TT_ADJ_CTRL (adjCtrlWrite (adjWord rate false true true)) s)

/-- TT_ADJ_CANCEL (R979): TT_ADJ_CTRL written with CANCEL, and with GO when `go`. -/
def execTtAdjCancel (p : Partner) (rate : Byte) (step go : Bool) (s : State) : Out :=
  .next (viaPartner p R.TT_ADJ_CTRL (adjCtrlWrite (adjWord rate true step go)) s)

/-- TT_SLEW_COMPLETE (R69). -/
def execTtSlewComplete (s : State) : Out :=
  .next (match s.tt.slew with
    | some w =>
      if w.requested && w.left == 0 then endAdjust { s with tt := { s.tt with slew := none, slewAcc := 0 } } else s
    | none => s)

/-- TT_STEP_APPLY (R67, R69, R70): TT has reached the instant of the step, and what falls due by then has acted (R73). -/
def execTtStepApply (s : State) : Out :=
  .next (match s.tt.step with
    | some p =>
      if p.at_.toNat ≤ s.tt.tt.toNat && !boundaryOpen s p.at_ then
        endAdjust (applyStep p.at_ p.amount { s with tt := { s.tt with step := none } })
      else s
    | none => s)

/-- TT_WRAP (R41): the nanosecond in which TT passes its largest value. [log 1 DESIGN CHOICE, log 27 DEDUCED] -/
def execTtWrap (s : State) : Out :=
  .next (
    let t := timeTick s
    if t.tt.tt.toNat < s.tt.tt.toNat then t else s)

/-- LSC_ENABLE (R79, R984): TT_LSC_CTRL written with EN. -/
def execLscEnable (p : Partner) (v : Word) (s : State) : Out :=
  .next (viaPartner p R.TT_LSC_CTRL (lscCtrlWrite (v ||| 1)) s)

/-- LSC_LO_READ (R95). -/
def execLscLoRead (p : Partner) (s : State) : Out := .next (viaPartnerRead p R.TT_LSC_LO (ttRead R.TT_LSC_LO) s)

/-- PILOT_COMPARATOR_ENABLE (R985, R986): PLT_CMPn_CTRL written with EN. -/
def execPilotComparatorEnable (p : Partner) (n : Fin 8) (v : Word) (s : State) : Out :=
  .next (viaPartner p (R.PLT_CMP_CTRL n.val) (cmpCtrlWrite n.val (v ||| 1)) s)

/-- PILOT_MATCH_VALUE_WRITE (R986). -/
def execPilotMatchValueWrite (p : Partner) (n : Fin 4) (high : Bool) (v : Word) (s : State) : Out :=
  .next (viaPartner p (R.PLT_TTM n.val (b2n high)) (ttmWrite n.val high v) s)

/-- PILOT_TT_MATCH (R986). -/
def execPilotTtMatch (n : Fin 4) (s : State) : Out := .next (ttMatch n.val s)

/-- PILOT_ANALOG_CROSSING (R90): the input of comparator 4 + n, in mV, or for n = 2 in thousandths of a degree, changes. -/
def execPilotAnalogCrossing (n : Fin 3) (level : Int) (s : State) : Out :=
  .next (
    let i := finOf 3 n.val
    let s := { s with tt := { s.tt with cmpIn := vset s.tt.cmpIn n level } }
    analogChange n.val
      (analogOutput n.val (s.get (F.PLT_CMP_CTRL_THRESHOLD (4 + n.val))) (vget s.tt.cmpOut i) level) s)

/-- PILOT_WAKE_EDGE (R87). -/
def execPilotWakeEdge (level : Bool) (s : State) : Out :=
  .next (analogChange 3 level { s with tt := { s.tt with wakePin := level } })

/-- SYNC_PAIR_SEND (R155): another 1.024 us have begun. -/
def execSyncPairSend (s : State) : Out := .next (whenB (s.isActive .ds && syncDue s) sendSync s)

/-- SYNC_PAIR (R54, R59, R981, R982). -/
def execSyncPair (hops : Byte) (flags : Byte) (tt : TT64) (s : State) : Out :=
  .next (whenB (s.isActive .us) (fun s => syncReceived hops flags tt (heard .us s)) s)

/-- STEP_TRIPLE (R159). -/
def execStepTriple (amount : Word) (instant : TT64) (s : State) : Out :=
  .next (whenB (s.isActive .us) (fun s => stepReceived amount instant (heard .us s)) s)

/-- ECHO_MEASUREMENT (R53, R157). -/
def execEchoMeasurement (s : State) : Out :=
  .next (
    if s.isActive .us && s.ttSource == 2 && decide (s.tt.echoNext ≤ s.clk.now) then
      let tag := s.tt.echoTag + 1
      sendOut .us (.echoReq tag) { s with tt := { s.tt with echoTag := tag, echoAt := none, echoNext := s.clk.now + 1000000 } }
    else s)

/-- ECHO_REQ (R157): the answer will carry the time from now until it leaves. -/
def execEchoReq (tag : Byte) (_reserved : List Byte) (s : State) : Out :=
  .next (whenB (s.isActive .ds) (fun s => sendOut .ds (.echoRsp tag s.clk.now) (heard .ds s)) s)

/-- ECHO_RSP (R52, R53): half of the round trip without the turnaround is one measurement. [log 23 DEDUCED] -/
def execEchoRsp (tag : Byte) (turnaround : Word) (s : State) : Out :=
  .next (
    if s.isActive .us then
      let s := heard .us s
      match s.tt.echoAt with
      | some t =>
        if tag = s.tt.echoTag then hopMeasured ((64 * (s.clk.now - t) - turnaround.toNat) / 2) s else s
      | none => s
    else s)

end Sys2Proof.Machine
end

