-- ==== Sys2Proof/Machine/Schedule.lean ====
section
/-!
DEFINITION. Sys2Proof/Machine/Schedule.lean: the Schedule Unit (11_beacons_schedule.md, R577 to R610): committing entries,
firing them, SCH_OUT pins, table swaps, statistics groups and their snapshots, and the freeze at a brown-out warning.
-/

namespace Sys2Proof.Machine

/-! ### Committing an entry (R577 to R580) -/

/-- The action and its arguments are those of the action table (R580). [log 73 DEDUCED] -/
def actionOk (action arg arg2 : Nat) : Bool :=
  match action with
  | 1 | 2 | 3 | 4 | 8 => decide (0 < arg ∧ arg < 2 ^ 16)
  | 5 => decide (arg < 2 ^ 12) && (bitOf arg 3 || bitOf arg 11)
  | 6 => decide (arg < 2 ^ 6) && (bitsOf arg 5 4 != 3 || 0 < arg2)
  | 7 => decide (arg < 24)
  | _ => false

/-- The staging copy of an entry. [log 10 DESIGN CHOICE] -/
def stageOf (s : State) (k : Nat) : SchEntry := sget entryZero s.sch.stage k

/-- The entry is late from the moment it is committed (R587). [log 74 DEDUCED] -/
def lateAtCommit (s : State) (e : SchEntry) : Bool :=
  if e.onLsc then lscRunning s && lscReached s.tt.lsc (e.time.setWidth 48)
  else decide (e.time.toNat < s.tt.tt.toNat + 128000)

/-- A write of word 2 commits the entry (R578, R579). [log 73 DEDUCED] -/
def entryCommit (k : Nat) (v : Word) (s : State) : State :=
  let st := stageOf s k
  let e : SchEntry := ⟨st.time, v &&& 0xEFFFFFFF, 0, st.arg2, false⟩
  if actionOk e.action e.arg e.arg2 && !(e.onLsc && e.time.toNat / 2 ^ 48 != 0) then
    setEntry k { e with late := e.armed && lateAtCommit s e } s
  else (setEntry k { e with w2 := e.w2 &&& 0x7FFFFFFF } s).set F.SCH_STATUS_BAD_ENTRY 1

/-- A write of word `w` of an entry (R578). -/
def entryWrite (k w : Nat) (v : Word) (s : State) : State :=
  if w = 2 then entryCommit k v s
  else
    let e := stageOf s k
    let e := match w with
      | 0 => { e with time := BitVec.ofNat 64 (e.time.toNat / 2 ^ 32 * 2 ^ 32 + v.toNat) }
      | 1 => { e with time := BitVec.ofNat 64 (e.time.toNat % 2 ^ 32 + 2 ^ 32 * v.toNat) }
      | _ => { e with arg2 := bitsOf v.toNat 19 0 }
    { s with sch := { s.sch with stage := sset entryZero s.sch.stage k e } }

/-- Word `w` of a committed entry. [log 10 DESIGN CHOICE] -/
def entryWord (s : State) (k w : Nat) : Word :=
  let e := s.entry k
  match w with
  | 0 => e.time.setWidth 32
  | 1 => (e.time >>> 32).setWidth 32
  | 2 => e.w2
  | _ => BitVec.ofNat 32 (e.result * 2 ^ 29 + e.arg2)

/-! ### What is due (R581, R584, R595, R604, R605) -/

/-- When an entry of the active table fell due: 0 for a late one, else its nanosecond (R581, R584, R85); in the
nanosecond of a freeze an LSC entry whose time had been reached still acts (R94).
[log 74 DEDUCED, log 80 DEDUCED] -/
def dueKey (s : State) (k : Nat) (e : SchEntry) : Option Nat :=
  if !e.armed || k / 1024 != activeTable s then none
  else if e.late then some 0
  else if e.onLsc then
    match s.tt.lscHist.drop 63 with
    | l :: _ => if (lscRunning s || s.tt.frozeAt == some s.clk.now) && lscReached l (e.time.setWidth 48) then some (ttNs s.tt.tt) else none
    | [] => none
  else if ttNs e.time ≤ ttNs s.tt.tt then some (ttNs e.time)
  else none

/-- Of two entries with their keys, the one that acts first (R581). [log 74 DEDUCED] -/
def sooner (a b : Nat × Nat) : Nat × Nat := if b.1 < a.1 || (b.1 == a.1 && decide (b.2 < a.2)) then b else a

/-- The key and number of the entry that acts first. -/
def firstDue (s : State) : Option (Nat × Nat) :=
  (s.sch.tab.filterMap fun x => (dueKey s x.1 x.2).map fun d => (d, x.1)).foldl
    (fun (acc : Option (Nat × Nat)) x => match acc with | none => some x | some y => some (sooner y x)) none

/-- Entry `k` may act now: what R604 puts before it is done. [log 74 DEDUCED] -/
def entryMay (s : State) (k : Nat) : Bool :=
  s.works && !schFrozen s && !sampleDue s &&
    match firstDue s with
    | some (key, j) => j == k && (!swapDue s || decide (key < swapAt s / 64))
    | none => false

/-! ### Firing (R580, R585 to R590) -/

/-- The worse of two outcomes (R590). [log 77 DEDUCED] -/
def Fate.worse (a b : Fate) : Fate := if a.code < b.code then b else a

/-- Entry `k` acts, when it may and its action is the wanted one: its RESULT, and what a late or missed one reports.
[log 74 DEDUCED, log 80 DEDUCED] -/
def fireEntry (k want : Nat) (act : SchEntry → State → Fate × State) (s : State) : State :=
  let e := s.entry k
  if entryMay s k && e.action == want then
    let (f, s) := if e.late && e.skips then (Fate.skipped, s) else act e s
    let s := setEntry k { e with result := f.code, late := false } s
    if f = .onTime then s
    else
      let s := raise 168 (s.set F.SCH_STATUS_LATE 1)
      if e.late || f != .noTarget then (s.set F.SCH_LATE_TABLE (k / 1024)).set F.SCH_LATE_INDEX (k % 1024) else s
  else s

/-- The outcome of an entry that finds its target. -/
def SchEntry.fate (e : SchEntry) : Fate := if e.late then .late else .onTime

/-- An action on each target of a mask, in ascending order. [log 77 DEDUCED] -/
def onTargets (act : Nat → State → Fate × State) (e : SchEntry) (s : State) : Fate × State :=
  (maskBits 16 e.arg).foldl (fun (x : Fate × State) n =>
    let y := act n x.2
    (x.1.worse y.1, y.2)) (e.fate, s)

/-- LNT_START and LNT_STOP act as writes of EN (R538, R540); a Lantern that refuses is no target (R590). [log 77 DEDUCED] -/
def lntAction (en : Bool) (n : Nat) (s : State) : Fate × State :=
  (if en && lntState s n == 0 && lntRefuses s n then .noTarget else .onTime, lntEnWrite n en 2 s)

/-- BCN_START (R557, R575, R589). [log 77 DEDUCED] -/
def bcnStartAction (k : Nat) (e : SchEntry) (s : State) : Fate × State :=
  onTargets (fun n s => bcnStartReq n (if e.late || e.onLsc then s.tt.tt else e.time) (some k) e.skips e.late s) e s

/-- EVENT (R580, R567). -/
def eventAction (e : SchEntry) (s : State) : Fate × State :=
  let s := whenB (bitOf e.arg 3) (raise (160 + bitsOf e.arg 2 0)) s
  (e.fate, whenB (bitOf e.arg 11) (setJumpLine (bitsOf e.arg 7 4) (bitsOf e.arg 10 8)) s)

/-- Drive a pin. [log 76 DEDUCED] -/
def pinDrive (pin : Nat) (high : Bool) (s : State) : State :=
  let bit := BitVec.ofNat 32 (2 ^ pin)
  s.wr R.SCH_PINS (if high then s.rd R.SCH_PINS ||| bit else s.rd R.SCH_PINS &&& ~~~ bit)

/-- PIN (R582): a pulse end that is pending on the pin is cancelled. [log 76 DEDUCED] -/
def pinAction (e : SchEntry) (s : State) : Fate × State :=
  let pin := bitsOf e.arg 3 0
  let op := bitsOf e.arg 5 4
  let cur := bitOf (s.rd R.SCH_PINS).toNat pin
  let high := if op = 0 then true else if op = 1 then false else !cur
  let pulse := if op = 3 then some (s.elapsed + e.arg2, cur) else none
  (e.fate, pinDrive pin high { s with sch := { s.sch with pulse := vset s.sch.pulse (finOf 15 pin) pulse } })

/-- A pulse on a pin ends (R582, R605); a PIN entry due in the same nanosecond goes first (R608). [log 76 DEDUCED] -/
def pulseEnd (pin : Nat) (s : State) : State :=
  match vget s.sch.pulse (finOf 15 pin) with
  | some (t, level) =>
    let first := !schFrozen s && s.sch.tab.any fun x =>
      (dueKey s x.1 x.2).isSome && x.2.action == 6 && bitsOf x.2.arg 3 0 == pin
    if t ≤ s.elapsed && !first then
      pinDrive pin level { s with sch := { s.sch with pulse := vset s.sch.pulse (finOf 15 pin) none } }
    else s
  | none => s

/-! ### Table swap (R591 to R596) -/

/-- An armed swap is given up. -/
def swapOff (s : State) : State :=
  { (s.set F.SCH_SWAP_CTRL_ARM 0).set F.SCH_STATUS_SWAP_ARMED 0 with sch := { s.sch with swapArmed := false } }

/-- A swap is armed (R591, R592). [log 75 DEDUCED] -/
def swapOn (s : State) : State :=
  let passed := decide (swapAt s / 64 < ttNs s.tt.tt)
  let s := whenB passed (fun s => s.set F.SCH_STATUS_SWAP_LATE 1) ((s.set F.SCH_SWAP_CTRL_ARM 1).set F.SCH_STATUS_SWAP_ARMED 1)
  { s with sch := { s.sch with swapArmed := true, swapFrom := if passed then s.clk.now + 1 else s.clk.now } }

/-- A write of SCH_SWAP_CTRL: CANCEL acts before ARM. [log 75 DEDUCED] -/
def swapCtrlWrite (v : Word) (s : State) : State :=
  let s := whenB (F.SCH_SWAP_CTRL_CANCEL.on v) swapOff s
  whenB (F.SCH_SWAP_CTRL_ARM.on v) swapOn s

/-- The active table changes; entries of the new one whose time came before are late (R591, R593, R608). [log 75 DEDUCED] -/
def swapTables (s : State) : State :=
  let t := 1 - activeTable s
  let s := raise 169 (swapOff (s.set F.SCH_STATUS_ACTIVE t))
  lateWhere t (fun e => if e.onLsc then lscRunning s && lscReached s.tt.lsc (e.time.setWidth 48)
    else decide (ttNs e.time < ttNs s.tt.tt)) s

/-- SCH_TABLE_SWAP: the samples of the nanosecond, and the old table's entries of earlier ones, come first. -/
def tableSwap (s : State) : State :=
  let before := match firstDue s with | some (key, _) => decide (key < swapAt s / 64) | none => false
  if s.works && !schFrozen s && swapDue s && !sampleDue s && !before then swapTables s else s

/-! ### Statistics groups (R597 to R603, R610) -/

/-- A group. -/
def State.grp (s : State) (g : Nat) : GrpS := vget s.sch.grps (finOf 15 g)

/-- Change a group. -/
def modGrp (g : Nat) (f : GrpS → GrpS) (s : State) : State :=
  { s with sch := { s.sch with grps := vset s.sch.grps (finOf 15 g) (f (s.grp g)) } }

/-- A group's masks, the lanes' as one number. -/
def grpLanes (s : State) (g : Nat) : Nat := s.get64 (R.SCH_GRP_XCV_LO g) (R.SCH_GRP_XCV_HI g)

/-- INTERVAL in ns. -/
def grpInterval (s : State) (g : Nat) : Nat := s.get64 (R.SCH_GRP_INTERVAL_LO g) (R.SCH_GRP_INTERVAL_HI g)

/-- EN changes to 1 (R597, R600, R610). [log 79 DEDUCED] -/
def groupStart (g : Nat) (s : State) : State :=
  let interval := grpInterval s g
  let none_ := s.get (F.SCH_GRP_LNT_MASK g) == 0 && s.get (F.SCH_GRP_BCN_MASK g) == 0 && grpLanes s g == 0
  if interval < 10000 || none_ then (s.set (F.SCH_GRP_CTRL_EN g) 0).set F.SCH_STATUS_BAD_ENTRY 1
  else
    let start := s.get64 (R.SCH_GRP_START_LO g) (R.SCH_GRP_START_HI g)
    let step := 64 * interval
    let k := if start ≤ s.tt.tt.toNat then (s.tt.tt.toNat - start) / step + 1 else 1
    modGrp g (fun x => { x with nextEnd := ((start + k * step : Nat) : Int), prevTt := BitVec.ofNat 64 start })
      ((s.set (F.SCH_GRP_CTRL_EN g) 1).wr (R.SCH_GRP_SEQ g) 0)

/-- A write of SCH_GRPg_CTRL. -/
def grpCtrlWrite (g : Nat) (v : Word) (s : State) : State :=
  let was := s.flag (F.SCH_GRP_CTRL_EN g)
  let v := if was then (v &&& 0xFFFF) ||| (s.rd (R.SCH_GRP_CTRL g) &&& 0xFFFF0000) else v
  let s := s.writeByAcc (R.SCH_GRP_CTRL g) v
  if !was && (F.SCH_GRP_CTRL_EN g).on v then groupStart g s else s

/-- A write of another group register (R610). -/
def grpOtherWrite (g a : Nat) (v : Word) (s : State) : State :=
  if s.flag (F.SCH_GRP_CTRL_EN g) then s else s.writeByAcc a v

/-- The counters of a Lantern (R599). -/
def lntCounters (s : State) (n : Nat) : List Nat :=
  ((List.range 4).flatMap fun t => [s.get (F.LNT_TAP_FRAMES_COUNT n t),
    s.get64 (R.LNT_TAP_BYTES_LO n t) (R.LNT_TAP_BYTES_HI n t), s.get (F.LNT_TAP_ERRS_COUNT n t)]) ++
  (List.range 8).map fun k => s.get (F.LNT_MU_HITS_COUNT n k)

/-- The counters of a Beacon (R599). -/
def bcnCounters (s : State) (n : Nat) : List Nat :=
  [unitsSent s n, s.get (F.BCN_LOOPS_COUNT n), s.get (F.BCN_UNDERRUNS_COUNT n), s.get (F.BCN_JUMPS_COUNT n)]

/-- The counters of a lane (R599). -/
def laneCounters (s : State) (n : Nat) : List Nat :=
  [(s.lane n).bits.toNat, (s.lane n).errs.toNat, s.get (F.XCV_FEC_CORR_CW n), s.get (F.XCV_FEC_UNCORR_CW n)]

/-- The counters of a group in the order of R599. -/
def grpCounters (s : State) (g : Nat) : List Nat :=
  (maskBits 16 (s.get (F.SCH_GRP_LNT_MASK g))).flatMap (lntCounters s) ++
  (maskBits 16 (s.get (F.SCH_GRP_BCN_MASK g))).flatMap (bcnCounters s) ++
  (maskBits 64 (grpLanes s g)).flatMap (laneCounters s)

/-- A snapshot record (R600). [log 79 DEDUCED] -/
def snapRecord (s : State) (g seq : Nat) (onDemand : Bool) : List Byte :=
  let c := grpCounters s g
  leBytes 1 1 ++ leBytes 1 (g + 16 * activeTable s + 32 * b2n onDemand) ++ leBytes 2 (4 + c.length) ++ leBytes 4 seq ++
    leBytes 8 s.tt.tt.toNat ++ leBytes 8 (s.grp g).prevTt.toNat ++ leBytes 2 c.length ++ List.replicate 6 0 ++
    c.flatMap (leBytes 8)

/-- Where the record of a snapshot goes (R601); with SLOTS 0 the slot is free. [log 78 DESIGN CHOICE] -/
def snapAddr (s : State) (g seq size : Nat) : Nat :=
  let slots := s.get (F.SCH_GRP_CTRL_SLOTS g)
  let slot := if slots = 0 then s.free else seq % slots
  (s.get64 (R.SCH_GRP_DEST_LO g) (R.SCH_GRP_DEST_HI g) + slot * ((size + 63) / 64 * 64)) % 2 ^ 48

/-- The writes of a snapshot enter the Backbone (R602). [log 79 DEDUCED] -/
def snapWrite (g a : Nat) (rec : List Byte) (s : State) : State :=
  let deadline := s.deadlineIn 8000
  forEach (burstsOf a rec.length) (fun x s =>
    let id := s.bb.nextId
    let s := modGrp g (fun y => { y with busy := y.busy ++ [id] }) s
    bbIssue 4 true x.1 ((rec.drop (x.1 - a)).take x.2) x.2 deadline (.snapshot g) s) s

/-- A snapshot is taken, unless the previous one is still being written (R598 to R603). [log 79 DEDUCED] -/
def takeSample (g : Nat) (onDemand : Bool) (s : State) : State :=
  let seq := (s.rd (R.SCH_GRP_SEQ g)).toNat
  let s := s.addWrap (F.SCH_GRP_SEQ_SEQ g) 1
  if !(s.grp g).busy.isEmpty then raise 171 (s.incSat (F.SCH_GRP_MISSED_COUNT g))
  else
    let s := forEach (maskBits 64 (grpLanes s g)) fecGrow s
    let rec_ := snapRecord s g seq onDemand
    let a := snapAddr s g seq rec_.length
    let s := if s.get (F.SCH_GRP_CTRL_SLOTS g) = 0 then s.draw else s
    snapWrite g a rec_ (modGrp g (fun x => { x with prevTt := s.tt.tt, failed := false }) s)

/-- Group `g` comes first among the groups whose interval has ended (R602). -/
def sampleFirst (s : State) (g : Nat) : Bool :=
  groupDue s g && (List.range 16).all fun h =>
    !groupDue s h || decide ((s.grp g).nextEnd < (s.grp h).nextEnd ∨ ((s.grp g).nextEnd = (s.grp h).nextEnd ∧ g ≤ h))

/-- An interval ends. [log 79 DEDUCED] -/
def intervalEnd (g : Nat) (s : State) : State :=
  takeSample g false (modGrp g (fun x => { x with nextEnd := x.nextEnd + ((64 * grpInterval s g : Nat) : Int) }) s)

/-- SNAP (R580): a group that does not run is no target. [log 77 DEDUCED] -/
def snapAction (g : Nat) (s : State) : Fate × State :=
  if s.flag (F.SCH_GRP_CTRL_EN g) then (.onTime, takeSample g true s) else (.noTarget, s)

/-- The snapshot under way is finished; after a freeze the retention record learns how (R607). -/
def snapFinished (g : Nat) (s : State) : State :=
  let frozen := s.flag F.SCH_STATUS_FROZEN
  let bad := (s.grp g).failed
  let s := modGrp g (fun x => { x with
    busy := [], failed := false, done := x.done || (frozen && !bad), fail := x.fail || (frozen && bad) }) s
  if bad then s else raise 170 s

/-- SNAPSHOT_COMMIT (R602): every write of the snapshot that is still awaited has been committed. -/
def snapCommit (g : Nat) (s : State) : State :=
  let ids := (s.grp g).busy
  if !ids.isEmpty && ids.all (fun i => doneStatus s i == some .ok) then snapFinished g (forEach ids dropDone s) else s

/-- SNAPSHOT_WRITE_ERROR (R603): a write of the snapshot was answered with an error. [log 79 DEDUCED] -/
def snapError (g : Nat) (s : State) : State :=
  match (s.grp g).busy.find? (fun i => match doneStatus s i with | some st => st != .ok | none => false) with
  | some i =>
    let s := modGrp g (fun x => { x with busy := x.busy.filter (· != i), failed := true }) (dropDone i s)
    let s := raise 171 (s.set (F.SCH_GRP_CTRL_WR_ERR g) 1)
    if (s.grp g).busy.isEmpty then snapFinished g s else s
  | none => s

/-! ### The freeze (R605 to R607) -/

/-- The Unit freezes behind the nanosecond of the warning. -/
def schFreeze (s : State) : State :=
  { s.set F.SCH_STATUS_FROZEN 1 with sch := { s.sch with frozenTt := ttFloor s.tt.tt, frozenLsc := s.tt.lsc } }

/-- Every snapshot that the Unit started has ended. -/
def snapsEnded (s : State) : Bool := s.sch.grps.toList.all fun x => x.busy.isEmpty

/-- The PENDING TT entry of the active table with the earliest time, and its number. -/
def nextEntry (s : State) : Option (Nat × Nat) :=
  (s.sch.tab.filterMap fun x => if x.1 / 1024 = activeTable s && x.2.armed && !x.2.onLsc then
      some (x.2.time.toNat, x.1 % 1024) else none).foldl
    (fun (acc : Option (Nat × Nat)) x => match acc with | none => some x | some y => some (sooner y x)) none

/-- Bits of the groups that a test picks. -/
def grpBits (s : State) (p : GrpS → Bool) : Nat :=
  (List.range 16).foldl (fun acc g => acc + b2n (p (s.grp g)) * 2 ^ g) 0

/-- Bytes 0x00 to 0x3B of the retention record (R607). -/
def retentionBytes (s : State) : List Byte :=
  let count := satInc (bitsOf (s.rd (R.PLT_RET_PART 0)).toNat 31 16) 0xFFFF
  let run := s.flag F.TT_LSC_CTRL_EN && !s.flag F.TT_LSC_STATUS_FROZEN
  leBytes 1 1 ++ leBytes 1 (activeTable s + 2 * b2n s.sch.swapArmed + 4 * b2n run) ++ leBytes 2 count ++
    leBytes 2 (grpBits s (·.done)) ++ leBytes 2 (grpBits s (·.fail)) ++ leBytes 8 s.sch.frozenTt.toNat ++
    leBytes 6 s.sch.frozenLsc.toNat ++ leBytes 2 0 ++ leBytes 8 (if s.sch.swapArmed then swapAt s else 0) ++
    (match nextEntry s with
      | some (t, i) => leBytes 2 i ++ leBytes 6 0 ++ leBytes 8 t
      | none => leBytes 2 0xFFFF ++ leBytes 6 0 ++ leBytes 8 0) ++ List.replicate 12 0

/-- RETENTION_RECORD_WRITE (R607). -/
def retentionWrite (s : State) : State :=
  if schFrozen s && !s.sch.recorded && snapsEnded s then
    let b := retentionBytes s
    let b := b ++ leBytes 4 (crc32 b).toNat
    forEach (List.range 16) (fun i s => s.wr (R.PLT_RET_PART i) (BitVec.ofNat 32 (leAt b (4 * i) 4)))
      { s with sch := { s.sch with recorded := true } }
  else s

/-! ### Registers of the SCH page (R609) -/

/-- A write of a register of the SCH page. -/
def schWrite (a : Nat) (v : Word) (s : State) : State :=
  let o := a - R.SCH_STATUS
  if a = R.SCH_SWAP_CTRL then swapCtrlWrite v s
  else if 0x80000 ≤ o then entryWrite ((o - 0x80000) / 16) (o % 16 / 4) v s
  else if 0x1000 ≤ o then
    let g := (o - 0x1000) / 0x40
    if a = R.SCH_GRP_CTRL g then grpCtrlWrite g v s else grpOtherWrite g a v s
  else s.writeByAcc a v

/-- A read of a register of the SCH page. -/
def schRead (a : Nat) (s : State) : Word × State :=
  let o := a - R.SCH_STATUS
  if 0x80000 ≤ o then (entryWord s ((o - 0x80000) / 16) (o % 16 / 4), s) else (s.readByAcc a, s.clearByAcc a)

/-! ### Commands -/

/-- SCH_ENTRY_COMMIT (R578, R579): word 2 of an entry is written. -/
def execSchEntryCommit (p : Partner) (entry : Fin 2048) (v : Word) (s : State) : Out :=
  .next (viaPartner p (R.SCH_TABLE (4 * entry.val + 2)) (entryCommit entry.val v) s)

/-- LNT_START (R538, R580). -/
def execLntStart (entry : Fin 2048) (s : State) : Out :=
  .next (fireEntry entry.val 1 (onTargets (lntAction true)) s)

/-- LNT_STOP (R540, R580). -/
def execLntStop (entry : Fin 2048) (s : State) : Out :=
  .next (fireEntry entry.val 2 (onTargets (lntAction false)) s)

/-- BCN_START (R557, R580, R589). -/
def execBcnStart (entry : Fin 2048) (s : State) : Out :=
  .next (fireEntry entry.val 3 (bcnStartAction entry.val) s)

/-- BCN_STOP (R561, R580). -/
def execBcnStop (entry : Fin 2048) (s : State) : Out :=
  .next (fireEntry entry.val 4 (onTargets bcnStopReq) s)

/-- EVENT (R580). -/
def execSchEvent (entry : Fin 2048) (s : State) : Out := .next (fireEntry entry.val 5 eventAction s)

/-- PIN (R582). -/
def execSchPin (entry : Fin 2048) (s : State) : Out := .next (fireEntry entry.val 6 pinAction s)

/-- SCH_PULSE_END (R582). -/
def execSchPulseEnd (pin : Fin 16) (s : State) : Out := .next (whenB s.works (pulseEnd pin.val) s)

/-- RELOAD (R342, R586). -/
def execSchReload (entry : Fin 2048) (s : State) : Out :=
  .next (fireEntry entry.val 7 (fun e s => (e.fate, cfgReload e.arg s)) s)

/-- SNAP (R580). -/
def execSchSnap (entry : Fin 2048) (s : State) : Out := .next (fireEntry entry.val 8 (onTargets snapAction) s)

/-- SCH_SWAP_ARM (R591, R592): SCH_SWAP_CTRL written with ARM. -/
def execSchSwapArm (p : Partner) (v : Word) (s : State) : Out :=
  .next (viaPartner p R.SCH_SWAP_CTRL (swapCtrlWrite (v ||| 1)) s)

/-- SCH_TABLE_SWAP (R591 to R595). -/
def execSchTableSwap (s : State) : Out := .next (tableSwap s)

/-- SCH_SWAP_CANCEL (R596): SCH_SWAP_CTRL written with CANCEL. -/
def execSchSwapCancel (p : Partner) (v : Word) (s : State) : Out :=
  .next (viaPartner p R.SCH_SWAP_CTRL (swapCtrlWrite (v ||| 2)) s)

/-- STATS_GROUP_ENABLE (R597, R610): SCH_GRPg_CTRL written with EN. -/
def execStatsGroupEnable (p : Partner) (g : Fin 16) (v : Word) (s : State) : Out :=
  .next (viaPartner p (R.SCH_GRP_CTRL g.val) (grpCtrlWrite g.val (v ||| 1)) s)

/-- STATS_SAMPLE (R597 to R602). -/
def execStatsSample (g : Fin 16) (s : State) : Out :=
  .next (whenB (s.works && !schFrozen s && sampleFirst s g.val) (intervalEnd g.val) s)

/-- SNAPSHOT_COMMIT (R602). -/
def execSnapshotCommit (g : Fin 16) (s : State) : Out := .next (whenB s.works (snapCommit g.val) s)

/-- SNAPSHOT_WRITE_ERROR (R603). -/
def execSnapshotWriteError (g : Fin 16) (s : State) : Out := .next (whenB s.works (snapError g.val) s)

/-- RETENTION_RECORD_WRITE (R607). -/
def execRetentionRecordWrite (s : State) : Out := .next (whenB s.works retentionWrite s)

end Sys2Proof.Machine
end

