-- ==== Sys2Proof/Machine/Psiom.lean ====
section
/-!
DEFINITION. Sys2Proof/Machine/Psiom.lean: the Psiom store (17_psiom_store.md): its commands, their pulses, key copies, reads
through the window and the store scan.
-/

namespace Sys2Proof.Machine

/-! ### Key copies (R866 to R868) -/

/-- The 128 bytes of a copy of a slot. -/
def copyBytes (s : State) (slot copy : Nat) : List Byte := psmBytes s (4096 * copySector slot copy) 128

/-- A copy is valid (R867). -/
def copyValid (s : State) (slot copy : Nat) : Bool :=
  let b := copyBytes s slot copy
  (psmSector s (copySector slot copy)).state == .written &&
    (List.range 8).all (fun u =>
      let x := psmUnit s (256 * copySector slot copy + u)
      x != .uncorrectable && x != .unverified) &&
    (crc32 (b.take 104)).toNat == leAt b 104 4 && leAt b 100 1 == slot && leAt b 101 1 == copy &&
    leAt b 112 4 == leAt b 96 4 && (b.drop 116) == commitPat

/-- The generation of a copy. -/
def copyGen (s : State) (slot copy : Nat) : Nat := leAt (copyBytes s slot copy) 96 4

/-- The valid copy of a slot (R868). -/
def validCopy (s : State) (slot : Nat) : Option Nat :=
  match copyValid s slot 0, copyValid s slot 1 with
  | true, true => some (if copyGen s slot 0 < copyGen s slot 1 then 1 else 0)
  | true, false => some 0
  | false, true => some 1
  | false, false => none

/-- The key a slot holds (R868). -/
def slotKey (s : State) (slot : Nat) : Option (List Byte) := (validCopy s slot).map fun c => (copyBytes s slot c).take 96

/-- The copy that a key WRITE replaces (R869). -/
def targetCopy (s : State) (slot : Nat) : Nat :=
  match copyValid s slot 0, copyValid s slot 1 with
  | true, false => 1
  | true, true => 1 - (validCopy s slot).getD 0
  | _, _ => 0

/-- The eight units of a new copy (R866). -/
def copyUnits (slot copy gen : Nat) (key : List Byte) : List (Nat × List Byte) :=
  let head := padTo 96 key ++ leBytes 4 gen ++ [BitVec.ofNat 8 slot, BitVec.ofNat 8 copy, 0, 0]
  let b := head ++ leBytes 4 (crc32 head).toNat ++ List.replicate 4 0 ++ leBytes 4 gen ++ commitPat
  (List.range 8).map fun u => (256 * copySector slot copy + u, (b.drop (16 * u)).take 16)

/-- PSM_KEY_COPYk (R875). -/
def keyCopyWord (s : State) (k : Nat) : Word :=
  BitVec.ofNat 32 (4 * b2n (validCopy s k == some 1) + 2 * b2n (copyValid s k 1) + b2n (copyValid s k 0))

/-- PSM_KEY_GENk (R875). -/
def keyGenWord (s : State) (k : Nat) : Word :=
  BitVec.ofNat 32 (match validCopy s k with | some c => copyGen s k c | none => 0)

/-- PSM_SECTOR_STATE (R858, R862, R875). -/
def sectorWord (s : State) : Word :=
  let x := psmSector s (s.get F.PSM_SECTOR_SEL_SECTOR)
  let code := match x.state with
    | .erased => 0 | .written => 1 | .erasing => 2 | .suspended => 3 | .incomplete => 4 | .bad => 5
  BitVec.ofNat 32 (x.erases * 2 ^ 16 + b2n x.worn * 2 ^ 8 + code)

/-! ### Refusals and ends (R856) -/

/-- A command is refused or fails. [log 108 DEDUCED] -/
def psmFail (cause : Nat) (s : State) : State :=
  raise 217 (if s.flag F.PSM_STATUS_ERR then s
    else (s.set F.PSM_STATUS_ERR 1).set F.PSM_STATUS_ERR_CAUSE cause)

/-- No command runs any more. -/
def psmIdle (s : State) : State :=
  { (s.set F.PSM_STATUS_BUSY 0).set F.PSM_STATUS_KEY_BUSY 0 with psm := { s.psm with cmd := none } }

/-- The command ends with a failure. -/
def psmStop (cause : Nat) (s : State) : State := psmFail cause (psmIdle s)

/-- The command completes (R856; R869 step 4). -/
def psmComplete (c : PsmCmd) (s : State) : State :=
  let s := psmIdle s
  raise 216 (if c.op = 3 then { s with psm := { s.psm with keyBuf := List.replicate 96 0 } } else s)

/-- No new pulse starts after the brown-out warning (R229). -/
def pulsesBarred (s : State) : Bool := s.rst.bowAt.isSome

/-- The next pulse of the command starts, if it may: the erase of the next sector, or the next unit's program pulse.
[log 103 DEDUCED] -/
def psmNext (c : PsmCmd) (s : State) : State :=
  if c.sectors.isEmpty && c.units.isEmpty then psmComplete c s
  else if pulsesBarred s then psmStop 9 s
  else
    let s := { s with psm := { s.psm with cmd := some c, sliceAt := s.clk.now } }
    match c.sectors with
    | [] => s
    | k :: _ =>
      if (psmSector s k).state = .erasing then s
      else
        let s := sectorTo k .erasing s
        if s.cfg.load.isSome then { s with psm := { s.psm with cut := k :: s.psm.cut } } else s

/-- A command starts. [log 108 DEDUCED] -/
def psmStart (c : PsmCmd) (key : Bool) (s : State) : State :=
  let s := s.set F.PSM_STATUS_BUSY 1
  psmNext c (if key then s.set F.PSM_STATUS_KEY_BUSY 1 else s)

/-! ### PSM_CMD and PSM_KEY_CMD -/

/-- PSM_BUF as bytes. -/
def psmBuf (s : State) : List Byte := (List.range 64).flatMap fun i => leBytes 4 (s.rd (R.PSM_BUF i)).toNat

/-- A unit is erased; after a failed verify nothing says so (R849). [log 105 DESIGN CHOICE] -/
def unitErased (u : Nat) (s : State) : Bool × State :=
  match psmUnit s u with
  | .erased => (true, s)
  | .unverified => (s.free % 2 == 1, s.draw)
  | _ => (false, s)

/-- All units of a list are erased. -/
def unitsErased : List Nat → State → Bool × State
  | [], s => (true, s)
  | u :: l, s =>
    let (a, s) := unitErased u s
    let (b, s) := unitsErased l s
    (a && b, s)

/-- PROGRAM (R847, R848, R853, R858, R874). -/
def psmProgramGo (s : State) : State :=
  let a := s.get F.PSM_ADDR_ADDR
  let n := s.get F.PSM_CMD_UNITS_M1 + 1
  let st := (psmSector s (a / 4096)).state
  if s.psm.cmd.isSome then psmFail 1 s
  else if a % 16 ≠ 0 ∨ 4096 < a % 4096 + 16 * n then psmFail 2 s
  else if inKeyArea a then psmFail 3 s
  else if st ≠ .erased ∧ st ≠ .written then psmFail 5 s
  else
    let us := (List.range n).map (a / 16 + ·)
    match unitsErased us s with
    | (true, s) => psmStart ⟨1, [], 0, us.zipIdx.map fun x => (x.1, (psmBuf s).drop (16 * x.2) |>.take 16), false⟩ false s
    | (false, s) => psmFail 4 s

/-- ERASE (R847, R850, R853, R874, R988). -/
def psmEraseGo (s : State) : State :=
  let a := s.get F.PSM_ADDR_ADDR
  if s.psm.cmd.isSome || s.psm.suspended.isSome then psmFail 1 s
  else if inKeyArea a then psmFail 3 s
  else psmStart ⟨2, [a / 4096], 0, [], false⟩ false s

/-- SUSPEND (R852 to R854). [log 104 DEDUCED] -/
def psmSuspendGo (s : State) : State :=
  if s.psm.suspended.isSome then psmFail 1 s
  else match s.psm.cmd with
    | some c =>
      if c.op = 2 then { s with psm := { s.psm with cmd := some { c with suspend := true } } }
      else if c.op = 1 then psmFail 8 s
      else psmFail 1 s
    | none => psmFail 8 s

/-- RESUME (R852, R854): a fresh slice. -/
def psmResumeGo (s : State) : State :=
  match s.psm.suspended, s.psm.cmd with
  | some _, some _ => psmFail 1 s
  | some c, none =>
    if pulsesBarred s then psmFail 9 s
    else
      let s := (c.sectors.head?.map fun k => sectorTo k .erasing s).getD s
      let s := (s.set F.PSM_STATUS_SUSPENDED 0).set F.PSM_STATUS_BUSY 1
      { s with psm := { s.psm with suspended := none, cmd := some c, sliceAt := s.clk.now } }
  | none, _ => psmFail 8 s

/-- A write of PSM_CMD (R848 to R854, R987). [log 108 DEDUCED] -/
def psmCmdWrite (v : Word) (s : State) : State :=
  let s := s.writeByAcc R.PSM_CMD v
  if F.PSM_CMD_GO.on v then
    match F.PSM_CMD_OP.of v with
    | 1 => psmProgramGo s
    | 2 => psmEraseGo s
    | 3 => psmSuspendGo s
    | 4 => psmResumeGo s
    | _ => psmFail 11 s
  else s

/-- Key WRITE (R869, R870): the target copy's sector, then its eight units, the commit unit last. -/
def keyWriteGo (s : State) : State :=
  let k := s.get F.PSM_KEY_CMD_SLOT
  let gen := match validCopy s k with | some c => copyGen s k c | none => 0
  if s.psm.cmd.isSome || s.psm.suspended.isSome then psmFail 1 s
  else if gen = 2 ^ 32 - 1 then psmFail 10 s
  else
    let c := targetCopy s k
    psmStart ⟨3, [copySector k c], 0, copyUnits k c (gen + 1) s.psm.keyBuf, false⟩ true s

/-- Key ERASE (R871): the older copy first. -/
def keyEraseGo (s : State) : State :=
  let k := s.get F.PSM_KEY_CMD_SLOT
  if s.psm.cmd.isSome || s.psm.suspended.isSome then psmFail 1 s
  else
    let c := match validCopy s k with | some c => 1 - c | none => 0
    psmStart ⟨4, [copySector k c, copySector k (1 - c)], 0, [], false⟩ true s

/-- A write of PSM_KEY_CMD (R869 to R871, R987). [log 108 DEDUCED] -/
def psmKeyCmdWrite (v : Word) (s : State) : State :=
  let s := s.writeByAcc R.PSM_KEY_CMD v
  if F.PSM_KEY_CMD_GO.on v then
    match F.PSM_KEY_CMD_OP.of v with
    | 1 => keyWriteGo s
    | 2 => keyEraseGo s
    | _ => psmFail 11 s
  else s

/-- A write of a register of the PSM page (R875). -/
def psmWrite (a : Nat) (v : Word) (s : State) : State :=
  if a = R.PSM_CMD then psmCmdWrite v s
  else if a = R.PSM_KEY_CMD then psmKeyCmdWrite v s
  else if R.PSM_KEY_BUF 0 ≤ a ∧ a ≤ R.PSM_KEY_BUF 23 then
    { s with psm := { s.psm with keyBuf := splice s.psm.keyBuf (a - R.PSM_KEY_BUF 0) (leBytes 4 v.toNat) } }
  else
    let s := s.writeByAcc a v
    if a = R.PSM_STATUS && !s.flag F.PSM_STATUS_ERR then s.set F.PSM_STATUS_ERR_CAUSE 0 else s

/-- A read of a register of the PSM page (R875). -/
def psmReadReg (a : Nat) (s : State) : Word × State :=
  if a = R.PSM_SECTOR_STATE then (sectorWord s, s)
  else if R.PSM_KEY_COPY 0 ≤ a ∧ a ≤ R.PSM_KEY_COPY 15 then (keyCopyWord s ((a - R.PSM_KEY_COPY 0) / 4), s)
  else if R.PSM_KEY_GEN 0 ≤ a ∧ a ≤ R.PSM_KEY_GEN 15 then (keyGenWord s ((a - R.PSM_KEY_GEN 0) / 4), s)
  else (s.readByAcc a, s.clearByAcc a)

/-! ### Reads (R843, R845, R855, R858) -/

/-- A correctable unit is counted. [log 106 DEDUCED] -/
def psmCe (u : Nat) (inj : Bool) (s : State) : State :=
  raise 218 (rasDetect 5 1 0 (16 * u) 0 inj (s.incSat F.PSM_CE_COUNT))

/-- An uncorrectable unit is counted and the first one recorded. [log 106 DEDUCED] -/
def psmUe (u : Nat) (inj : Bool) (s : State) : State :=
  let s := s.incSat F.PSM_UE_COUNT
  let s := if s.flag F.PSM_UE_ADDR_VALID then s else (s.set F.PSM_UE_ADDR_ADDR (16 * u)).set F.PSM_UE_ADDR_VALID 1
  raise 218 (rasDetect 5 2 0 (16 * u) 0 inj s)

/-- What reading a unit yields: its data as corrected, or nothing; a unit without a guarantee (R849, R858) yields a free
value's choice. An injected error stands in the read path (R908 code 0x05). [log 105 DESIGN CHOICE] -/
def psmReadUnit (u : Nat) (inj : Option Nat) (s : State) : Option (List Byte) × State :=
  let st := (psmSector s (u / 256)).state
  let data := psmBytes s (16 * u) 16
  match inj with
  | some k => if k = 1 then (some data, psmCe u true s) else (none, psmUe u true s)
  | none =>
    if (st != .erased && st != .written) || psmUnit s u == .unverified then
      let c := s.free
      let d := leBytes 16 s.draw.free
      let s := s.draw.draw
      match c % 3 with
      | 0 => (some d, psmCe u false s)
      | 1 => (none, psmUe u false s)
      | _ => (some d, s)
    else match psmUnit s u with
      | .correctable => (some data, psmCe u false s)
      | .uncorrectable => (none, psmUe u false s)
      | _ => (some data, s)

/-- The units of a read; the key area reads as zeros without error (R845). -/
def psmReadUnits (inj : Option (Nat × Nat)) : List Nat → State → List Byte × Bool × State
  | [], s => ([], true, s)
  | u :: l, s =>
    let (x, s) :=
      if inKeyArea (16 * u) then (some (List.replicate 16 0), s)
      else psmReadUnit u ((inj.filter fun i => i.1 == u).map (·.2)) s
    let (y, ok, s) := psmReadUnits inj l s
    (x.getD (List.replicate 16 0) ++ y, ok && x.isSome, s)

/-- A read of the store window is served (R843, R845): it is answered with its bytes or BUS_ERR. [log 106 DEDUCED] -/
def psmServe (r : PsmRead) (s : State) : State :=
  let us := (List.range ((r.addr + r.len - 1) / 16 + 1 - r.addr / 16)).map (r.addr / 16 + ·)
  let hit := (us.filter fun u => !inKeyArea (16 * u)).findSome? fun u => (injArmed s 5 0 (some (16 * u, 16))).map (u, ·)
  let s := if hit.isSome then injUsed s else s
  let (b, ok, s) := psmReadUnits hit us s
  completeReq r.id (if ok then .ok else .busErr) ((b.drop (r.addr % 16)).take r.len) s

/-- A read of the window is of a legal length and alignment (R843). [log 106 DEDUCED] -/
def psmReadLegal (a len : Nat) : Bool := decide (a % 4 = 0 ∧ len % 4 = 0 ∧ 4 ≤ len ∧ len ≤ 256)

/-- The reads that wait are served, oldest first (R855). [log 106 DEDUCED] -/
def psmServeAll (s : State) : State :=
  let l := s.psm.reads
  forEach l psmServe { s with psm := { s.psm with reads := [] } }

/-! ### Pulses -/

/-- A reset that waits for the pulse stops the command at its end (R225, R227, R859). [log 104 DEDUCED] -/
def psmCut (c : PsmCmd) (s : State) : State :=
  let s := psmIdle s
  match c.sectors with
  | k :: _ => sectorTo k .incomplete s
  | [] => s

/-- A program pulse and its verify have ended (R849). -/
def psmPulseDone (ok : Bool) (s : State) : State :=
  match s.psm.cmd with
  | some c =>
    match c.sectors, c.units with
    | [], (u, b) :: rest =>
      if ok then
        let s := psmServeAll (sectorTo (u / 256) .written (psmPut u b .good s))
        if s.rst.deferred.isSome then psmIdle s else psmNext { c with units := rest } s
      else
        let d := leBytes 16 s.free
        psmStop 7 (psmServeAll (sectorTo (u / 256) .written (psmPut u d .unverified s.draw)))
    | _, _ => s
  | none => s

/-- An erase completes (R850, R862). [log 103 DEDUCED] -/
def sectorErased (k : Nat) (s : State) : State :=
  let x := psmSector s k
  let n := satInc x.erases 0xFFFF
  let worn := decide (10000 < n)
  let s := setSector k ⟨.erased, n, worn⟩ (psmWipe k s)
  if worn && !x.worn then raise 219 s else s

/-- An erase slice and its verify have ended (R850, R852, R858, R874, R988): its pulse takes 200 us (R226, R850).
[log 103 DEDUCED, log 104 DEDUCED] -/
def psmSliceEnd (ok : Bool) (s : State) : State :=
  match s.psm.cmd with
  | some c =>
    match c.sectors with
    | k :: rest =>
      if s.clk.now < s.psm.sliceAt + 200000 then s else
      let s := psmServeAll s
      if s.rst.deferred.isSome then psmCut c s
      else if ok then
        if pulsesBarred s then psmStop 9 (psmCut c s)
        else
          let s := sectorErased k s
          let s := if c.suspend then psmFail 8 s else s
          psmNext { c with sectors := rest, slices := 0, suspend := false } s
      else if 20 ≤ c.slices + 1 then psmStop 6 (sectorTo k .bad s)
      else if c.suspend then
        let s := (sectorTo k .suspended (psmIdle s)).set F.PSM_STATUS_SUSPENDED 1
        raise 216 { s with psm := { s.psm with suspended := some { c with slices := c.slices + 1, suspend := false } } }
      else if pulsesBarred s then psmStop 9 (psmCut c s)
      else { s with psm := { s.psm with cmd := some { c with slices := c.slices + 1 }, sliceAt := s.clk.now } }
    | [] => s
  | none => s

/-! ### Scanning (R921) -/

/-- The programmed units of WRITTEN sectors. -/
def scanUnits (s : State) : List Nat :=
  (s.psm.units.map (·.1)).filter fun u => (psmSector s (u / 256)).state == .written

/-- The scan is due for its next unit: its reads are spread over INTERVAL_H hours. -/
def scanDue (s : State) : Bool :=
  decide (s.get F.RAS_SCRUB_PSM_INTERVAL_H * 3600000000000 ≤ (s.elapsed - s.psm.scanAt) * (scanUnits s).length)

/-- One unit is scanned; the last one ends the pass (R921, R922). -/
def psmScan (s : State) : State :=
  match (scanUnits s).find? fun u => decide (s.psm.scan ≤ u) with
  | some u =>
    let s := (psmReadUnit u none { s with psm := { s.psm with scan := u + 1, scanAt := s.elapsed } }).2
    if ((scanUnits s).find? fun x => decide (u + 1 ≤ x)).isNone then
      { s.incSat F.RAS_SCRUB_STATUS_PSM_PASSES with psm := { s.psm with scan := 0 } }
    else s
  | none => { s with psm := { s.psm with scan := 0 } }

/-! ### Commands -/

/-- PROGRAM (R848): PSM_CMD written with OP 1 and GO. [log 7 DEDUCED] -/
def execPsmProgram (p : Partner) (v : Word) (s : State) : Out :=
  .next (viaPartner p R.PSM_CMD (psmCmdWrite (fieldSet (v ||| 0x80000000) 26 24 1)) s)

/-- ERASE (R850): PSM_CMD written with OP 2 and GO. [log 103 DEDUCED] -/
def execPsmErase (p : Partner) (v : Word) (s : State) : Out :=
  .next (viaPartner p R.PSM_CMD (psmCmdWrite (fieldSet (v ||| 0x80000000) 26 24 2)) s)

/-- SUSPEND (R852): PSM_CMD written with OP 3 and GO. -/
def execPsmSuspend (p : Partner) (v : Word) (s : State) : Out :=
  .next (viaPartner p R.PSM_CMD (psmCmdWrite (fieldSet (v ||| 0x80000000) 26 24 3)) s)

/-- RESUME (R852): PSM_CMD written with OP 4 and GO. -/
def execPsmResume (p : Partner) (v : Word) (s : State) : Out :=
  .next (viaPartner p R.PSM_CMD (psmCmdWrite (fieldSet (v ||| 0x80000000) 26 24 4)) s)

/-- PSM_BAD_OP (R987): PSM_CMD or PSM_KEY_CMD written with GO. -/
def execPsmBadOp (p : Partner) (key : Bool) (v : Word) (s : State) : Out :=
  .next (if key then viaPartner p R.PSM_KEY_CMD (psmKeyCmdWrite (v ||| 0x80000000)) s
    else viaPartner p R.PSM_CMD (psmCmdWrite (v ||| 0x80000000)) s)

/-- KEY_WRITE (R869): PSM_KEY_CMD written with OP 1 and GO. -/
def execKeyWrite (p : Partner) (v : Word) (s : State) : Out :=
  .next (viaPartner p R.PSM_KEY_CMD (psmKeyCmdWrite (fieldSet (v ||| 0x80000000) 9 8 1)) s)

/-- KEY_ERASE (R871): PSM_KEY_CMD written with OP 2 and GO. -/
def execKeyErase (p : Partner) (v : Word) (s : State) : Out :=
  .next (viaPartner p R.PSM_KEY_CMD (psmKeyCmdWrite (fieldSet (v ||| 0x80000000) 9 8 2)) s)

/-- PSM_SCAN_READ (R921). -/
def execPsmScanRead (s : State) : Out :=
  .next (whenB (s.rst.coreUp && s.flag F.RAS_SCRUB_PSM_EN && s.psm.cmd.isNone && scanDue s) psmScan s)

end Sys2Proof.Machine
end

