-- ==== Sys2Proof/Machine/ShadeCmd.lean ====
section
/-!
DEFINITION. Sys2Proof/Machine/ShadeCmd.lean: Shade's staged and active sets (16_shade.md): key loads, commits, and the
drain of line operations under an earlier set.
-/

namespace Sys2Proof.Machine

/-! ### Keys -/

/-- A slot's staged key is replaced. -/
def stageKey (k : Nat) (key : Option (List Byte)) (s : State) : State :=
  { s with shd := { s.shd with staged := vset s.shd.staged (finOf 15 k) key } }

/-- A slot's valid copy is loaded into the staged set, or KEY_ERR sets (R806). [log 102 DEDUCED] -/
def loadKey (k : Nat) (s : State) : State :=
  match slotKey s k with
  | some b => stageKey k (some b) s
  | none => s.set F.SHD_STATUS_KEY_ERR 1

/-- A write of SHD_KEY_LOAD (R806, R838). [log 102 DEDUCED] -/
def shdKeyLoadWrite (v : Word) (s : State) : State :=
  let l := maskBits 16 (F.SHD_KEY_LOAD_SLOTS.of v)
  if l.isEmpty then s
  else
    let s := forEach l loadKey s
    { s.set F.SHD_STATUS_KEY_BUSY 1 with
      shd := { s.shd with loading := s.shd.loading ++ l.filter (fun k => !s.shd.loading.contains k) } }

/-- SHD_KEY_STATUS (R839). -/
def keyStatusWord (s : State) : Word :=
  let bits := fun (v : Vector (Option (List Byte)) 16) =>
    (List.range 16).foldl (fun acc k => acc + b2n (keyOf v k).isSome * 2 ^ k) 0
  BitVec.ofNat 32 (bits s.shd.staged * 2 ^ 16 + bits s.shd.active)

/-! ### Commits -/

/-- A staged region is enabled. -/
def stagedOn (s : State) (n : Nat) : Bool := s.flag (F.SHD_RGN_CTRL_EN n)

/-- The pages of a staged region. -/
def stagedPages (s : State) (n : Nat) : Nat × Nat := (s.get (F.SHD_RGN_BASE_PAGE n), s.get (F.SHD_RGN_SIZE_PAGES n))

/-- A byte span overlaps a staged region. -/
def overlapsStaged (s : State) (lo len n : Nat) : Bool :=
  let (b, k) := stagedPages s n
  stagedOn s n && decide (lo < 4096 * (b + k) ∧ 4096 * b < lo + len)

/-- The first rule that a staged region breaks (R831): 1 SIZE, 2 RANGE, 3 KEY, 4 TAG_OVERLAP. -/
def regionFault (s : State) (n : Nat) : Option Nat :=
  let (b, k) := stagedPages s n
  let mode := s.get (F.SHD_RGN_CTRL_MODE n)
  let tag := 2048 * s.get (F.SHD_RGN_TAG_TAG_BASE n)
  let tagLen := 512 * k
  if !stagedOn s n then none
  else if k = 0 then some 1
  else if !inExternal s (4096 * b) (4096 * k) || (mode == 2 && !inExternal s tag tagLen) then some 2
  else if mode != 0 && (keyOf s.shd.staged (s.get (F.SHD_RGN_CTRL_KEY n))).isNone then some 3
  else if mode == 2 && (List.range 16).any (overlapsStaged s tag tagLen) then some 4
  else none

/-- Why a commit is refused (R831): BUSY first, then the regions in ascending number. -/
def commitFault (s : State) : Option Nat :=
  if s.flag F.SHD_STATUS_KEY_BUSY then some 5 else (List.range 16).findSome? (regionFault s)

/-- A line operation that looked up an earlier set is still incomplete (R830). -/
def olderLines (s : State) : Bool :=
  s.mem.subs.toList.any fun u => (u.reads ++ u.writes ++ u.service.toList).any fun r => r.prot.version != s.shd.version

/-- The staged regions and keys become the active set at the end of the core cycle (R828 to R830). [log 120 DEDUCED] -/
def commitShade (s : State) : State :=
  let s := { s with shd := { s.shd with
    before := some (s.clk.now, shadeSet s)
    regions := s.regs.filter (fun x => decide (R.SHD_RGN_BASE 0 ≤ x.1 ∧ x.1 ≤ R.SHD_RGN_TAG 15))
    active := s.shd.staged, version := s.shd.version + 1 } }
  let s := s.addWrap F.SHD_VERSION_VERSION 1
  if olderLines s then s.set F.SHD_STATUS_DRAINED 0 else s

/-- A write of SHD_COMMIT (R828, R831). -/
def shdCommitWrite (v : Word) (s : State) : State :=
  if F.SHD_COMMIT_GO.on v then
    match commitFault s with
    | some c => (s.set F.SHD_STATUS_REFUSED 1).set F.SHD_STATUS_REFUSE_CAUSE c
    | none => commitShade s
  else s

/-- A write of a register of the SHD page (R839): REFUSE_CAUSE is cleared with REFUSED. -/
def shdWrite (a : Nat) (v : Word) (s : State) : State :=
  if a = R.SHD_COMMIT then shdCommitWrite v s
  else if a = R.SHD_KEY_LOAD then shdKeyLoadWrite v s
  else
    let s := s.writeByAcc a v
    if a = R.SHD_STATUS && !s.flag F.SHD_STATUS_REFUSED then s.set F.SHD_STATUS_REFUSE_CAUSE 0 else s

/-- At bring-up step 4 every slot's valid copy is loaded into both sets, and NO_KEY sets when a region in force in an
XTS mode lacks its key (R805, R807). -/
def shadeBringup (s : State) : State :=
  let s := forEach (List.range 16) (fun k s => stageKey k (slotKey s k) s) s
  let s := { s with shd := { s.shd with active := s.shd.staged, loading := [], before := none } }
  if (List.range 16).any (fun n =>
      let c := activeRegion s (R.SHD_RGN_CTRL n)
      regionInForce s n && bitsOf c 1 0 != 0 && (keyOf s.shd.active (bitsOf c 19 16)).isNone) then
    s.set F.SHD_STATUS_NO_KEY 1
  else s

/-! ### Commands -/

/-- SHD_KEY_LOAD (R806). -/
def execShdKeyLoad (p : Partner) (v : Word) (s : State) : Out :=
  .next (viaPartner p R.SHD_KEY_LOAD (shdKeyLoadWrite v) s)

/-- SHADE_KEY_LOAD_COMPLETE (R806): every named slot has been loaded. [log 102 DEDUCED] -/
def execShadeKeyLoadComplete (s : State) : Out :=
  .next (whenB (!s.shd.loading.isEmpty)
    (fun s => { s.set F.SHD_STATUS_KEY_BUSY 0 with shd := { s.shd with loading := [] } }) s)

/-- SHD_COMMIT (R828): SHD_COMMIT written with GO. -/
def execShdCommit (p : Partner) (v : Word) (s : State) : Out :=
  .next (viaPartner p R.SHD_COMMIT (shdCommitWrite (v ||| 1)) s)

/-- SHADE_DRAINED (R830). -/
def execShadeDrained (s : State) : Out :=
  .next (whenB (!olderLines s) (fun s => s.set F.SHD_STATUS_DRAINED 1) s)

end Sys2Proof.Machine
end

