-- ==== Sys2Proof/Machine/TaperIsa.lean ====
section
/-!
DEFINITION. Sys2Proof/Machine/TaperIsa.lean: the Taper cores' instructions (12_taper_cores.md): the decoding of an
instruction word, core registers, addressing modes, arithmetic and flags, loops and the repeat cache.
-/

namespace Sys2Proof.Machine

/-! ### Instructions -/

/-- The arithmetic of format P (R635). -/
inductive ParOp where
  | par | mul | mac | msb | macrn | macmx | addh | subh
deriving DecidableEq, Repr

/-- The fields of format P (R631). -/
structure ParF where
  xp : Nat
  xm : Nat
  xd : Nat
  yp : Nat
  ym : Nat
  yd : Nat
  a : Nat
  s1 : Nat
  s2 : Nat
  pb : Bool
deriving DecidableEq, Repr

/-- The instructions (R635). -/
inductive TInstr where
  | nop | halt | bkpt
  | j (c t : Nat) | call (c t : Nat) | ret (c : Nat) | jr (k : Nat)
  | loop (count body : Nat) | loopr (r body : Nat) | leave
  | waitev (dd : Nat) (nb : Bool) | evend (ds : Nat) | signal (code : Nat) | wdog | mode (m v : Nat)
  | dma (c k : Nat) | dmaw (c : Nat)
  | movi (r imm : Nat) | mov (rd rs : Nat)
  | ld (r : Nat) (y : Bool) (k m : Nat) | st (r : Nat) (y : Bool) (k m : Nat)
  | ldi (r : Nat) (y : Bool) (a : Nat) | sti (r : Nat) (y : Bool) (a : Nat)
  | ldp (i k m : Nat) | stp (i k m : Nat) | lea (k m : Nat)
  | ext (dd a pos : Nat) | pack (a d1 d2 : Nat) | getg (dd a : Nat) | putg (a ds : Nat)
  | par (op : ParOp) (f : ParF)
  | adda (d s : Nat) | suba (d s : Nat) | zero (d : Nat) | neg (d : Nat) | abs (d : Nat) | round (d : Nat)
  | clip (d : Nat) | sha (d : Nat) (n : Int) | shav (d r : Nat) | norm (r s : Nat) | cmpa (d s : Nat) | mova (d s : Nat)
  | add (d a b : Nat) | sub (d a b : Nat) | and (d a b : Nat) | or (d a b : Nat) | xor (d a b : Nat)
  | shl (d a n : Nat) | shr (d a n : Nat) | shra (d a n : Nat) | addi (d a imm : Nat) | cmp (a b : Nat)
  | brev (d a n : Nat) | popc (d a : Nat)
deriving DecidableEq, Repr

/-- A register number that is not Reserved (R617). -/
def regOk (r : Nat) : Bool := decide (r < 10 ∨ (16 ≤ r ∧ r < 40))

/-- A condition code that is not Reserved (R632). -/
def condOk (c : Nat) : Bool := decide (c < 13)

/-- An instruction, unless a check on its fields fails (R630). [log 83 DEDUCED] -/
def legal (ok : Bool) (i : TInstr) : Option TInstr := if ok then some i else none

/-- Format P (R631). -/
def decodeP (op : ParOp) (w : Nat) : Option TInstr :=
  some (.par op ⟨bitsOf w 25 23, bitsOf w 22 20, bitsOf w 19 17, bitsOf w 16 14, bitsOf w 13 11, bitsOf w 10 8, bitsOf w 7 7,
    bitsOf w 6 4, bitsOf w 3 1, bitOf w 0⟩)

/-- Format A (R631): the fields that an instruction does not use are zero. [log 83 DEDUCED] -/
def decodeA (o w : Nat) : Option TInstr :=
  let d := bitsOf w 25 25
  let x := bitsOf w 24 24
  let sh := bitsOf w 23 18
  let r := bitsOf w 17 15
  let z := bitsOf w 14 0 == 0
  let z2 := z && sh == 0 && r == 0
  let z1 := z2 && x == 0
  match o with
  | 0x28 => legal z2 (.adda d x)
  | 0x29 => legal z2 (.suba d x)
  | 0x2A => legal z1 (.zero d)
  | 0x2B => legal z1 (.neg d)
  | 0x2C => legal z1 (.abs d)
  | 0x2D => legal z1 (.round d)
  | 0x2E => legal z1 (.clip d)
  | 0x2F => legal (z && x == 0 && r == 0) (.sha d (signedOf 6 sh))
  | 0x30 => legal (z && x == 0 && sh == 0) (.shav d r)
  | 0x31 => legal (z && d == 0 && sh == 0) (.norm r x)
  | 0x32 => legal z2 (.cmpa d x)
  | _ => legal z2 (.mova d x)

/-- Format D (R631). [log 83 DEDUCED] -/
def decodeD (o w : Nat) : Option TInstr :=
  let d := bitsOf w 25 23
  let a := bitsOf w 22 20
  let b := bitsOf w 19 17
  let n := bitsOf w 3 0
  let z := bitsOf w 16 4 == 0
  let zb := z && b == 0
  let zn := z && n == 0
  match o with
  | 0x34 => legal zn (.add d a b)
  | 0x35 => legal zn (.sub d a b)
  | 0x36 => legal zn (.and d a b)
  | 0x37 => legal zn (.or d a b)
  | 0x38 => legal zn (.xor d a b)
  | 0x39 => legal zb (.shl d a n)
  | 0x3A => legal zb (.shr d a n)
  | 0x3B => legal zb (.shra d a n)
  | 0x3C => legal (b == 0 && bitsOf w 16 16 == 0) (.addi d a (bitsOf w 15 0))
  | 0x3D => legal (zn && d == 0) (.cmp a b)
  | 0x3E => legal zb (.brev d a n)
  | _ => legal (zb && n == 0) (.popc d a)

/-- Formats M and MI (R631). [log 83 DEDUCED] -/
def decodeM (o w : Nat) : Option TInstr :=
  let r := bitsOf w 25 20
  let y := bitOf w 19
  let k := bitsOf w 18 16
  let m := bitsOf w 15 13
  let zm := bitsOf w 12 0 == 0 && m != 7
  let zi := bitsOf w 18 14 == 0
  match o with
  | 0x13 => legal (regOk r && zm) (.ld r y k m)
  | 0x14 => legal (regOk r && zm) (.st r y k m)
  | 0x15 => legal (regOk r && zi) (.ldi r y (bitsOf w 13 0))
  | 0x16 => legal (regOk r && zi) (.sti r y (bitsOf w 13 0))
  | 0x17 => legal (decide (r < 4) && !y && zm) (.ldp r k m)
  | 0x18 => legal (decide (r < 4) && !y && zm) (.stp r k m)
  | _ => legal (r == 0 && !y && zm) (.lea k m)

/-- Format X (R631). [log 83 DEDUCED] -/
def decodeX (o w : Nat) : Option TInstr :=
  let a := bitsOf w 25 25
  let r1 := bitsOf w 24 22
  let r2 := bitsOf w 21 19
  let p := bitsOf w 18 14
  let z := bitsOf w 13 0 == 0
  match o with
  | 0x1A => legal (z && r2 == 0 && decide (p ≤ 24)) (.ext r1 a p)
  | 0x1B => legal (z && p == 0) (.pack a r1 r2)
  | 0x1C => legal (z && p == 0 && r2 == 0) (.getg r1 a)
  | _ => legal (z && p == 0 && r2 == 0) (.putg a r1)

/-- Formats N, B, L, K and MV (R631). [log 83 DEDUCED] -/
def decodeN (o w : Nat) : Option TInstr :=
  let n := bitsOf w 25 0 == 0
  let c := bitsOf w 25 22
  let b := condOk c && bitsOf w 21 14 == 0
  let r := bitsOf w 25 20
  match o with
  | 0x00 => legal n .nop
  | 0x01 => legal n .halt
  | 0x02 => legal n .bkpt
  | 0x03 => legal b (.j c (bitsOf w 13 0))
  | 0x04 => legal b (.call c (bitsOf w 13 0))
  | 0x05 => legal (condOk c && bitsOf w 21 0 == 0) (.ret c)
  | 0x06 => legal (bitsOf w 22 0 == 0) (.jr (bitsOf w 25 23))
  | 0x07 => some (.loop (bitsOf w 25 10) (bitsOf w 9 0))
  | 0x08 => legal (regOk r && bitsOf w 19 10 == 0) (.loopr r (bitsOf w 9 0))
  | 0x09 => legal n .leave
  | 0x0A => legal (bitsOf w 22 1 == 0) (.waitev (bitsOf w 25 23) (bitOf w 0))
  | 0x0B => legal (bitsOf w 22 0 == 0) (.evend (bitsOf w 25 23))
  | 0x0C => legal (bitsOf w 25 8 == 0) (.signal (bitsOf w 7 0))
  | 0x0D => legal n .wdog
  | 0x0E => legal (bitsOf w 25 16 == 0) (.mode (bitsOf w 15 8) (bitsOf w 7 0))
  | 0x0F => legal (bitsOf w 21 0 == 0) (.dma (bitsOf w 25 25) (bitsOf w 24 22))
  | 0x10 => legal (bitsOf w 24 0 == 0) (.dmaw (bitsOf w 25 25))
  | 0x11 => legal (regOk r && bitsOf w 19 16 == 0) (.movi r (bitsOf w 15 0))
  | _ => legal (regOk r && regOk (bitsOf w 19 14) && bitsOf w 13 0 == 0) (.mov r (bitsOf w 19 14))

/-- The instruction of a word, or nothing when it is illegal (R630, R631, R635). -/
def decodeTaper (word : Word) : Option TInstr :=
  let w := word.toNat
  let o := bitsOf w 31 26
  if o ≤ 0x12 then decodeN o w
  else if o ≤ 0x19 then decodeM o w
  else if o ≤ 0x1D then decodeX o w
  else match o with
    | 0x1E => none
    | 0x1F => none
    | 0x20 => decodeP .par w
    | 0x21 => decodeP .mul w
    | 0x22 => decodeP .mac w
    | 0x23 => decodeP .msb w
    | 0x24 => decodeP .macrn w
    | 0x25 => decodeP .macmx w
    | 0x26 => decodeP .addh w
    | 0x27 => decodeP .subh w
    | _ => if o ≤ 0x33 then decodeA o w else decodeD o w

/-! ### Memories -/

/-- Addresses are taken modulo 2^14 (R622, R623). -/
def wrap14 (a : Int) : Nat := (a % 16384).toNat

/-- A P word (log 9). [log 9 DESIGN CHOICE] -/
def TaperCore.pWord (c : TaperCore) (a : Nat) : Word := sget (fun _ => 0) c.pram a

/-- An X word (log 9). [log 9 DESIGN CHOICE] -/
def TaperCore.xWord (c : TaperCore) (a : Nat) : BitVec 16 := sget (fun _ => 0) c.xram a

/-- A Y word (log 9). [log 9 DESIGN CHOICE] -/
def TaperCore.yWord (c : TaperCore) (a : Nat) : BitVec 16 := sget (fun _ => 0) c.yram a

/-- Mark or clear bad parity of a word. -/
def markBad (bad : Bool) (a : Nat) (l : List Nat) : List Nat :=
  let l := l.filter (fun x => x != a)
  if bad then a :: l else l

/-- Write an X word, with its parity. -/
def TaperCore.putX (c : TaperCore) (a : Nat) (v : BitVec 16) (bad : Bool) : TaperCore :=
  { c with xram := sset (fun _ => 0) c.xram a v, badX := markBad bad a c.badX }

/-- Write a Y word, with its parity. -/
def TaperCore.putY (c : TaperCore) (a : Nat) (v : BitVec 16) (bad : Bool) : TaperCore :=
  { c with yram := sset (fun _ => 0) c.yram a v, badY := markBad bad a c.badY }

/-- Write a P word, with its parity: a copy in the repeat cache changes at once (R644). -/
def TaperCore.putP (c : TaperCore) (a : Nat) (v : Word) (bad : Bool) : TaperCore :=
  { c with
    pram := sset (fun _ => 0) c.pram a v
    badP := markBad bad a c.badP
    cache := c.cache.map fun k =>
      { k with words := k.words.set ((a + 16384 - k.first) % 16384) v } }

/-- A data word, or nothing on a parity error (R616). -/
def TaperCore.data (c : TaperCore) (y : Bool) (a : Nat) : Option (BitVec 16) :=
  if y then (if c.badY.contains a then none else some (c.yWord a))
  else if c.badX.contains a then none else some (c.xWord a)

/-- Write a data word. -/
def TaperCore.putData (c : TaperCore) (y : Bool) (a : Nat) (v : BitVec 16) : TaperCore :=
  if y then c.putY a v false else c.putX a v false

/-- The window offset of a data word (R613). -/
def dataOff (y : Bool) (a : Nat) : Nat := (if y then 0x20000 else 0x10000) + 2 * a

/-! ### Registers -/

/-- A register's stored bits. -/
def TaperCore.raw (c : TaperCore) (r : Nat) : BitVec 16 := vget c.regs (Fin.ofNat 40 r)

/-- Store a register's bits. -/
def TaperCore.setRaw (c : TaperCore) (r : Nat) (v : BitVec 16) : TaperCore :=
  { c with regs := vset c.regs (Fin.ofNat 40 r) v }

/-- The core executes from the repeat cache when `pc` lies in its body and it has been filled (R638). -/
def TaperCore.cached (c : TaperCore) (pc : Nat) : Bool :=
  match c.loops, c.cache with
  | l :: _, some k => l.cached && k.full && k.first == l.first && decide ((pc + 16384 - k.first) % 16384 < k.words.length)
  | _, _ => false

/-- Read a register (R617, R620, R621). -/
def TaperCore.reg (c : TaperCore) (pc r : Nat) : BitVec 16 :=
  if r = 8 then BitVec.ofNat 16 ((c.loops.head?.map Loop.count).getD 0)
  else if r = 9 then
    (c.raw 9 &&& 0x3CDF) ||| (if c.cached pc then 0x8000 else 0) ||| (if c.loops.isEmpty then 0 else 0x4000)
  else c.raw r

/-- Write a register (R617, R620, R621): lc without a loop and the status bits of sr ignore writes. -/
def TaperCore.setReg (c : TaperCore) (r : Nat) (v : BitVec 16) : TaperCore :=
  if r = 8 then match c.loops with
    | l :: rest => { c with loops := { l with count := v.toNat } :: rest }
    | [] => c
  else if r = 9 then c.setRaw 9 (v &&& 0x3CDF)
  else if 32 ≤ r ∧ r < 36 then c.setRaw r (v &&& 0x3FFF)
  else if 36 ≤ r then c.setRaw r (v &&& 0x7FFF)
  else if r < 8 ∨ (16 ≤ r ∧ r < 32) then c.setRaw r v
  else c

/-- A data register. -/
def TaperCore.d (c : TaperCore) (i : Nat) : BitVec 16 := c.raw (i % 8)

/-- Write a data register. -/
def TaperCore.setD (c : TaperCore) (i : Nat) (v : BitVec 16) : TaperCore := c.setRaw (i % 8) v

/-- An accumulator's signed value. -/
def TaperCore.a (c : TaperCore) (i : Nat) : Int := (vget c.acc (Fin.ofNat 2 i)).toInt

/-- A bit of sr. -/
def TaperCore.srBit (c : TaperCore) (b : Nat) : Bool := (c.raw 9).getLsbD b

/-- Set or clear a bit of sr. -/
def TaperCore.setSr (c : TaperCore) (b : Nat) (v : Bool) : TaperCore :=
  let m := BitVec.ofNat 16 (2 ^ b)
  c.setRaw 9 (if v then c.raw 9 ||| m else c.raw 9 &&& ~~~ m)

/-! ### Addressing (R623 to R625) -/

/-- A pointer's low 14 bits. -/
def TaperCore.ptr (c : TaperCore) (k : Nat) : Nat := (c.raw (16 + k % 8)).toNat % 16384

/-- A pointer's modifier. -/
def TaperCore.modifier (c : TaperCore) (k : Nat) : Int := (c.raw (24 + k % 8)).toInt

/-- The bits of a 14-bit number in reverse order. -/
def rev14 (v : Nat) : Nat := (List.range 14).foldl (fun acc i => acc + b2n (bitOf v i) * 2 ^ (13 - i)) 0

/-- A circular update (R624). -/
def TaperCore.circular (c : TaperCore) (k : Nat) : Nat :=
  let bas : Int := (c.raw (32 + k % 4)).toNat
  let len : Int := (c.raw (36 + k % 4)).toNat
  let q : Int := c.ptr k + c.modifier k
  if len = 0 then wrap14 q
  else if bas + len ≤ q then wrap14 (q - len)
  else if q < bas then wrap14 (q + len)
  else wrap14 q

/-- The address an access uses, and the pointer's value after it; none of the latter when it does not change. -/
def TaperCore.address (c : TaperCore) (k m : Nat) : Nat × Option Nat :=
  let p := c.ptr k
  match m with
  | 1 => (p, some (wrap14 (p + 1)))
  | 2 => (p, some (wrap14 ((p : Int) - 1)))
  | 3 => (p, some (wrap14 (p + c.modifier k)))
  | 4 => (p, some (c.circular k))
  | 5 => (p, some (rev14 ((rev14 p + rev14 (wrap14 (c.modifier k))) % 16384)))
  | 6 => (wrap14 (p + c.modifier k), none)
  | _ => (p, none)

/-- Update a pointer. [log 85 DEDUCED] -/
def TaperCore.setPtr (c : TaperCore) (k : Nat) : Option Nat → TaperCore
  | some v => c.setRaw (16 + k % 8) (BitVec.ofNat 16 v)
  | none => c

/-! ### Arithmetic (R626 to R629) -/

/-- The largest and the smallest accumulator value. -/
def accMax : Int := 2 ^ 39 - 1
def accMin : Int := -(2 ^ 39)

/-- Store a 40-bit result and its flags (R627, R629): `v` is an overflow found before, `carry` the carry out of bit 39.
[log 84 DEDUCED] -/
def TaperCore.setAcc (c : TaperCore) (i : Nat) (exact : Int) (v carry keep : Bool) : TaperCore :=
  let off := decide (exact < accMin ∨ accMax < exact)
  let r : BitVec 40 :=
    if off && c.srBit 11 then BitVec.ofInt 40 (if exact < 0 then accMin else accMax) else BitVec.ofInt 40 exact
  let hi := (r.toNat / 2 ^ 31) % 512
  let c := if keep then { c with acc := vset c.acc (Fin.ofNat 2 i) r } else c
  let c := if off && keep then c.setSr 7 true else c
  ((((c.setSr 0 carry).setSr 1 (v || off)).setSr 2 (r == 0)).setSr 3 r.msb).setSr 4 (hi != 0 && hi != 511)

/-- The carry out of bit 39 of a sum. [log 84 DEDUCED] -/
def carry40 (a b : Int) : Bool :=
  decide (2 ^ 40 ≤ (BitVec.ofInt 40 a).toNat + (BitVec.ofInt 40 b).toNat)

/-- The carry out of bit 39 of a difference, formed as a plus not b plus one. [log 84 DEDUCED] -/
def borrow40 (a b : Int) : Bool := decide ((BitVec.ofInt 40 b).toNat ≤ (BitVec.ofInt 40 a).toNat)

/-- A product (R626), and whether it was limited. -/
def TaperCore.product (c : TaperCore) (s1 s2 : Nat) (mixed : Bool) : Int × Bool :=
  let x := (c.d s1).toInt
  let y : Int := if mixed then (c.d s2).toNat else (c.d s2).toInt
  let p := x * y
  if c.srBit 12 then
    if !mixed && p == 2 ^ 30 then (2 ^ 31 - 1, true) else (2 * p, false)
  else (p, false)

/-- What rounding adds to a value (R628). -/
def TaperCore.roundAdd (c : TaperCore) (x : Int) : Int :=
  let low := (x % 65536).toNat
  if c.srBit 13 && low == 0x8000 && x / 65536 % 2 == 0 then 0 else 0x8000

/-- Round a value: add, then clear bits 15:0 (R628). -/
def TaperCore.rounded (c : TaperCore) (x : Int) : Int :=
  let y := x + c.roundAdd x
  y - y % 65536

/-- A value brought into 40 bits, limited under SATM. -/
def TaperCore.narrow (c : TaperCore) (x : Int) : Int :=
  if x < accMin ∨ accMax < x then
    if c.srBit 11 then (if x < 0 then accMin else accMax) else (BitVec.ofInt 40 x).toInt
  else x

/-- The arithmetic of format P (R635). [log 84 DEDUCED] -/
def TaperCore.parArith (c : TaperCore) (op : ParOp) (a s1 s2 : Nat) : TaperCore :=
  let x := c.a a
  let h : Int := (c.d s1).toInt * 65536
  let (p, v) := c.product s1 s2 (op == .macmx)
  match op with
  | .par => c
  | .mul => c.setAcc a p v false true
  | .mac | .macmx => c.setAcc a (x + p) v (carry40 x p) true
  | .msb => c.setAcc a (x - p) v (borrow40 x p) true
  | .macrn =>
    let sum := x + p
    let off := decide (sum < accMin ∨ accMax < sum)
    let m := c.narrow sum
    let c := if off then c.setSr 7 true else c
    c.setAcc a (c.rounded m) (v || off) (carry40 x p || carry40 m (c.roundAdd m)) true
  | .addh => c.setAcc a (x + h) false (carry40 x h) true
  | .subh => c.setAcc a (x - h) false (borrow40 x h) true

/-- The exact value of an accumulator shifted (R635), and the last bit that left bit 39. -/
def shiftAcc (x : Int) (n : Int) : Int × Bool :=
  if 0 ≤ n then
    (x * 2 ^ n.toNat, if n = 0 then false else (BitVec.ofInt 40 x).getLsbD (40 - n.toNat))
  else (x / 2 ^ (-n).toNat, false)

/-- The redundant sign bits of a 40-bit value, 0 to 39. -/
def redundantSigns (v : BitVec 40) : Nat :=
  ((List.range 39).takeWhile fun i => v.getLsbD (38 - i) == v.msb).length

/-- The 16-bit result of a d-register instruction and its flags (R629). -/
def TaperCore.setAlu (c : TaperCore) (r : BitVec 16) (v carry : Bool) (dd : Option Nat) : TaperCore :=
  let c := match dd with | some i => c.setD i r | none => c
  (((c.setSr 0 carry).setSr 1 v).setSr 2 (r == 0)).setSr 3 r.msb

/-- Z and N from a value written to a data register (R629). -/
def TaperCore.setZN (c : TaperCore) (dd : Nat) (r : BitVec 16) : TaperCore :=
  ((c.setD dd r).setSr 2 (r == 0)).setSr 3 r.msb

/-- A sum of d registers. -/
def TaperCore.addD (c : TaperCore) (dd : Nat) (x y : BitVec 16) : TaperCore :=
  let r := x + y
  let e := x.toInt + y.toInt
  c.setAlu r (r.toInt != e) (decide (65536 ≤ x.toNat + y.toNat)) (some dd)

/-- A difference of d registers. -/
def TaperCore.subD (c : TaperCore) (dd : Option Nat) (x y : BitVec 16) : TaperCore :=
  let r := x - y
  let e := x.toInt - y.toInt
  c.setAlu r (r.toInt != e) (decide (y.toNat ≤ x.toNat)) dd

/-- EXT's field (R619): the value, and whether it was limited. -/
def TaperCore.extract (c : TaperCore) (a pos : Nat) : BitVec 16 × Bool :=
  let x := c.a a
  let v := x / 2 ^ pos
  if c.srBit 10 && (v < -32768 || 32767 < v) then ((if x < 0 then 0x8000 else 0x7FFF), true)
  else (BitVec.ofInt 16 v, false)

/-- The low `n + 1` bits of a word in reverse order (R635). -/
def reverseLow (v : BitVec 16) (n : Nat) : BitVec 16 :=
  BitVec.ofNat 16 ((List.range (n + 1)).foldl (fun acc i => acc + b2n (v.getLsbD i) * 2 ^ (n - i)) 0)

/-- The number of 1 bits of a word. -/
def popCount (v : BitVec 16) : Nat := ((List.range 16).filter fun i => v.getLsbD i).length

/-- A condition holds (R632). -/
def TaperCore.cond (c : TaperCore) (k : Nat) : Bool :=
  let z := c.srBit 2
  let n := c.srBit 3
  match k with
  | 0 => true
  | 1 => z
  | 2 => !z
  | 3 => n
  | 4 => !n
  | 5 => !n && !z
  | 6 => n || z
  | 7 => c.srBit 0
  | 8 => !c.srBit 0
  | 9 => c.srBit 1
  | 10 => !c.srBit 1
  | 11 => c.srBit 4
  | _ => !c.srBit 4

/-! ### Loops and the repeat cache (R636 to R640) -/

/-- An instruction that keeps a loop out of the repeat cache (R638). -/
def uncached : Option TInstr → Bool
  | some (.j ..) | some (.call ..) | some (.ret ..) | some (.jr ..) | some (.loop ..) | some (.loopr ..) | some .leave
  | some (.waitev ..) | some .halt | some .bkpt => true
  | _ => false

/-- The words of a body. -/
def TaperCore.bodyWords (c : TaperCore) (first n : Nat) : List Word :=
  (List.range n).map fun i => c.pWord ((first + i) % 16384)

/-- Push a loop of `body + 1` instructions behind `pc` (R636, R638, R639). [log 82 DEDUCED] -/
def TaperCore.pushLoop (c : TaperCore) (pc count body : Nat) : TaperCore :=
  let first := (pc + 1) % 16384
  let ws := c.bodyWords first (body + 1)
  let k := decide (body < 16) && !(ws.any fun w => uncached (decodeTaper w))
  { c with
    loops := ⟨count, first, (pc + 1 + body) % 16384, k⟩ :: c.loops
    cache := if k then some ⟨first, ws, false⟩ else c.cache }

/-- The loop ends that fall on the instruction at `pc`, by fuel: where execution goes on (R637). [log 82 DEDUCED] -/
def TaperCore.loopEnd (pc : Nat) : Nat → TaperCore → Nat → TaperCore × Nat
  | 0, c, nx => (c, nx)
  | k + 1, c, nx => match c.loops with
    | l :: rest =>
      if l.last = pc then
        let n := (l.count + 65535) % 65536
        if n = 0 then TaperCore.loopEnd pc k { c with loops := rest } nx
        else
          let cache := if l.cached then some ⟨l.first, c.bodyWords l.first ((l.last + 16385 - l.first) % 16384), true⟩
            else c.cache
          ({ c with loops := { l with count := n } :: rest, cache := cache }, l.first)
      else (c, nx)
    | [] => (c, nx)

/-- Words written by STP stay as fetched for two more instructions (R643): one instruction has passed. -/
def TaperCore.age (c : TaperCore) : TaperCore :=
  { c with stale := (c.stale.map fun x => { x with left := x.left - 1 }).filter fun x => x.left != 0 }

end Sys2Proof.Machine
end

