-- ==== Sys2Proof/Machine/Taper.lean ====
section
/-!
DEFINITION. Sys2Proof/Machine/Taper.lean: the Taper cores at work (12_taper_cores.md): what each instruction does, running and
halting, DMA, accesses to the memories, and lock-up.
-/

namespace Sys2Proof.Machine

/-! ### A core -/

/-- A core. -/
def State.core (s : State) (n : Nat) : TaperCore := vget s.tpr (finOf 7 n)

/-- Change a core. -/
def modCore (n : Nat) (f : TaperCore → TaperCore) (s : State) : State :=
  { s with tpr := vset s.tpr (finOf 7 n) (f (s.core n)) }

/-- A core's state (R645): 0 Halted, 1 Running, 2 Waiting. -/
def tprState (s : State) (n : Nat) : Nat := s.get (F.TPR_STATUS_STATE n)

/-- A core's pc. -/
def tprPc (s : State) (n : Nat) : Nat := s.get (F.TPR_PC_PC n)

/-- A core changes state; the watchdog counts while it is Running (R653). -/
def tprEnter (n st : Nat) (s : State) : State :=
  let s :=
    if tprState s n = 1 then modCore n (fun c => { c with wdogRun := c.wdogRun + (s.elapsed - c.wdogFrom) }) s else s
  modCore n (fun c => { c with wdogFrom := s.elapsed }) (s.set (F.TPR_STATUS_STATE n) st)

/-- The watchdog restarts from zero (R653). -/
def tprKick (n : Nat) (s : State) : State := modCore n (fun c => { c with wdogRun := 0, wdogFrom := s.elapsed }) s

/-- A core halts with a cause; any but a host HALT or STEP raises source 176 + 2n (R656). [log 81 DEDUCED] -/
def tprHalt (n cause : Nat) (s : State) : State :=
  let s := modCore n (fun c => { c with stale := [] }) ((tprEnter n 0 s).set (F.TPR_STATUS_HALT_CAUSE n) cause)
  if cause = 3 ∨ cause = 4 then s else raise (176 + 2 * n) s

/-- A core read finds a parity error (R616): the core halts, its pc at the instruction. [log 81 DEDUCED, log 87 DEDUCED] -/
def tprParity (n off : Nat) (s : State) : State := tprHalt n 8 (rasDetect 4 2 n off 0 true s)

/-! ### The memories seen from outside (R613, R614) -/

/-- The bytes of a word of X (0), Y (1) or P (2). -/
def cellSize (sp : Nat) : Nat := if sp = 2 then 4 else 2

/-- The window offset of a word. -/
def cellOff (sp a : Nat) : Nat := if sp = 2 then 4 * a else dataOff (sp == 1) a

/-- A word's bytes. -/
def TaperCore.cell (c : TaperCore) (sp a : Nat) : List Byte :=
  if sp = 2 then leBytes 4 (c.pWord a).toNat else leBytes 2 (if sp = 1 then c.yWord a else c.xWord a).toNat

/-- A word's parity is wrong. -/
def TaperCore.cellBad (c : TaperCore) (sp a : Nat) : Bool :=
  if sp = 2 then c.badP.contains a else if sp = 1 then c.badY.contains a else c.badX.contains a

/-- Write a word. -/
def TaperCore.putCell (c : TaperCore) (sp a : Nat) (b : List Byte) (bad : Bool) : TaperCore :=
  if sp = 2 then c.putP a (BitVec.ofNat 32 (leNat b)) bad
  else if sp = 1 then c.putY a (BitVec.ofNat 16 (leNat b)) bad
  else c.putX a (BitVec.ofNat 16 (leNat b)) bad

/-- Read words in order: their bytes, or nothing when one has a parity error, which is logged (R616). [log 87 DEDUCED] -/
def tprReadCells (n : Nat) : List (Nat × Nat) → State → Option (List Byte) × State
  | [], s => (some [], s)
  | (sp, a) :: l, s =>
    if (s.core n).cellBad sp a then (none, rasDetect 4 2 n (cellOff sp a) 0 true s)
    else
      let b := (s.core n).cell sp a
      match tprReadCells n l s with
      | (some r, s) => (some (b ++ r), s)
      | (none, s) => (none, s)

/-- Read words for the Backbone: a word with a parity error is zero and fails the access (R616). -/
def tprReadAll (n : Nat) : List (Nat × Nat) → State → List Byte × Bool × State
  | [], s => ([], true, s)
  | (sp, a) :: l, s =>
    let bad := (s.core n).cellBad sp a
    let b := if bad then List.replicate (cellSize sp) 0 else (s.core n).cell sp a
    let (r, ok, s) := tprReadAll n l (if bad then rasDetect 4 2 n (cellOff sp a) 0 true s else s)
    (b ++ r, ok && !bad, s)

/-- Write words in order from bytes; an armed injection flips the parity bit of the first word it names (R908 code
0x04). [log 87 DEDUCED] -/
def tprWriteCells (n : Nat) (hit : Option (Nat × Nat)) : List (Nat × Nat) → List Byte → State → State
  | [], _, s => s
  | (sp, a) :: l, b, s =>
    tprWriteCells n hit l (b.drop (cellSize sp))
      (modCore n (fun c => c.putCell sp a (b.take (cellSize sp)) (hit == some (sp, a))) s)

/-- A write from outside the core. -/
def tprStoreCells (n : Nat) (l : List (Nat × Nat)) (b : List Byte) (s : State) : State :=
  let hit := l.find? fun x => (injArmed s 4 n (some (cellOff x.1 x.2, cellSize x.1))).isSome
  tprWriteCells n hit l b (if hit.isSome then injUsed s else s)

/-- The words of an access to a window (R613): none where the offset is in no view. -/
def tprCells (off len : Nat) : Option (List (Nat × Nat)) :=
  if off < 0x10000 then some ((List.range (len / 4)).map fun i => (2, off / 4 + i))
  else if off < 0x18000 ∧ 0x10000 ≤ off then some ((List.range (len / 2)).map fun i => (0, (off - 0x10000) / 2 + i))
  else if off < 0x28000 ∧ 0x20000 ≤ off then some ((List.range (len / 2)).map fun i => (1, (off - 0x20000) / 2 + i))
  else if off < 0x40000 ∧ 0x30000 ≤ off then
    some ((List.range (len / 4)).flatMap fun i => [(0, (off - 0x30000) / 4 + i), (1, (off - 0x30000) / 4 + i)])
  else none

/-- What an access to a window is answered at once (R613, R614): `ok` when it is served. -/
def tprAccessStatus (off len : Nat) (whole : Bool) : Status :=
  match tprCells off len with
  | none => .unmapped
  | some _ =>
    let k := if off < 0x10000 ∨ 0x30000 ≤ off then 4 else 2
    if off % k = 0 ∧ len % k = 0 ∧ whole then .ok else .accessErr

/-- Serve an access to a core's memories (R615, R616). -/
def tprServe (n : Nat) (x : TprAcc) (s : State) : State :=
  let l := (tprCells x.off x.len).getD []
  if x.write then completeReq x.id .ok [] (tprStoreCells n l x.data s)
  else
    let (b, ok, s) := tprReadAll n l s
    completeReq x.id (if ok then .ok else .busErr) b s

/-! ### DMA (R649 to R652) -/

/-- A channel. -/
def State.chan (s : State) (n c : Nat) : Chan := vget (s.core n).chans (finOf 1 c)

/-- Change a channel. -/
def modChan (n c : Nat) (f : Chan → Chan) (s : State) : State :=
  modCore n (fun k => { k with chans := vset k.chans (finOf 1 c) (f (vget k.chans (finOf 1 c))) }) s

/-- The local words under the bytes `lo` to `lo + len` of a descriptor's data. -/
def localCells (c : Chan) (lo len : Nat) : List (Nat × Nat) :=
  let k := cellSize c.space
  (List.range ((lo + len - 1) / k + 1 - lo / k)).map fun i => (c.space, (c.word + lo / k + i) % 16384)

/-- A burst fails before it reaches the Backbone. -/
def dmaFail (n c : Nat) (st : Status) (s : State) : State :=
  let id := s.bb.nextId
  pushReply ⟨id, .taper n c, st, []⟩ { s with bb := { s.bb with nextId := id + 1 } }

/-- A near-side access of a channel (R651): checked against the access rules and the bank's state, then at port B.
[log 89 DEDUCED] -/
def dmaNear (n c a len : Nat) (write : Bool) (data : List Byte) (s : State) : State :=
  if isFenced s (8 + n) then s
  else if !rulesPass s (8 + n) a write then dmaFail n c .denied (recordDenied (8 + n) a write s)
  else if bankState s ((a - stgBase) / 0x100000) != 0 then dmaFail n c .bankDown (bankDown a s)
  else { s with stg := { s.stg with portB := s.stg.portB ++ [⟨2 * n + c, write, a - stgBase, data, len⟩] } }

/-- A burst of a channel goes out (R650, R651). [log 89 DEDUCED] -/
def dmaSend (n c a len : Nat) (write : Bool) (data : List Byte) (s : State) : State :=
  if stgBase ≤ a ∧ a < stgBase + 0x3000000 then dmaNear n c a len write data s
  else
    bbIssue (8 + n) write a data len (s.deadlineIn (s.get (F.TPR_DMA_RT_SLACK_NS n))) (.taper n c) s

/-- A channel issues its next burst, one at a time: it crosses no 256-byte boundary, nor what port B moves in a cycle.
[log 89 DEDUCED] -/
def dmaIssueNext (n c : Nat) (s : State) : State :=
  let k := s.chan n c
  if !k.busy || k.issued != k.done || decide (k.len ≤ k.issued) then s
  else
    let a := (k.ext + k.issued) % 2 ^ 48
    let near := decide (stgBase ≤ a ∧ a < stgBase + 0x3000000)
    let len := min (if near then 64 - a % 64 else 256 - a % 256) (k.len - k.issued)
    let s := modChan n c (fun k => { k with issued := k.issued + len }) s
    if k.toExt then
      match tprReadCells n (localCells k k.done len) s with
      | (some b, s) => dmaSend n c a len true ((b.drop (k.done % cellSize k.space)).take len) s
      | (none, s) => dmaFail n c .busErr s
    else dmaSend n c a len false [] s

/-- A channel's burst has ended (R652): a read's bytes go to local memory, a failing burst leaves its bytes unwritten.
[log 89 DEDUCED] -/
def dmaReply (n c : Nat) (st : Status) (data : List Byte) (s : State) : State :=
  let k := s.chan n c
  if !k.busy then s
  else
    let len := k.issued - k.done
    let s :=
      if st = .ok && !k.toExt then
        let l := localCells k k.done len
        let old := l.flatMap fun x => (s.core n).cell x.1 x.2
        tprStoreCells n l (splice old (k.done % cellSize k.space) (padTo len data)) s
      else s
    let s := modChan n c (fun k => { k with
      done := k.issued, err := if st = .ok then k.err else some (k.err.getD st) }) s
    dmaIssueNext n c s

/-- A Y word of a descriptor. -/
def descWord (s : State) (n desc i : Nat) : Nat := ((s.core n).yWord ((desc + i) % 16384)).toNat

/-- A descriptor has a parity error in one of its words. [log 87 DEDUCED] -/
def descBad (s : State) (n desc : Nat) : Option Nat :=
  ((List.range 8).map fun i => (desc + i) % 16384).find? fun a => (s.core n).badY.contains a

/-- The status codes, by their codes (R115). -/
def statusOf (k : Nat) : Status :=
  [Status.ok, .notOwner, .accessErr, .busErr, .unmapped, .badPacket, .restricted, .unreachable, .noUnit, .halted, .timeout,
    .denied, .bankDown].getD k .busErr

/-- A channel starts on a descriptor (R649). A descriptor outside the table's values moves nothing, and its RESULT is a
free value. [log 87 DEDUCED, log 88 DESIGN CHOICE] -/
def dmaLoad (n c desc : Nat) (s : State) : State :=
  let w := descWord s n desc
  let len := w 3 + 65536 * w 4
  let ctrl := w 6
  let k : Chan :=
    { busy := true, desc := desc, ext := w 0 + 2 ^ 16 * w 1 + 2 ^ 32 * w 2, len := len, space := w 5 / 16384
      word := w 5 % 16384, toExt := bitOf ctrl 0, evt := bitOf ctrl 1, chain := bitOf ctrl 2, next := w 7 % 16384
      issued := 0, done := 0, err := none }
  let s := s.set (F.TPR_DMA_STATUS_BUSY n c) 1
  if len % 4 = 0 ∧ 4 ≤ len ∧ len ≤ 2 ^ 24 ∧ k.space ≠ 3 ∧ ctrl < 8 then dmaIssueNext n c (modChan n c (fun _ => k) s)
  else
    let st := statusOf (s.free % 13)
    modChan n c (fun _ => { k with len := 0, err := if st = .ok then none else some st }) s.draw

/-- Every byte of a descriptor has been dealt with (R652): RESULT, the event, then the chain. [log 88 DESIGN CHOICE] -/
def dmaFinish (n c : Nat) (s : State) : State :=
  let k := s.chan n c
  let code := ((k.err.map Status.code).getD 0).toNat
  let s := modCore n (fun t => t.putY ((k.desc + 8) % 16384)
    (BitVec.ofNat 16 (1 + 2 * b2n k.err.isSome + 256 * code)) false) s
  let s := ((s.set (F.TPR_DMA_STATUS_DONE n c) 1).setB (F.TPR_DMA_STATUS_ERR n c) k.err.isSome).set
    (F.TPR_DMA_STATUS_CODE n c) code
  let s := if k.evt then raise (177 + 2 * n) s else s
  if k.chain && k.err.isNone then
    match descBad s n k.next with
    | some a => modChan n c (fun _ => { k with
        desc := k.next, len := 0, issued := 0, done := 0, chain := false, evt := false, err := some .busErr })
        (rasDetect 4 2 n (dataOff true a) 0 true s)
    | none => dmaLoad n c k.next s
  else modChan n c (fun k => { k with busy := false }) (s.set (F.TPR_DMA_STATUS_BUSY n c) 0)

/-- A channel stops where it is (R655). -/
def dmaStop (n c : Nat) (s : State) : State :=
  modChan n c (fun k => { k with busy := false }) (s.set (F.TPR_DMA_STATUS_BUSY n c) 0)

/-- The answers that wait for the DMA channels are taken. -/
def dmaAnswers (s : State) : State :=
  forEach s.bb.done (fun x s =>
    match x.origin with
    | .taper n c => dmaReply n c x.status x.data (dropDone x.id s)
    | _ => s) s

/-! ### Instructions -/

/-- Where execution goes on after an instruction: behind it, at a target, or at the instruction itself. -/
inductive Flow where
  | seq | goTo (a : Nat) | hold
deriving DecidableEq, Repr

/-- An instruction that changes the core alone. -/
def coreEff (n : Nat) (f : TaperCore → TaperCore) (s : State) : State × Flow := (modCore n f s, .seq)

/-- HALT, BKPT: the core halts behind the instruction. [log 81 DEDUCED] -/
def tHalt (n cause : Nat) (s : State) : State × Flow := (tprHalt n cause s, .seq)

/-- J. -/
def tJ (n c t : Nat) (s : State) : State × Flow := if (s.core n).cond c then (s, .goTo t) else (s, .seq)

/-- CALL. [log 81 DEDUCED] -/
def tCall (n pc c t : Nat) (s : State) : State × Flow :=
  if (s.core n).cond c then
    if 8 ≤ (s.core n).calls.length then (tprHalt n 6 s, .hold)
    else (modCore n (fun k => { k with calls := (pc + 1) % 16384 :: k.calls }) s, .goTo t)
  else (s, .seq)

/-- RET. [log 81 DEDUCED] -/
def tRet (n c : Nat) (s : State) : State × Flow :=
  if (s.core n).cond c then
    match (s.core n).calls with
    | a :: l => (modCore n (fun k => { k with calls := l }) s, .goTo a)
    | [] => (tprHalt n 6 s, .hold)
  else (s, .seq)

/-- JR. -/
def tJr (n k : Nat) (s : State) : State × Flow := (s, .goTo ((s.core n).ptr k))

/-- LOOP and LOOPR (R636). [log 82 DEDUCED] -/
def tLoop (n pc count body : Nat) (s : State) : State × Flow :=
  if count = 0 then (s, .goTo ((pc + body + 2) % 16384))
  else if 4 ≤ (s.core n).loops.length then (tprHalt n 7 s, .hold)
  else coreEff n (fun c => c.pushLoop pc count body) s

/-- LEAVE; without a loop there is nothing to leave. [log 82 DEDUCED] -/
def tLeave (n : Nat) (s : State) : State × Flow :=
  match (s.core n).loops with
  | l :: rest => (modCore n (fun c => { c with loops := rest }) s, .goTo ((l.last + 1) % 16384))
  | [] => (s, .seq)

/-- WAITEV (R647). [log 81 DEDUCED] -/
def tWaitev (n dd : Nat) (nb : Bool) (s : State) : State × Flow :=
  let got := fun (v : Nat) (s : State) =>
    (modCore n (fun c => c.setD dd (BitVec.ofNat 16 v)) (if tprState s n = 2 then tprEnter n 1 s else s), Flow.seq)
  match s.evc.lowestFor (1 + n) with
  | some x => got x { s with evc := s.evc.take s.evcEnv x }
  | none =>
    if s.flag (F.TPR_MAILBOX_DOORBELL n) then got 0x0100 (s.set (F.TPR_MAILBOX_DOORBELL n) 0)
    else if nb then got 0xFFFF s
    else (if tprState s n = 2 then s else tprEnter n 2 s, .hold)

/-- EVEND (R648). -/
def tEvend (n ds : Nat) (s : State) : State × Flow :=
  let x := ((s.core n).d ds).toNat
  (if x < 256 ∧ (s.evc.source x).target = 1 + n then { s with evc := (s.evc.later x).endService s.evcEnv x } else s, .seq)

/-- SIGNAL. -/
def tSignal (n code : Nat) (s : State) : State × Flow :=
  (raise (176 + 2 * n) (s.set (F.TPR_SIGNAL_CODE n) code), .seq)

/-- MODE. -/
def tMode (n m v : Nat) (s : State) : State × Flow :=
  let k := BitVec.ofNat 16 (m * 256)
  coreEff n (fun c => c.setReg 9 ((c.raw 9 &&& ~~~ k) ||| (BitVec.ofNat 16 (v * 256) &&& k))) s

/-- DMA (R641, R649): on a busy channel the core waits; a descriptor word with a parity error halts it. -/
def tDma (n ch k : Nat) (s : State) : State × Flow :=
  let desc := (s.core n).ptr k
  if (s.chan n ch).busy then (s, .hold)
  else match descBad s n desc with
    | some a => (tprParity n (dataOff true a) s, .hold)
    | none => (dmaLoad n ch desc s, .seq)

/-- DMAW. [log 81 DEDUCED] -/
def tDmaw (n ch : Nat) (s : State) : State × Flow := (s, if (s.chan n ch).busy then .hold else .seq)

/-- MOVI. -/
def tMovi (n r imm : Nat) (s : State) : State × Flow := coreEff n (fun c => c.setReg r (BitVec.ofNat 16 imm)) s

/-- MOV. -/
def tMov (n pc rd rs : Nat) (s : State) : State × Flow := coreEff n (fun c => c.setReg rd (c.reg pc rs)) s

/-- LD: the pointer is updated, then the register is written. [log 85 DEDUCED] -/
def tLd (n r : Nat) (y : Bool) (k m : Nat) (s : State) : State × Flow :=
  let c := s.core n
  let (a, u) := c.address k m
  match c.data y a with
  | some v => coreEff n (fun c => (c.setPtr k u).setReg r v) s
  | none => (tprParity n (dataOff y a) s, .hold)

/-- ST. -/
def tSt (n pc r : Nat) (y : Bool) (k m : Nat) (s : State) : State × Flow :=
  let (a, u) := (s.core n).address k m
  coreEff n (fun c => (c.putData y a (c.reg pc r)).setPtr k u) s

/-- LDI. -/
def tLdi (n r : Nat) (y : Bool) (a : Nat) (s : State) : State × Flow :=
  match (s.core n).data y a with
  | some v => coreEff n (fun c => c.setReg r v) s
  | none => (tprParity n (dataOff y a) s, .hold)

/-- STI. -/
def tSti (n pc r : Nat) (y : Bool) (a : Nat) (s : State) : State × Flow :=
  coreEff n (fun c => c.putData y a (c.reg pc r)) s

/-- LDP. [log 85 DEDUCED] -/
def tLdp (n i k m : Nat) (s : State) : State × Flow :=
  let c := s.core n
  let (a, u) := c.address k m
  if c.badP.contains a then (tprParity n (4 * a) s, .hold)
  else
    let w := c.pWord a
    coreEff n (fun c => ((c.setPtr k u).setD (2 * i) (w.setWidth 16)).setD (2 * i + 1) ((w >>> 16).setWidth 16)) s

/-- STP (R643): the two instructions that follow execute as fetched. -/
def tStp (n i k m : Nat) (s : State) : State × Flow :=
  let (a, u) := (s.core n).address k m
  coreEff n (fun c =>
    let old : Stale := ⟨a, c.pWord a, 3⟩
    let w : Word := (c.d (2 * i)).setWidth 32 ||| ((c.d (2 * i + 1)).setWidth 32 <<< 16)
    let stale := if c.stale.any (fun x => x.addr == a) then c.stale else old :: c.stale
    { (c.putP a w false).setPtr k u with stale := stale }) s

/-- LEA. -/
def tLea (n k m : Nat) (s : State) : State × Flow := coreEff n (fun c => c.setPtr k (c.address k m).2) s

/-- EXT (R619, R629). -/
def tExt (n dd a pos : Nat) (s : State) : State × Flow :=
  coreEff n (fun c =>
    let (v, cut) := c.extract a pos
    let c := c.setZN dd v
    if cut then c.setSr 6 true else c) s

/-- PACK (R618). -/
def tPack (n a d1 d2 : Nat) (s : State) : State × Flow :=
  coreEff n (fun c => c.setAcc a ((c.d d1).toInt * 65536 + (c.d d2).toNat) false false true) s

/-- GETG (R618, R629). -/
def tGetg (n dd a : Nat) (s : State) : State × Flow :=
  coreEff n (fun c => c.setZN dd (BitVec.ofInt 16 (c.a a / 2 ^ 32))) s

/-- PUTG (R618). -/
def tPutg (n a ds : Nat) (s : State) : State × Flow :=
  coreEff n (fun c =>
    c.setAcc a (signedOf 8 (c.d ds).toNat * 2 ^ 32 + ((c.a a % 2 ^ 32).toNat : Int)) false false true) s

/-- Format P (R633, R634): the arithmetic on the registers as they were, then the loads: X, Y, the PB operand.
[log 85 DEDUCED] -/
def tPar (n : Nat) (op : ParOp) (f : ParF) (s : State) : State × Flow :=
  let c := s.core n
  let (xa, xu) := c.address f.xp f.xm
  let (ya, yu) := c.address f.yp f.ym
  let pa := c.ptr 7
  if f.xm != 7 && c.badX.contains xa then (tprParity n (dataOff false xa) s, .hold)
  else if f.ym != 7 && c.badY.contains ya then (tprParity n (dataOff true ya) s, .hold)
  else if f.pb && c.badP.contains pa then (tprParity n (4 * pa) s, .hold)
  else
    let c1 := c.parArith op f.a f.s1 f.s2
    let c2 := if f.xm = 7 then c1 else (c1.setPtr f.xp xu).setD f.xd (c.xWord xa)
    let c3 := if f.ym = 7 then c2 else (c2.setPtr f.yp yu).setD f.yd (c.yWord ya)
    let w := c.pWord pa
    let c4 := if f.pb then
        ((c3.setPtr 7 (some (wrap14 (pa + 1)))).setD 6 (w.setWidth 16)).setD 7 ((w >>> 16).setWidth 16)
      else c3
    coreEff n (fun _ => c4) s

/-- ADDA. -/
def tAdda (n d x : Nat) : State → State × Flow :=
  coreEff n fun c => c.setAcc d (c.a d + c.a x) false (carry40 (c.a d) (c.a x)) true

/-- SUBA. -/
def tSuba (n d x : Nat) : State → State × Flow :=
  coreEff n fun c => c.setAcc d (c.a d - c.a x) false (borrow40 (c.a d) (c.a x)) true

/-- ZERO. -/
def tZero (n d : Nat) : State → State × Flow := coreEff n fun c => c.setAcc d 0 false false true

/-- NEG. [log 84 DEDUCED] -/
def tNeg (n d : Nat) : State → State × Flow := coreEff n fun c => c.setAcc d (-c.a d) false (borrow40 0 (c.a d)) true

/-- ABS. [log 84 DEDUCED] -/
def tAbs (n d : Nat) : State → State × Flow :=
  coreEff n fun c => c.setAcc d (c.a d).natAbs false (decide (c.a d < 0) && borrow40 0 (c.a d)) true

/-- ROUND (R628). -/
def tRound (n d : Nat) : State → State × Flow :=
  coreEff n fun c => c.setAcc d (c.rounded (c.a d)) false (carry40 (c.a d) (c.roundAdd (c.a d))) true

/-- CLIP. -/
def tClip (n d : Nat) : State → State × Flow :=
  coreEff n fun c =>
    let x := c.a d
    if x < -(2 ^ 31) ∨ 2 ^ 31 ≤ x then
      (c.setAcc d (if x < 0 then -(2 ^ 31) else 2 ^ 31 - 1) false false true).setSr 6 true
    else c.setAcc d x false false true

/-- SHA. -/
def tSha (n d : Nat) (k : Int) : State → State × Flow :=
  coreEff n fun c => c.setAcc d (shiftAcc (c.a d) k).1 false (shiftAcc (c.a d) k).2 true

/-- SHAV: the shift is limited to −32 to +31. -/
def tShav (n d r : Nat) : State → State × Flow :=
  coreEff n fun c =>
    let k := max (-32) (min 31 (c.d r).toInt)
    c.setAcc d (shiftAcc (c.a d) k).1 false (shiftAcc (c.a d) k).2 true

/-- NORM. -/
def tNorm (n r x : Nat) : State → State × Flow :=
  coreEff n fun c => c.setZN r (BitVec.ofNat 16 (redundantSigns (BitVec.ofInt 40 (c.a x))))

/-- CMPA. [log 84 DEDUCED] -/
def tCmpa (n d x : Nat) : State → State × Flow :=
  coreEff n fun c => c.setAcc d (c.a d - c.a x) false (borrow40 (c.a d) (c.a x)) false

/-- MOVA. -/
def tMova (n d x : Nat) : State → State × Flow := coreEff n fun c => c.setAcc d (c.a x) false false true

/-- ADD. -/
def tAdd (n d a b : Nat) : State → State × Flow := coreEff n fun c => c.addD d (c.d a) (c.d b)

/-- SUB. -/
def tSub (n d a b : Nat) : State → State × Flow := coreEff n fun c => c.subD (some d) (c.d a) (c.d b)

/-- AND. -/
def tAnd (n d a b : Nat) : State → State × Flow := coreEff n fun c => c.setAlu (c.d a &&& c.d b) false false (some d)

/-- OR. -/
def tOr (n d a b : Nat) : State → State × Flow := coreEff n fun c => c.setAlu (c.d a ||| c.d b) false false (some d)

/-- XOR. -/
def tXor (n d a b : Nat) : State → State × Flow := coreEff n fun c => c.setAlu (c.d a ^^^ c.d b) false false (some d)

/-- SHL: C is the last bit shifted out. -/
def tShl (n d a k : Nat) : State → State × Flow :=
  coreEff n fun c => c.setAlu (c.d a <<< k) false (k != 0 && (c.d a).getLsbD (16 - k)) (some d)

/-- SHR. -/
def tShr (n d a k : Nat) : State → State × Flow :=
  coreEff n fun c => c.setAlu (c.d a >>> k) false (k != 0 && (c.d a).getLsbD (k - 1)) (some d)

/-- SHRA. -/
def tShra (n d a k : Nat) : State → State × Flow :=
  coreEff n fun c => c.setAlu ((c.d a).sshiftRight k) false (k != 0 && (c.d a).getLsbD (k - 1)) (some d)

/-- ADDI. -/
def tAddi (n d a imm : Nat) : State → State × Flow := coreEff n fun c => c.addD d (c.d a) (BitVec.ofNat 16 imm)

/-- CMP. -/
def tCmp (n a b : Nat) : State → State × Flow := coreEff n fun c => c.subD none (c.d a) (c.d b)

/-- BREV. -/
def tBrev (n d a k : Nat) : State → State × Flow :=
  coreEff n fun c => c.setAlu (reverseLow (c.d a) k) false false (some d)

/-- POPC. -/
def tPopc (n d a : Nat) : State → State × Flow :=
  coreEff n fun c => c.setAlu (BitVec.ofNat 16 (popCount (c.d a))) false false (some d)

/-- What an instruction at `pc` does (R635). -/
def tprEffect (n pc : Nat) (i : TInstr) (s : State) : State × Flow :=
  match i with
  | .nop => (s, .seq)
  | .halt => tHalt n 1 s
  | .bkpt => tHalt n 2 s
  | .j c t => tJ n c t s
  | .call c t => tCall n pc c t s
  | .ret c => tRet n c s
  | .jr k => tJr n k s
  | .loop count body => tLoop n pc count body s
  | .loopr r body => tLoop n pc ((s.core n).reg pc r).toNat body s
  | .leave => tLeave n s
  | .waitev dd nb => tWaitev n dd nb s
  | .evend ds => tEvend n ds s
  | .signal code => tSignal n code s
  | .wdog => (tprKick n s, .seq)
  | .mode m v => tMode n m v s
  | .dma c k => tDma n c k s
  | .dmaw c => tDmaw n c s
  | .movi r imm => tMovi n r imm s
  | .mov rd rs => tMov n pc rd rs s
  | .ld r y k m => tLd n r y k m s
  | .st r y k m => tSt n pc r y k m s
  | .ldi r y a => tLdi n r y a s
  | .sti r y a => tSti n pc r y a s
  | .ldp i k m => tLdp n i k m s
  | .stp i k m => tStp n i k m s
  | .lea k m => tLea n k m s
  | .ext dd a pos => tExt n dd a pos s
  | .pack a d1 d2 => tPack n a d1 d2 s
  | .getg dd a => tGetg n dd a s
  | .putg a ds => tPutg n a ds s
  | .par op f => tPar n op f s
  | .adda d x => tAdda n d x s
  | .suba d x => tSuba n d x s
  | .zero d => tZero n d s
  | .neg d => tNeg n d s
  | .abs d => tAbs n d s
  | .round d => tRound n d s
  | .clip d => tClip n d s
  | .sha d k => tSha n d k s
  | .shav d r => tShav n d r s
  | .norm r x => tNorm n r x s
  | .cmpa d x => tCmpa n d x s
  | .mova d x => tMova n d x s
  | .add d a b => tAdd n d a b s
  | .sub d a b => tSub n d a b s
  | .and d a b => tAnd n d a b s
  | .or d a b => tOr n d a b s
  | .xor d a b => tXor n d a b s
  | .shl d a k => tShl n d a k s
  | .shr d a k => tShr n d a k s
  | .shra d a k => tShra n d a k s
  | .addi d a imm => tAddi n d a imm s
  | .cmp a b => tCmp n a b s
  | .brev d a k => tBrev n d a k s
  | .popc d a => tPopc n d a s

/-! ### Fetch and completion -/

/-- The word that the core fetches, and whether it finds a parity error (R616, R638, R643). [log 113 DESIGN CHOICE] -/
def tprFetch (s : State) (n : Nat) : Word × Bool :=
  let c := s.core n
  let pc := tprPc s n
  match c.stale.find? (fun x => x.addr == pc) with
  | some x => (x.word, false)
  | none =>
    if c.cached pc then
      ((c.cache.map fun k => k.words.getD ((pc + 16384 - k.first) % 16384) 0).getD 0, false)
    else (c.pWord pc, c.badP.contains pc)

/-- After an instruction: loop ends, the next pc, and one instruction less for words still to execute as fetched.
[log 82 DEDUCED, log 113 DESIGN CHOICE] -/
def tprFinish (n pc : Nat) (x : State × Flow) : State :=
  let s := x.1
  let go := fun (nx : Option Nat) =>
    let (c, e) := TaperCore.loopEnd pc 5 (s.core n) ((pc + 1) % 16384)
    (modCore n (fun _ => c.age) s).set (F.TPR_PC_PC n) (nx.getD e)
  match x.2 with
  | .hold => s
  | .seq => go none
  | .goTo a => go (some a)

/-- Execute an instruction at the core's pc. [log 113 DESIGN CHOICE] -/
def tprExecute (n : Nat) (bad : Bool) (i : TInstr) (s : State) : State :=
  let pc := tprPc s n
  if bad then tprParity n (4 * pc) s else tprFinish n pc (tprEffect n pc i s)

/-- The core may execute: it is Running, the part works, and no Engine reset of the core runs. -/
def tprMay (s : State) (n : Nat) : Bool := s.works && !s.rst.engines.contains (0x20 + n)

/-- The command of an instruction: the core executes it when its fetched word is that instruction; a Waiting core is at
its WAITEV. [log 113 DESIGN CHOICE] -/
def tprRow (n : Nat) (want : TInstr → Bool) (s : State) : State :=
  let (w, bad) := tprFetch s n
  match decodeTaper w with
  | some i =>
    if tprMay s n && want i && (tprState s n == 1 || (tprState s n == 2 && (match i with | .waitev .. => true | _ => false)))
    then tprExecute n bad i s else s
  | none => s

/-- An illegal instruction halts the core (R630). [log 81 DEDUCED] -/
def tprIllegal (n : Nat) (s : State) : State :=
  let (w, bad) := tprFetch s n
  if tprMay s n && tprState s n == 1 && (decodeTaper w).isNone then
    if bad then tprParity n (4 * tprPc s n) s else tprHalt n 5 s
  else s

/-! ### Running and halting (R646) -/

/-- RUN: a Halted core starts at its pc. [log 86 DEDUCED] -/
def tprStart (n : Nat) (s : State) : State :=
  if s.rst.engines.contains (0x20 + n) then s.set (F.TPR_STATUS_ENABLE_PENDING n) 1
  else if tprState s n = 0 then tprEnter n 1 (tprKick n s)
  else s

/-- STEP: one instruction of a Halted core, then Halted with cause STEP (R646, R664). [log 86 DEDUCED] -/
def tprStep (n : Nat) (s : State) : State :=
  if tprState s n != 0 then s.set (F.TPR_STATUS_IGNORED n) 1
  else
    let (w, bad) := tprFetch s n
    let s := tprEnter n 1 s
    let s := match decodeTaper w with
      | some i => tprExecute n bad i s
      | none => if bad then tprParity n (4 * tprPc s n) s else tprHalt n 5 s
    if tprState s n = 0 then s else tprHalt n 4 s

/-- A write of TPRn_CTRL (R646, R662): HALT stands over RUN and STEP. [log 86 DEDUCED] -/
def tprCtrlWrite (n : Nat) (v : Word) (s : State) : State :=
  let s := s.set (F.TPR_CTRL_LOCKUP_ACT n) ((F.TPR_CTRL_LOCKUP_ACT n).of v)
  if (F.TPR_CTRL_HALT n).on v then
    let s := s.set (F.TPR_STATUS_ENABLE_PENDING n) 0
    if tprState s n = 0 then s else tprHalt n 3 s
  else if (F.TPR_CTRL_RUN n).on v then tprStart n s
  else if (F.TPR_CTRL_STEP n).on v && !s.rst.engines.contains (0x20 + n) then tprStep n s
  else s

/-- A write of TPRn_PC (`which` 0), TPRn_REGr (r + 1) or half of an accumulator (41 to 44) (R664). -/
def tprStateWrite (n which : Nat) (v : Word) (s : State) : State :=
  if tprState s n != 0 then s.set (F.TPR_STATUS_IGNORED n) 1
  else if which = 0 then s.set (F.TPR_PC_PC n) ((F.TPR_PC_PC n).of v)
  else if which ≤ 40 then
    if regOk (which - 1) then modCore n (fun c => c.setReg (which - 1) (v.setWidth 16)) s else s
  else
    let k := (which - 41) / 2
    modCore n (fun c =>
      let old := vget c.acc (Fin.ofNat 2 k)
      let new : BitVec 40 := if which % 2 = 1 then (old &&& 0xFF00000000) ||| v.setWidth 40
        else (old &&& 0xFFFFFFFF) ||| ((v.setWidth 40 &&& 0xFF) <<< 32)
      { c with acc := vset c.acc (Fin.ofNat 2 k) new }) s

/-- A read of TPRn_REGr or of half of an accumulator: zero while the core is not Halted (R664). -/
def tprStateRead (s : State) (n which : Nat) : Word :=
  if tprState s n != 0 then 0
  else if which ≤ 40 then
    if regOk (which - 1) then ((s.core n).reg (tprPc s n) (which - 1)).setWidth 32 else 0
  else
    let x := vget (s.core n).acc (Fin.ofNat 2 ((which - 41) / 2))
    if which % 2 = 1 then x.setWidth 32 else (x >>> 32).setWidth 32

/-- Which state word a register address of the TPR page names. -/
def tprWhich (o : Nat) : Option Nat :=
  if o = 8 then some 0
  else if 0x100 ≤ o ∧ o < 0x1A0 then some ((o - 0x100) / 4 + 1)
  else if 0x200 ≤ o ∧ o < 0x210 then some ((o - 0x200) / 4 + 41)
  else none

/-- A write of a register of the TPR page (R663). -/
def tprWrite (a : Nat) (v : Word) (s : State) : State :=
  let n := (a - R.TPR_CTRL 0) / 0x1000
  let o := (a - R.TPR_CTRL 0) % 0x1000
  if o = 0 then tprCtrlWrite n v s
  else match tprWhich o with
    | some w => tprStateWrite n w v s
    | none => s.writeByAcc a v

/-- A read of the register at `a` of core `n`: word `w` of the core's state, or a register of its own (R663). -/
def tprReadAs (n : Nat) (w : Option Nat) (a : Nat) (s : State) : Word × State :=
  match w with
  | some 0 => (s.readByAcc a, s)
  | some w => (tprStateRead s n w, s)
  | none => (s.readByAcc a, s.clearByAcc a)

/-- A read of a register of the TPR page (R663). -/
def tprRead (a : Nat) (s : State) : Word × State :=
  tprReadAs ((a - R.TPR_CTRL 0) / 0x1000) (tprWhich ((a - R.TPR_CTRL 0) % 0x1000)) a s

/-! ### Lock-up (R653 to R655) -/

/-- What waits at port B or has been answered for a core is dropped. -/
def dropTaper (n : Nat) (s : State) : State :=
  { s with
    stg := { s.stg with portB := s.stg.portB.filter (fun r => r.agent / 2 != n) }
    bb := { s.bb with done := s.bb.done.filter (fun x => match x.origin with | .taper m _ => m != n | _ => true) } }

/-- The state of a core after an Engine reset: its memories keep their contents (R645). -/
def resetTaper (n : Nat) (s : State) : State :=
  let pend := s.flag (F.TPR_STATUS_ENABLE_PENDING n)
  let s := dropTaper n s
  let s := { s with regs := restoreIn (R.TPR_CTRL n) (R.TPR_CTRL n + 0xFFF) (fun x => x == .eng) s.regs }
  let s := modCore n (fun c => { TaperCore.init with
    pram := c.pram, xram := c.xram, yram := c.yram, badP := c.badP, badX := c.badX, badY := c.badY, access := c.access }) s
  if pend then tprEnter n 1 (tprKick n s) else s

/-- A core is locked up (R199, R654, R655). [log 51 DEDUCED] -/
def tprLockup (n : Nat) (s : State) : State :=
  let s := s.set (F.TPR_STATUS_LOCKUP n) 1
  if s.flag (F.TPR_CTRL_LOCKUP_ACT n) then
    raise 247 (unfence (8 + n) (resetTaper n (fence (8 + n) (raise (176 + 2 * n) s))))
  else
    let s := fence (8 + n) (tprHalt n 9 s)
    dmaStop n 1 (dmaStop n 0 (dropTaper n (s.set (F.TPR_STATUS_FENCED n) 1)))

/-- Time the watchdog of a core has counted, in ns. -/
def tprCounted (s : State) (n : Nat) : Nat :=
  (s.core n).wdogRun + (if tprState s n = 1 then s.elapsed - (s.core n).wdogFrom else 0)

end Sys2Proof.Machine
end

