-- ==== Sys2Proof/Machine/Reset.lean ====
section
/-!
DEFINITION. Sys2Proof/Machine/Reset.lean: power, resets and the bring-up (04_bringup_reset.md): what each reset scope clears
and keeps, the bring-up's steps, failed starts, Nightlight mode, brown-outs, standby and deep sleep.
-/

namespace Sys2Proof.Machine

/-! ### Causes (R249) -/

/-- The code of a cause. -/
def Cause.code : Cause → Nat
  | .pilotPor => 0 | .corePor => 1 | .brownout => 2 | .resetPin => 3 | .deepWake => 4 | .watchdog => 5 | .software => 6
  | .chainReset => 7 | .debug => 8 | .clockFail => 9 | .cfgLockup => 10 | .critParity => 11 | .startTimeout => 12
  | .bowRecover => 13 | .nlExit => 14

/-- LAST_CAUSE and LAST_SCOPE are recorded. -/
def recordCause (warm : Bool) (c : Cause) (s : State) : State :=
  (s.set F.RST_CAUSE_LAST_CAUSE c.code).setB F.RST_CAUSE_LAST_SCOPE warm

/-! ### What a reset clears (R14, R193) -/

/-- The fields that a Warm, or with `cold` a Cold, reset restores (R14). [log 17 DEDUCED] -/
def restores (cold : Bool) : Scope → Bool
  | .eng | .rgn | .fab | .warm => true
  | .cold => cold
  | _ => false

/-- Tester Time runs on (R44); what the core adds to it is gone, an armed step included (R983). [log 52 DEDUCED] -/
def TtS.afterReset (t : TtS) (now : Nat) : TtS :=
  { t with
    slew := none, slewAcc := 0, step := none, phasePending := false, refLocked := false, holdRx := false, missed := 0
    hopMeas := [], echoTag := 0, echoAt := none, echoNext := now, lsc := 0, lscRem := 0, frozeAt := none, lscHi := 0, lscHist := [], ttHist := [] }

/-- A Taper core after a reset: its memories keep their contents (R645). -/
def TaperCore.afterReset (c : TaperCore) : TaperCore :=
  { TaperCore.init with
    pram := c.pram, xram := c.xram, yram := c.yram, badP := c.badP, badX := c.badX, badY := c.badY }

/-- The core is cleared: everything but the Pilot domain, the Psiom store and, after a Warm reset, the chain address,
external memory with the region set that it is read under, Staging SRAM and the error log (R193, R782, R839, R917). [log 17 DEDUCED, log 52 DEDUCED] -/
def clearCore (cold : Bool) (s : State) : State :=
  { s with
    regs := restoreRegs (restores cold) s.regs
    tt := s.tt.afterReset s.clk.now
    fil := { FilS.init with
      addr := if cold || s.rst.addrBad then 0 else s.fil.addr, wakeIn := s.fil.wakeIn
      us := Link.init .training }
    rst := { s.rst with
      coreUp := false, bringFrom := none, phase := 0, doneAt := none, warm := none, deferred := none, engines := [], bowAt := none
      exiting := false, ioReleased := false, bfpReleased := false, addrBad := false }
    svp := SvpS.init
    bfp := BfpS.init
    cfg := CfgS.init
    rgn := Vector.replicate 24 RgnS.init
    fab := { FabS.init with bram := s.fab.bram, bramMark := s.fab.bramMark }
    xcv := Vector.replicate 64 XcvS.init
    lnt := Vector.replicate 16 LntS.init
    bcn := Vector.replicate 16 BcnS.init
    sch := SchS.init
    tpr := s.tpr.map TaperCore.afterReset
    bb := { BbS.init with nextId := s.bb.nextId }
    mem := { s.mem with
      subs := Vector.ofFn fun (i : Fin 8) => { SubS.init with driven := !cold && (vget s.mem.subs i).driven && scState s i.val == 4 }
      ctls := Vector.replicate 4 CtlS.init }
    stg := { StgS.init with bytes := s.stg.bytes, mark := s.stg.mark, lost := s.stg.lost }
    shd := { ShdS.init with regions := if cold then [] else s.shd.regions }
    evc := EvcS.init
    ras := if cold then RasS.init else { RasS.init with log := s.ras.log } }

/-! ### Bring-up (R201) -/

/-- The byte at a place of the boot record (R863). -/
def bootAt (s : State) (i n : Nat) : Nat := leAt (psmBytes s 0 256) i n

/-- The boot record passes its check (R864). -/
def bootOk (s : State) : Bool :=
  let st := (psmSector s 0).state
  let ms := bootAt s 8 4
  bootAt s 0 4 == 0x54425848 && bootAt s 4 1 == 1 && decide (1 ≤ bootAt s 5 1 ∧ bootAt s 5 1 ≤ 7) &&
    (ms == 0 || decide (100 ≤ ms ∧ ms ≤ 600000)) && decide (bootAt s 0x45 1 ≤ 4) &&
    bootAt s 0xFC 4 == (crc32 (psmBytes s 0 0xFC)).toNat && (st == .erased || st == .written) &&
    (List.range 16).all fun u => psmUnit s u != .uncorrectable

/-- The boot record as it stands (R203, R863). -/
def bootRecord (s : State) : Boot :=
  if bootOk s then
    let ms := bootAt s 8 4
    { blank := false, cfgSrc := bootAt s 0x40 1, cfgAddr := bootAt s 0x48 4, failLimit := bootAt s 5 1
      timeoutMs := if ms = 0 then 2000 else ms, memInit := bootAt s 0x70 1
      mcCfg := (List.range 4).map fun n => bootAt s (0x74 + 4 * n) 4
      populated := bootAt s 0x42 1, bfpCs := bootAt s 0x41 1, freq := bootAt s 0x43 1 % 4, dummy := bootAt s 0x44 1
      entry := ((psmBytes s 0 256).drop 0x50).take (8 * bootAt s 0x45 1) }
  else Boot.init

/-- The trim is the first copy that passes its check, or the default trim (R846). [log 12 DESIGN CHOICE] -/
def trimBringup (s : State) : State :=
  let c := (List.finRange 3).find? fun i => vget s.psm.trim i
  let s := { s with psm := { s.psm with trimUse := c } }
  if c.isNone then raise 219 (s.set F.PSM_STATUS_TRIM_BAD 1) else s

/-- Step 2: the trim is read and the store wakes; a sector whose erase was not finished is INCOMPLETE (R846, R859).
[log 48 DEDUCED] -/
def psmBringup (s : State) : State :=
  let s := trimBringup s
  let s := forEach (s.psm.sectors.filter fun x => x.2.state == .erasing || x.2.state == .suspended)
    (fun x s => sectorTo x.1 .incomplete s) s
  let s := { s with psm := { s.psm with
    cmd := none, suspended := none, keyBuf := List.replicate 96 0, reads := [], cut := [], scan := 0
    scanAt := s.elapsed } }
  if s.psm.sectors.any (fun x => x.2.state == .incomplete) then raise 219 (s.set F.PSM_STATUS_FOUND_INCOMPLETE 1) else s

/-- A command in 1S-1S-1S that sends bytes (R285). -/
def plainCmd (cs : Nat) (op data : List Byte) : FlashCmd := ⟨cs, false, op, none, 0, true, data, data.length⟩

/-- The entry sequence of the boot policy (R285). [log 43 DEDUCED] -/
def entryCommands (b : Boot) (cs : Nat) : List FlashCmd :=
  (List.range (b.entry.length / 8)).map fun e =>
    let x := b.entry.drop (8 * e)
    plainCmd cs (byteAt x 0 :: (x.drop 4).take (min 4 (byteAt x 1).toNat)) (if (byteAt x 2).getLsbD 0 then [byteAt x 3] else [])

/-- The selects on which the start sequence runs (R222, R285). -/
def flashSelects (b : Boot) : List Nat := if b.blank then [0, 1] else maskBits 2 b.populated

/-- The Boot Flash Port is released: step 1 of its start sequence (R222, R285). [log 43 DEDUCED] -/
def bfpRelease (s : State) : State :=
  { s with
    bfp := { s.bfp with
      issued := (flashSelects s.rst.boot).flatMap fun cs => [plainCmd cs [0x66] [], plainCmd cs [0x99] []]
      relAt := some s.clk.now }
    rst := { s.rst with bfpReleased := true } }

/-- Steps 2 and 3 of the start sequence, 100 us later (R285). [log 43 DEDUCED] -/
def bfpStart (s : State) : State :=
  match s.bfp.relAt with
  | some t =>
    if t + 100000 ≤ s.clk.now then
      { s.set F.BFP_STATUS_READY 1 with
        bfp := { s.bfp with issued := (flashSelects s.rst.boot).flatMap (entryCommands s.rst.boot), relAt := none } }
    else s
  | none => s

/-- Step 3: the boot policy, the start timeout, and Nightlight mode (R202, R203, R218).
[log 4 DESIGN CHOICE, log 12 DESIGN CHOICE] -/
def bootStep (s : State) : State :=
  let b := bootRecord s
  let s := { s with rst := { s.rst with boot := b } }
  let s := (s.set F.RST_FAIL_FAIL_LIMIT b.failLimit).set F.RST_START_TIMEOUT_MS b.timeoutMs
  let s := s.setB F.PSM_STATUS_BOOT_BLANK b.blank
  if b.failLimit ≤ s.get F.RST_FAIL_FAIL_COUNT then raise 246 (s.set F.RST_FAIL_NIGHTLIGHT 1) else s

/-- Step 6 for a controller: after a Warm reset one with a subchannel in Self-refresh is enabled (R731); the boot policy
names those that initialise. -/
def memBringup (n : Nat) (s : State) : State :=
  let b := s.rst.boot
  let kept := scState s (2 * n) == 4 || scState s (2 * n + 1) == 4
  if kept then mcEnable n s
  else if bitOf b.memInit n then mcEnable n (s.writeByAcc (R.MC_CFG n) (BitVec.ofNat 32 (b.mcCfg.getD n 0)))
  else s

/-- Step 6: configuration and memory (R196, R201, R222, R237). [log 4 DESIGN CHOICE] -/
def loadStep (s : State) : State :=
  let b := s.rst.boot
  let s := if b.blank then s else (s.set F.BFP_CTRL_DUMMY b.dummy).set F.BFP_CTRL_FREQ b.freq
  if s.nightlight then s
  else
    let s := forEach (List.range 4) memBringup s
    let s := if b.cfgSrc = 1 then bfpRelease (s.set F.BFP_CTRL_EN 1) else s
    if b.cfgSrc = 1 ∨ b.cfgSrc = 2 then startLoad b.cfgSrc (b.bfpCs % 2) b.cfgAddr none s else s

/-- Step 5: the Service Port is accepted, and the token has its owner (R24, R30). -/
def ownerStep (s : State) : State :=
  s.setB F.OWN_STATUS_OWNER (s.flag F.RST_CAUSE_LAST_SCOPE && s.fil.addr != 0 && !s.flag F.SVP_HOLD_HOLD)

/-- Step 8: the upstream port trains, and the downstream one of a unit that kept its address. [log 4 DESIGN CHOICE] -/
def linkStep (s : State) : State :=
  startDownstream (s.setLink .us { s.fil.us with since := s.clk.now })

/-- A step of the bring-up begins once its time has come, behind the steps before it. [log 4 DESIGN CHOICE] -/
def bringStep (k ns : Nat) (f : State → State) (s : State) : State :=
  if s.rst.coreUp && decide (s.rst.phase < k) && decide (s.rst.bringAt + ns ≤ s.clk.now) then
    f { s with rst := { s.rst with phase := k } }
  else s

/-- The steps of the bring-up at the times of R201; step 7 is a command's, and step 9 comes at DONE. [log 4 DESIGN CHOICE] -/
def bringSteps (s : State) : State :=
  let s := bringStep 3 1000000 bootStep (bringStep 2 500000 psmBringup s)
  let s := bringStep 5 3000000 ownerStep (bringStep 4 2000000 shadeBringup s)
  bringStep 8 39000000 linkStep (bringStep 6 3000000 loadStep s)

/-- Step 1 of the bring-up, at time 0 (R201); Tester Time's source is looked at afresh. [log 3 DESIGN CHOICE,
log 4 DESIGN CHOICE] -/
def bringUp (s : State) : State :=
  let s := { s with rst := { s.rst with coreUp := true, bringAt := s.clk.now, phase := 1, bringFrom := none } }
  let s := if s.ttSource = 1 then refTry s else s
  { s with tt := { s.tt with phasePending := s.ttSource == 2 } }

/-- What passes with time in the bring-up (R195, R201, R285): step 3 of a Warm reset, the steps that are due, and the start of the
Boot Flash Port. -/
def bringTick (s : State) : State :=
  bfpStart <| bringSteps (match s.rst.bringFrom with
    | some t => if t ≤ s.clk.now && s.rst.powered && s.rst.resetN then bringUp s else s
    | none => s)

/-! ### Resets (R193 to R195, R210 to R213, R225) -/

/-- Every master ID that names one. -/
def allMasters : List Nat := (List.range 128).filter masterValid

/-- Writes committed at port A of Staging SRAM are performed (R668). -/
def finishPortA (s : State) : State := forEach (s.stg.portA.filter (·.write)) portAPerform s

/-- Steps 1 and 2 of a Warm reset (R195). [log 52 DEDUCED] -/
def quiesce (s : State) : State :=
  let s := finishPortA (forEach allMasters reclaim s)
  forEach (List.range 8) (fun sc s => abandonInit sc (selfRefreshNow sc s)) s

/-- A program pulse that an undeferred reset cuts: the unit may hold anything, but for a unit of a key copy, which is
not programmed (R873). [log 48 DEDUCED] -/
def cutPulse (s : State) : State :=
  match s.psm.cmd with
  | some c =>
    match c.sectors, c.units with
    | [], (u, _) :: _ =>
      if c.op = 1 then sectorTo (u / 256) .written (psmPut u (leBytes 16 s.free) .unverified s.draw) else s
    | _, _ => s
  | none => s

/-- A Cold reset (R193, R194, R782): the core stays in reset until bring-up begins. [log 48 DEDUCED] -/
def coldReset (c : Cause) (s : State) : State :=
  let s := loseStaging (loseMemory (recordCause false c (clearCore true (cutPulse s))))
  { s with psm := { s.psm with cmd := none, suspended := none, reads := [] } }

/-- Banks that were Off, or on their way there, hold nothing after a Warm reset (R782). [log 52 DEDUCED] -/
def loseOffBanks (s : State) : State :=
  forEach (List.range 48) (fun b s =>
    if bankState s b = 2 || (bankState s b == 3 && (s.bank b).target == 2) then bankLose b s else s) s

/-- A Warm reset requested at `w` (R195, R924): the core is quiet and cleared, and bring-up begins 10 us after `w`.
[log 52 DEDUCED] -/
def warmReset (c : Cause) (w : Nat) (s : State) : State :=
  let s := recordCause true c (clearCore false (loseOffBanks (quiesce s)))
  { s.setB F.OWN_STATUS_ADDRESSED (s.fil.addr != 0) with rst := { s.rst with bringFrom := some (w + 10000) } }

/-- A Warm reset has been requested; the one that a chain RESET asks for starts 1 us after its answer has left (R185).
[log 47 DEDUCED] -/
def warmCause (s : State) : Option (Cause × Nat) :=
  match s.rst.warm with
  | some c => some (c, s.rst.warmAt)
  | none => match s.fil.resetAt with
    | some t => if t + 1000 ≤ s.clk.now then some (.chainReset, t + 1000) else none
    | none => none

/-- A requested Warm reset: during a Psiom pulse it waits (R225). [log 47 DEDUCED] -/
def takeWarm (s : State) : State :=
  if s.rst.coreUp then
    match warmCause s with
    | some (c, w) =>
      if s.psm.cmd.isSome then
        { s with
          rst := { s.rst with warm := none, deferred := some (s.rst.deferred.getD (false, c)) }
          fil := { s.fil with resetAt := none } }
      else warmReset c w s
    | none => s
  else s

/-- Bring-up begins when the core is in reset, its rails are valid and RESET_N is high (R210, R936).
[log 4 DESIGN CHOICE] -/
def startCore (s : State) : State :=
  if !s.rst.coreUp && s.rst.bringFrom.isNone && s.rst.powered && s.rst.resetN && s.rst.corePwrEn then bringUp s else s

/-- A deferred reset is taken once the pulse has ended (R225). [log 47 DEDUCED] -/
def takeDeferred (s : State) : State :=
  match s.rst.deferred with
  | some (cold, c) =>
    if s.psm.cmd.isSome then s else if cold then startCore (coldReset c s) else warmReset c s.clk.now s
  | none => s

/-- RESET_N is low for `ns` nanoseconds or more (R209, R210, R225, R246). [log 49 DEDUCED] -/
def resetLow (ns : Nat) (s : State) : State :=
  if ns < 1000 then s
  else
    let s := { s with rst := { s.rst with resetN := false } }
    if s.get F.PWR_STATUS_STATE = 2 then { s with rst := { s.rst with corePwrEn := true } }
    else if !s.rst.coreUp && s.rst.bringFrom.isNone then s
    else if s.psm.cmd.isSome then { s with rst := { s.rst with deferred := some (true, .resetPin) } }
    else coldReset .resetPin s

/-- RESET_N rises (R210). [log 49 DEDUCED] -/
def resetRise (s : State) : State := startCore { s with rst := { s.rst with resetN := true } }

/-- A wake from deep sleep (R246, R247): a Cold reset, with the rails still to return. [log 49 DEDUCED] -/
def deepWake (s : State) : State :=
  if s.get F.PWR_STATUS_STATE = 2 && s.rst.corePwrEn then
    let s := coldReset .deepWake s
    { s with rst := { s.rst with powered := false } }
  else s

/-- The core rails are valid (R936); a wake from deep sleep is a Cold reset with its own cause (R246, R247). -/
def railsValid (s : State) : State :=
  let s := deepWake s
  if s.rst.powered || !s.rst.corePwrEn then s else startCore { s with rst := { s.rst with powered := true } }

/-- A core rail fails (R228, R232, R247, R937): never deferred, and not seen while CORE_PWR_EN is low. -/
def railsFail (c : Cause) (s : State) : State :=
  if s.rst.powered && s.rst.corePwrEn then
    let s := coldReset c s
    { s with rst := { s.rst with powered := false } }
  else s

/-- VCC_PILOT fails (R43, R93, R938, R940): a Pilot power-on reset with a Cold reset of the core. -/
def pilotFail (s : State) : State :=
  let s := coldReset .pilotPor s
  recordCause false .pilotPor { s with
    regs := restoreRegs (fun x => x != .nv) s.regs
    tt := { TtS.init with refKhz := s.tt.refKhz, cmpIn := s.tt.cmpIn, wakePin := s.tt.wakePin }
    jtag := TapS.init
    rst := { s.rst with powered := false, corePwrEn := false } }

/-- The Pilot power-on reset releases (R938, R940). -/
def pilotRelease (s : State) : State :=
  if !s.rst.corePwrEn && s.get F.PWR_STATUS_STATE == 0 then { s with rst := { s.rst with corePwrEn := true } } else s

/-! ### Failed starts (R214 to R217) -/

/-- A start fails (R215). [log 53 DEDUCED] -/
def failStart (s : State) : State := raise 245 (s.incSat F.RST_FAIL_FAIL_COUNT)

/-- The start timeout has expired with configuration never DONE (R203, R214, R221); DONE in the cycle of its expiry comes first
(R248). [log 53 DEDUCED] -/
def startTimeout (s : State) : State :=
  let ms := s.get F.RST_START_TIMEOUT_MS
  if s.rst.coreUp && !s.nightlight && s.rst.doneAt.isNone && ms != 0 && s.rst.warm.isNone &&
      s.rst.deferred.isNone && decide (s.rst.bringAt + 1000000 * ms < s.clk.now) then
    requestWarm .startTimeout (failStart s)
  else s

/-! ### Engine resets (R197 to R199, R251) -/

/-- The master of an engine that RST_ENGINE names, where it is one. -/
def engineMaster (e : Nat) : Option Nat :=
  if e < 0x10 then some (16 + e) else if e < 0x20 then some (32 + (e - 0x10)) else if e < 0x28 then some (8 + (e - 0x20))
  else none

/-- A write of RST_ENGINE: with GO the engine is fenced and its reset runs; one that names an engine whose reset runs has no
effect (R248). [log 51 DEDUCED] -/
def rstEngineWrite (v : Word) (s : State) : State :=
  let go := F.RST_ENGINE_GO.on v
  let e := F.RST_ENGINE_ENGINE.of v
  if go && s.rst.engines.contains e then s
  else
    let s := s.writeByAcc R.RST_ENGINE v
    if go && decide (e < 0x2C) then
      let s := { s.set F.RST_ENGINE_BUSY 1 with rst := { s.rst with engines := s.rst.engines ++ [e] } }
      match engineMaster e with
      | some m => fence m s
      | none => mcEngineReset (e - 0x28) s
    else s

/-- The state of an engine after its reset. [log 51 DEDUCED] -/
def resetEngine (e : Nat) (s : State) : State :=
  if e < 0x10 then resetLantern e s else if e < 0x20 then resetBeacon (e - 0x10) s
  else if e < 0x28 then resetTaper (e - 0x20) s else resetController (e - 0x28) s

/-- The Engine reset that completes next: the oldest one, but a controller's waits for its subchannels (R730). -/
def engineReady (s : State) : Option Nat := s.rst.engines.find? fun e => !(decide (0x28 ≤ e) && (s.ctl (e - 0x28)).engine)

/-- An Engine reset completes (R199); BUSY stays 1 while another one runs (R251). [log 51 DEDUCED] -/
def engineDone (s : State) : State :=
  match engineReady s with
  | some e =>
    let rest := s.rst.engines.erase e
    let s := { s.setB F.RST_ENGINE_BUSY (!rest.isEmpty) with rst := { s.rst with engines := rest } }
    let s := match engineMaster e with | some m => unfence m s | none => s
    raise 247 (resetEngine e s)
  | none => s

/-! ### Registers of the RST page (R250 to R255) -/

/-- A write of RST_CTRL (R250). -/
def rstCtrlWrite (v : Word) (s : State) : State :=
  if F.RST_CTRL_KEY.of v = 0xA5 ∧ F.RST_CTRL_WARM.on v then requestWarm .software s else s

/-- A write of NL_EXIT (R224). -/
def nlExitWrite (v : Word) (s : State) : State :=
  if F.NL_EXIT_KEY.of v = 0xA5 ∧ F.NL_EXIT_EXIT.on v then requestWarm .nlExit (s.set F.RST_FAIL_FAIL_COUNT 0) else s

/-- A write of RST_START_OK (R217). -/
def startOkWrite (v : Word) (s : State) : State :=
  if F.RST_START_OK_OK.on v then s.set F.RST_FAIL_FAIL_COUNT 0 else s

/-- A power state request is refused (R240, R243). [log 50 DEDUCED] -/
def pwrRefuse (s : State) : State := raise 248 (s.set F.PWR_STATUS_REFUSED 1)

/-- A Lantern, a Beacon or a lane is enabled. -/
def anyEnabled (s : State) : Bool :=
  (List.range 16).any (fun n => s.flag (F.LNT_CTRL_EN n) || s.flag (F.BCN_CTRL_EN n)) ||
    (List.range 64).any fun n => s.flag (F.XCV_CTRL_EN n)

/-- Standby is entered (R241, R783, R795): memory goes to self-refresh, and with STG_RET every On bank to Retention, a bank that
is Waking to On once it is there.
[log 50 DEDUCED] -/
def enterStandby (s : State) : State :=
  let s := s.set F.PWR_STATUS_STATE 1
  let s := forEach (List.range 8) selfRefreshNow s
  if s.flag F.PWR_CTRL_STG_RET then
    forEach (List.range 48) (fun b s =>
      if bankState s b = 0 then modBank b (fun k => { k with retFrom := true }) (bankBegin b 1 s)
      else if bankState s b = 4 && (s.bank b).target == 0 then modBank b (fun k => { k with retFrom := true }) s
      else s) s
  else s

/-- Back in Run (R242, R783). -/
def leaveStandby (s : State) : State :=
  if s.get F.PWR_STATUS_STATE = 1 && s.rst.exiting then
    let s := { s.set F.PWR_STATUS_STATE 0 with rst := { s.rst with exiting := false } }
    let s := forEach (List.range 48) (fun b s =>
      if (s.bank b).retFrom then
        let s := modBank b (fun k => { k with retFrom := false }) s
        if bankState s b = 1 then bankBegin b 0 s
        else if bankState s b = 4 then s
        else modBank b (fun k => { k with held := some (k.held.getD 0) }) s
      else s) s
    raise 248 s
  else s

/-- Deep sleep is entered (R244, R245): CORE_PWR_EN goes low, and only the Pilot domain stays, whose counter carries TT with
no slew or step of the core (R88). [log 50 DEDUCED] -/
def enterDeep (s : State) : State :=
  let s := s.set F.PWR_STATUS_STATE 2
  let s := { s with jtag := TapS.init, tt := { s.tt with slew := none, slewAcc := 0, step := none } }
  { s with rst := { s.rst with coreUp := false, powered := false, corePwrEn := false } }

/-- A write of PWR_CTRL (R240 to R244); a refused STATE keeps its value. [log 50 DEDUCED] -/
def pwrCtrlWrite (v : Word) (s : State) : State :=
  let old := s.get F.PWR_CTRL_STATE
  let s := s.writeByAcc R.PWR_CTRL v
  let st := s.get F.PWR_STATUS_STATE
  match F.PWR_CTRL_STATE.of v with
  | 0 => if st = 1 then { s with rst := { s.rst with exiting := true } } else s
  | 1 =>
    if anyEnabled s then pwrRefuse (s.set F.PWR_CTRL_STATE old) else whenB (st == 0) enterStandby s
  | 2 =>
    if st != 1 || s.evc.held.isSome || s.psm.cmd.isSome || s.psm.suspended.isSome then pwrRefuse (s.set F.PWR_CTRL_STATE old) else enterDeep s
  | _ => s.set F.PWR_CTRL_STATE old

/-- A write of a register of the RST page. -/
def rstWrite (a : Nat) (v : Word) (s : State) : State :=
  if a = R.RST_CTRL then rstCtrlWrite v s
  else if a = R.RST_ENGINE then rstEngineWrite v s
  else if a = R.RST_START_OK then startOkWrite v s
  else if a = R.NL_EXIT then nlExitWrite v s
  else if a = R.PWR_CTRL then pwrCtrlWrite v s
  else s.writeByAcc a v

/-! ### Balls (R234, R237, R238) -/

/-- The digital signal balls, by the block that owns them. -/
inductive BallGroup where
  | userIo | schOut | bootFlash | sdram (sc : Fin 8) | sdramReset (sc : Fin 8) | other
deriving DecidableEq, Repr

/-- A group's balls are at their weak pull-up (R234, R237, R238): those of user I/O and SCH_OUT until DONE, those of the Boot
Flash Port and of a subchannel until they are released, every other digital ball while the core is in reset. -/
def State.pulledUp (s : State) : BallGroup → Bool
  | .userIo | .schOut => !s.rst.ioReleased
  | .bootFlash => !s.rst.bfpReleased
  | .sdram sc | .sdramReset sc => !(vget s.mem.subs sc).driven
  | .other => !s.rst.coreUp

/-! ### Brown-out (R229 to R233) -/

/-- The early warning trips. -/
def bowWarning (s : State) : State :=
  if s.rst.coreUp && s.rst.bowAt.isNone then
    let s := raise 244 (s.set F.PWR_STATUS_BOW 1)
    schFreeze { s with rst := { s.rst with bowAt := some s.clk.now } }
  else s

/-- The controllers enter self-refresh (R231, R606). -/
def bowSelfRefresh (s : State) : State :=
  if s.works && schFrozen s && snapsEnded s then forEach (List.range 8) selfRefreshNow s else s

/-- A millisecond has passed since the warning (R233). [log 53 DEDUCED] -/
def bowRecover (s : State) : State :=
  match s.rst.bowAt with
  | some t => if t + 1000000 ≤ s.clk.now && s.rst.coreUp then requestWarm .bowRecover s else s
  | none => s

/-! ### Commands -/

/-- CORE_POR_RELEASE (R936). -/
def execCorePorRelease (s : State) : Out := .next (railsValid s)

/-- RESET_N_LOW (R209, R210). -/
def execResetNLow (ns : Nat) (s : State) : Out := .next (resetLow ns s)

/-- RESET_N_RISE (R210). -/
def execResetNRise (s : State) : Out := .next (resetRise s)

/-- WARM_RESET (R195). -/
def execWarmReset (s : State) : Out := .next (takeWarm s)

/-- DEFERRED_RESET (R225). -/
def execDeferredReset (s : State) : Out := .next (takeDeferred s)

/-- START_TIMEOUT (R214). -/
def execStartTimeout (s : State) : Out := .next (startTimeout s)

/-- RST_ENGINE (R197, R251): RST_ENGINE written with GO. -/
def execRstEngine (p : Partner) (v : Word) (s : State) : Out :=
  .next (viaPartner p R.RST_ENGINE (rstEngineWrite (v ||| 0x80000000)) s)

/-- ENGINE_RESET_COMPLETE (R199). -/
def execEngineResetComplete (s : State) : Out := .next (engineDone s)

/-- RST_CTRL (R250): RST_CTRL written with WARM. -/
def execRstCtrl (p : Partner) (v : Word) (s : State) : Out :=
  .next (viaPartner p R.RST_CTRL (rstCtrlWrite (v ||| 1)) s)

/-- NL_EXIT (R224): NL_EXIT written with EXIT. -/
def execNlExit (p : Partner) (v : Word) (s : State) : Out := .next (viaPartner p R.NL_EXIT (nlExitWrite (v ||| 1)) s)

/-- RST_START_OK (R217): RST_START_OK written with OK. -/
def execRstStartOk (p : Partner) (v : Word) (s : State) : Out :=
  .next (viaPartner p R.RST_START_OK (startOkWrite (v ||| 1)) s)

/-- BROWNOUT_WARNING (R229, R605). -/
def execBrownoutWarning (s : State) : Out := .next (bowWarning s)

/-- BOW_SELF_REFRESH (R231). -/
def execBowSelfRefresh (s : State) : Out := .next (bowSelfRefresh s)

/-- BOW_RECOVER (R233). [log 5 DESIGN CHOICE] -/
def execBowRecover (s : State) : Out := .next (bowRecover s)

/-- VCC_CORE_BROWNOUT (R232). [log 116 DESIGN CHOICE] -/
def execVccCoreBrownout (s : State) : Out := .next (railsFail .brownout s)

/-- RAIL_FAILURE (R937). [log 5 DESIGN CHOICE, log 116 DESIGN CHOICE] -/
def execRailFailure (s : State) : Out := .next (railsFail .corePor s)

/-- PILOT_POWER_FAIL (R938). [log 116 DESIGN CHOICE] -/
def execPilotPowerFail (s : State) : Out := .next (pilotFail s)

/-- PILOT_POR_RELEASE (R938). -/
def execPilotPorRelease (s : State) : Out := .next (pilotRelease s)

/-- STANDBY (R240): PWR_CTRL written with STATE 0b01. -/
def execStandby (p : Partner) (v : Word) (s : State) : Out :=
  .next (viaPartner p R.PWR_CTRL (pwrCtrlWrite ((v &&& 0xFFFFFFFC) ||| 1)) s)

/-- RUN (R242): PWR_CTRL written with STATE 0b00. -/
def execRun (p : Partner) (v : Word) (s : State) : Out :=
  .next (viaPartner p R.PWR_CTRL (pwrCtrlWrite (v &&& 0xFFFFFFFC)) s)

/-- STANDBY_EXIT_COMPLETE (R242). -/
def execStandbyExitComplete (s : State) : Out := .next (leaveStandby s)

/-- DEEP (R243, R244): PWR_CTRL written with STATE 0b10. -/
def execDeep (p : Partner) (v : Word) (s : State) : Out :=
  .next (viaPartner p R.PWR_CTRL (pwrCtrlWrite ((v &&& 0xFFFFFFFC) ||| 2)) s)

/-- DEEP_WAKE (R246). -/
def execDeepWake (s : State) : Out := .next (deepWake s)

end Sys2Proof.Machine
end

