-- ==== Sys2Proof/Machine/BootPort.lean ====
section
/-!
DEFINITION. Sys2Proof/Machine/BootPort.lean: the Boot Flash Port (05_service_boot_ports.md): its release, the commands
written to it, and how they end.
-/

namespace Sys2Proof.Machine

/-- A write of BFP_CTRL (R285, R295): the port is released when EN changes to 1. [log 43 DEDUCED] -/
def bfpCtrlWrite (v : Word) (s : State) : State :=
  let was := s.flag F.BFP_CTRL_EN
  let s := s.writeByAcc R.BFP_CTRL v
  if !was && s.flag F.BFP_CTRL_EN then bfpRelease s else s

/-- The bytes of BFP_BUF. -/
def bfpBuf (s : State) : List Byte := (List.range 64).flatMap fun i => leBytes 4 (s.rd (R.BFP_BUF i)).toNat

/-- The command that BFP_CMD describes (R284, R288): in 8D-8D-8D the opcode is followed by its complement, and a LEN
above 256 moves 256 bytes (log 35). [log 35 DESIGN CHOICE] -/
def bfpCommand (s : State) : FlashCmd :=
  let octal := s.get F.BFP_CMD_PROTO == 0
  let op : Byte := BitVec.ofNat 8 (s.get F.BFP_CMD_OPCODE)
  let len := min 256 (s.get F.BFP_CMD_LEN)
  let write := s.flag F.BFP_CMD_DIR
  { cs := s.get F.BFP_CMD_CS, octal := octal
    opcode := if octal then [op, ~~~ op] else [op]
    addr := if s.flag F.BFP_CMD_ADDR_EN then some (s.rd R.BFP_ADDR) else none
    dummy := if s.flag F.BFP_CMD_DUMMY_EN then s.get F.BFP_CTRL_DUMMY else 0
    write := write, data := if write then (bfpBuf s).take len else [], len := len }

/-- A write of BFP_CMD (R288, R289, R292). [log 43 DEDUCED] -/
def bfpCmdWrite (v : Word) (s : State) : State :=
  let s := s.writeByAcc R.BFP_CMD v
  if F.BFP_CMD_GO.on v then
    if s.flag F.BFP_STATUS_BUSY || s.flag F.BFP_STATUS_CFG_ACTIVE then s.set F.BFP_STATUS_REFUSED 1
    else if s.get F.BFP_CMD_PROTO = 0 ∧ s.get F.BFP_CMD_LEN % 2 = 1 then s.set F.BFP_STATUS_ERR 1
    else
      let c := bfpCommand s
      { s.set F.BFP_STATUS_BUSY 1 with bfp := { s.bfp with cmd := some c, issued := [c] } }
  else s

/-- Put bytes into BFP_BUF from its start. -/
def bfpFill (b : List Byte) (s : State) : State :=
  let l := splice (bfpBuf s) 0 b
  forEach (List.range 64) (fun i s => s.wr (R.BFP_BUF i) (BitVec.ofNat 32 (leAt l (4 * i) 4))) s

/-- The command running ends. -/
def bfpEnd (s : State) : State := { s.set F.BFP_STATUS_BUSY 0 with bfp := { s.bfp with cmd := none } }

/-- A command completes with the bytes read (R288). [log 35 DESIGN CHOICE] -/
def bfpComplete (data : List Byte) (s : State) : State :=
  match s.bfp.cmd with
  | some c => if c.write then bfpEnd s else bfpFill (padTo c.len data) (bfpEnd s)
  | none => s

/-- A read sees no strobe (R287): the command ends, or the configuration load that reads through the port fails.
[log 43 DEDUCED] -/
def bfpNoStrobe (s : State) : State :=
  match s.bfp.cmd with
  | some c => if c.octal && !c.write && c.len != 0 then (bfpEnd s).set F.BFP_STATUS_ERR 1 else s
  | none =>
    match s.cfg.load with
    | some l =>
      if l.src = 1 && l.error.isNone then (s.putLoad (failLoad 0xA (65532 * l.blocks) l)).set F.BFP_STATUS_ERR 1 else s
    | none => s

/-- BFP_ENABLE (R285): BFP_CTRL written with EN. -/
def execBfpEnable (p : Partner) (v : Word) (s : State) : Out :=
  .next (viaPartner p R.BFP_CTRL (bfpCtrlWrite (v ||| 1)) s)

/-- BFP_CMD (R288): BFP_CMD written with GO. -/
def execBfpCmd (p : Partner) (v : Word) (s : State) : Out :=
  .next (viaPartner p R.BFP_CMD (bfpCmdWrite (v ||| 0x80000000)) s)

/-- BFP_COMMAND_COMPLETE (R288). [log 44 DESIGN CHOICE] -/
def execBfpCommandComplete (data : List Byte) (s : State) : Out := .next (bfpComplete data s)

/-- BFP_READ_STROBE_TIMEOUT (R287). -/
def execBfpReadStrobeTimeout (s : State) : Out := .next (bfpNoStrobe s)

end Sys2Proof.Machine
end

