-- ==== Sys2Proof/Machine/Fabric.lean ====
section
/-!
DEFINITION. Sys2Proof/Machine/Fabric.lean: fabric resources (08_fabric.md): block RAM, fabric PLLs, the UARTs, event lines,
interrupt ports and slave ports.
-/

namespace Sys2Proof.Machine

/-! ### Block RAM -/

/-- The shapes of R395 by number: 0 to 6 are 1, 2, 4, 9, 18, 36 and 72 bits wide. [log 19 PRESUMED] -/
def bramWidth (w : Nat) : Nat := [1, 2, 4, 9, 18, 36, 72].getD w 1

/-- How many words a shape has. -/
def bramDepth (w : Nat) : Nat := [32768, 16384, 8192, 4096, 2048, 1024, 512].getD w 1

/-- The image puts tile `t` in ECC mode (R396): the image's choice, not given by the spec's text. [log 18 DESIGN CHOICE] -/
def tileEcc (s : State) (t : Nat) : Bool := Config.imageTileEcc s.cfg.frames t

/-- The place in a tile of bit `b` of word `i` of a shape: the narrow shapes use eight bits of each nine.
[log 19 PRESUMED] -/
def bramBit (w i b : Nat) : Nat :=
  if w < 3 then
    let d := i * bramWidth w + b
    9 * (d / 8) + d % 8
  else i * bramWidth w + b

/-- One stored bit of block RAM. [log 9 DESIGN CHOICE] -/
def bramGetBit (s : State) (t k : Nat) : Bool :=
  (sget (fun _ => (0 : Byte)) s.fab.bram (4608 * t + k / 8)).getLsbD (k % 8)

/-- The stored word of a shape, bit 0 first. -/
def bramGet (s : State) (t w i : Nat) : Nat :=
  (List.range (bramWidth w)).foldl (fun acc b => acc + b2n (bramGetBit s t (bramBit w i b)) * 2 ^ b) 0

/-- Store one bit. -/
def bramPutBit (t k : Nat) (v : Bool) (m : List Host.Cell) : List Host.Cell :=
  let a := 4608 * t + k / 8
  let old := sget (fun _ => (0 : Byte)) m a
  sset (fun _ => (0 : Byte)) m a
    (if v then old ||| BitVec.ofNat 8 (2 ^ (k % 8)) else old &&& ~~~ BitVec.ofNat 8 (2 ^ (k % 8)))

/-- Store the masked bits of a word. -/
def bramPut (t w i v mask : Nat) (s : State) : State :=
  let m := (List.range (bramWidth w)).foldl
    (fun m b => if bitOf mask b then bramPutBit t (bramBit w i b) (bitOf v b) m else m) s.fab.bram
  { s with fab := { s.fab with bram := m } }

/-- The bits that the byte enables of a write name: one enable per nine bits, one per eight in ECC mode, none in the
narrow shapes (R395). [log 19 PRESUMED] -/
def bramMask (ecc : Bool) (w be : Nat) : Nat :=
  if w < 3 then 2 ^ bramWidth w - 1
  else if ecc then (List.range 64).foldl (fun acc b => acc + b2n (bitOf be (b / 8)) * 2 ^ b) 0
  else (List.range (bramWidth w)).foldl (fun acc b => acc + b2n (bitOf be (b / 9)) * 2 ^ b) 0

/-- What the stored check bits of an ECC word say (R400). -/
def bramMarkOf (s : State) (t i : Nat) : Option Mark := (s.fab.bramMark.find? (fun m => m.1 == 512 * t + i)).map (·.2)

/-- Set or clear the check mark of an ECC word. -/
def bramSetMark (t i : Nat) (m : Option Mark) (s : State) : State :=
  let l := sremove (512 * t + i) s.fab.bramMark
  { s with fab := { s.fab with bramMark := match m with | some x => sinsert (512 * t + i) x l | none => l } }

/-- The stored bits that a mask of a word names. -/
def bramBits (w i mask : Nat) : List Nat := ((List.range (bramWidth w)).filter fun b => bitOf mask b).map (bramBit w i)

/-- A write is recorded for the other port's accesses of the same cycle. [log 20 DEDUCED] -/
def bramNote (l : BramLast) (s : State) : State :=
  { s with fab := { s.fab with
      bramLast := l :: s.fab.bramLast.filter fun x => x.at_ == s.clk.now && !(x.tile == l.tile && x.portB == l.portB) } }

/-- An access begins: the pulse outputs of the one before are over. -/
def bramQuiet (s : State) : State := { s with fab := { s.fab with collided := false, eccCorr := false, eccUncorr := false } }

/-- The ECC_CORR and ECC_UNCORR pulses of an access are counted and logged (R405). -/
def bramPulse (t i : Nat) (corr inj : Bool) (s : State) : State :=
  let s := { s with fab := { s.fab with eccCorr := corr || s.fab.eccCorr, eccUncorr := !corr || s.fab.eccUncorr } }
  rasDetect 3 (if corr then 1 else 2) t (512 * t + i) 0 inj s

/-- What the other port of a tile wrote in this cycle (R399). [log 20 DEDUCED] -/
def bramOther (s : State) (pb : Bool) (t : Nat) : Option BramLast :=
  s.fab.bramLast.find? fun l => l.tile == t && l.portB != pb && l.at_ == s.clk.now

/-- Two writes of one cycle meet: in ECC mode on one word, else on a bit that both name, whatever their shapes (R397, R438). -/
def bramMeets (ecc : Bool) (i : Nat) (bits : List Nat) (l : BramLast) : Bool :=
  if ecc then l.word == i else l.old.any fun x => bits.contains x.1

/-- A write of the cycle is taken back. -/
def bramUndo (ecc : Bool) (l : BramLast) (s : State) : State :=
  let s := { s with fab := { s.fab with
    bram := l.old.foldl (fun m x => bramPutBit l.tile x.1 x.2 m) s.fab.bram, bramLast := s.fab.bramLast.erase l } }
  if ecc then bramSetMark l.tile l.word l.mark s else s

/-- Every byte enable of a word is on. -/
def allLanes (be : Nat) : Bool := be % 256 == 255

/-- A write in ECC mode (R401 to R404). [log 20 DEDUCED] -/
def bramEccWrite (t i v be : Nat) (s : State) : State :=
  let mask := bramMask true 6 be
  if allLanes be then bramSetMark t i none (bramPut t 6 i v mask s)
  else match bramMarkOf s t i with
    | some (.uncorrectable inj) => bramPulse t i false inj (bramSetMark t i (some .poison) s)
    | some .poison => bramPulse t i false false s
    | some (.correctable inj) => bramPulse t i true inj (bramSetMark t i none (bramPut t 6 i v mask s))
    | none => bramPut t 6 i v mask s

/-- A write of a port (R401 to R404), recorded for the other port. -/
def bramWrite (ecc portB : Bool) (t w i data be : Nat) (s : State) : State :=
  let mask := bramMask ecc w be
  let s := bramNote ⟨t, portB, s.clk.now, i, (bramBits w i mask).map (fun k => (k, bramGetBit s t k)), bramMarkOf s t i⟩ s
  if ecc then injectBram t i (bramEccWrite t i data be s) else bramPut t w i data mask s

/-- BRAM_WRITE (R397, R401 to R404, R438, R910): where both ports write the same bit in one cycle, or in ECC mode the same word,
port A's write is performed, port B's is not, and COLLIDED pulses. [log 20 DEDUCED] -/
def execBramWrite (portB : Bool) (tile : Fin 3072) (width : Fin 7) (word : Nat) (data : BitVec 72) (be : BitVec 8)
    (s : State) : Out :=
  .next (
    let t := tile.val
    let ecc := tileEcc s t
    let w := if ecc then 6 else width.val
    let i := word % bramDepth w
    if !clocked s (regionOfTile t) then s
    else
      let s := bramQuiet s
      let bits := bramBits w i (bramMask ecc w be.toNat)
      let write := bramWrite ecc portB t w i data.toNat be.toNat
      match (bramOther s portB t).filter (bramMeets ecc i bits) with
      | none => write s
      | some l =>
        let s := if portB then s else write (bramUndo ecc l s)
        { s with fab := { s.fab with collided := true } })

/-- The word of a shape as a port reads it: the data held before a write of the other port in the same cycle (R398). -/
def bramSeen (s : State) (portB : Bool) (t w i : Nat) : Nat :=
  let old := ((bramOther s portB t).map BramLast.old).getD []
  (List.range (bramWidth w)).foldl (fun acc b =>
    let k := bramBit w i b
    acc + b2n (((old.find? fun x => x.1 == k).map (·.2)).getD (bramGetBit s t k)) * 2 ^ b) 0

/-- The check mark of an ECC word as a port reads it (R398). -/
def bramMarkSeen (s : State) (portB : Bool) (t i : Nat) : Option Mark :=
  match bramOther s portB t with
  | some l => if l.word = i then l.mark else bramMarkOf s t i
  | none => bramMarkOf s t i

/-- BRAM_READ (R398, R400): the data held before a write of the same cycle, corrected in ECC mode. -/
def execBramRead (portB : Bool) (tile : Fin 3072) (width : Fin 7) (word : Nat) (s : State) : Out :=
  .next (
    let t := tile.val
    let ecc := tileEcc s t
    let w := if ecc then 6 else width.val
    let i := word % bramDepth w
    if !clocked s (regionOfTile t) then s
    else
      let v := bramSeen s portB t w i
      let m := bramMarkSeen s portB t i
      let s := bramQuiet { s with fab := { s.fab with bramOut := if ecc then v % 2 ^ 64 else v } }
      if !ecc then s
      else match m with
        | some (.correctable inj) => bramPulse t i true inj s
        | some (.uncorrectable inj) => bramPulse t i false inj s
        | some .poison => bramPulse t i false false s
        | none => s)

/-! ### Fabric PLLs -/

/-- PLL_LOCK (R414, R415): a PLL in use locks. -/
def execPllLock (n : Fin 16) (s : State) : Out :=
  .next (whenB (s.flag (F.CLK_PLL_STATUS_EN n.val)) (fun s => s.set (F.CLK_PLL_STATUS_LOCKED n.val) 1) s)

/-- PLL_LOSS_OF_LOCK (R416). -/
def execPllLossOfLock (n : Fin 16) (s : State) : Out :=
  .next (whenB (s.flag (F.CLK_PLL_STATUS_LOCKED n.val))
    (fun s => raise 254 ((s.set (F.CLK_PLL_STATUS_LOCKED n.val) 0).set (F.CLK_PLL_STATUS_LOL n.val) 1)) s)

/-- A write of CLK_PLLn_CMD (R442): the PLL drops lock; PLL_LOCK follows. [log 7 DEDUCED] -/
def pllCmdWrite (n : Nat) (v : Word) (s : State) : State :=
  whenB ((F.CLK_PLL_CMD_RELOCK n).on v) (fun s => s.set (F.CLK_PLL_STATUS_LOCKED n) 0) s

/-- RELOCK (R442). -/
def execRelock (p : Partner) (n : Fin 16) (v : Word) (s : State) : Out :=
  .next (viaPartner p (R.CLK_PLL_CMD n.val) (pllCmdWrite n.val (v ||| 1)) s)

/-! ### UARTs -/

/-- The image enables UART `n` (R422, R423), and the static region runs. [log 18 DESIGN CHOICE, log 118 DESIGN CHOICE] -/
def uartOn (s : State) (n : Nat) : Bool :=
  s.fabricOn && s.flag F.CFG_STATUS_DONE && Config.imageUart s.cfg.frames n

/-- The signals of the hard serial ports (R423). -/
inductive PortSignal where
  | uartTxd | uartRxd | uartRtsN | uartCtsN | i2cScl | i2cSda | spiSclk | spiMosi | spiMiso | spiCsN (k : Nat)
deriving DecidableEq, Repr

/-- The signal on I/O `io` of high-voltage-tolerant bank `n`, or none where it is ordinary user I/O (R423). Before DONE every
user I/O is at its pull-up (R437). -/
def hvSignal (s : State) (n io : Nat) : Option PortSignal :=
  if !s.flag F.CFG_STATUS_DONE || decide (3 < n) then none
  else if io < 4 then
    if Config.imageUart s.cfg.frames n then [.uartTxd, .uartRxd, .uartRtsN, .uartCtsN][io]? else none
  else if io < 6 then if Config.imageI2c s.cfg.frames n then [.i2cScl, .i2cSda][io - 4]? else none
  else if io < 9 then if Config.imageSpi s.cfg.frames n then [.spiSclk, .spiMosi, .spiMiso][io - 6]? else none
  else if io < 13 then if Config.imageSpi s.cfg.frames n then some (.spiCsN (io - 9)) else none
  else none

/-- The I/O is open-drain, its pull-up the board's (R424). -/
def hvOpenDrain (s : State) (n io : Nat) : Bool := hvSignal s n io == some .i2cScl || hvSignal s n io == some .i2cSda

/-- Change a UART. -/
def modUart (n : Fin 4) (f : Uart → Uart) (s : State) : State :=
  { s with fab := { s.fab with uarts := vset s.fab.uarts n (f (vget s.fab.uarts n)) } }

/-- The character time in nanoseconds at the programmed baud rate: start bit, data, parity and stop bits (R420, R422).
The fabric clock of CLK_SRC 1 is the image's. [log 46 DEDUCED] -/
def uartCharNs (s : State) (n : Nat) (u : Uart) : Nat :=
  let bits := 1 + (5 + bitsOf u.cfg.toNat 1 0) +
    (if bitsOf u.cfg.toNat 5 4 = 1 ∨ bitsOf u.cfg.toNat 5 4 = 2 then 1 else 0) + 1 + b2n (bitOf u.cfg.toNat 3)
  let period := if bitOf u.cfg.toNat 10 then Config.imageUartClockNs s.cfg.frames n else 10
  bits * bitsOf u.baud.toNat 23 0 * period

/-- The transmitter may start a character: it runs, its clock runs, no break, and flow control lets it (R422).
[log 46 DEDUCED] -/
def uartMayStart (u : Uart) : Bool :=
  bitOf u.cfg.toNat 9 && !bitOf u.cfg.toNat 11 && bitsOf u.baud.toNat 23 4 != 0 &&
    (!bitOf u.cfg.toNat 12 || !u.ctsHigh)

/-- A free transmitter takes the next character (R422). -/
def uartStart (u : Uart) : Uart :=
  match u.shift, u.tx with
  | none, c :: rest => if uartMayStart u then { u with shift := some c, tx := rest } else u
  | _, _ => u

/-- Set a sticky bit of URT_PEND. -/
def Uart.pendSet (u : Uart) (bit : Nat) : Uart := { u with pend := u.pend ||| BitVec.ofNat 32 (2 ^ bit) }

/-- URT_PEND as it reads (R422). -/
def uartPend (u : Uart) : Word :=
  u.pend ||| BitVec.ofNat 32 (
    b2n (u.tx.isEmpty && u.shift.isNone) * 512 + b2n (!u.ctsHigh) * 256 + b2n u.tx.isEmpty * 2 +
      b2n (decide (u.thresh ≤ u.rx.length)))

/-- The level of RTS_N (R422). -/
def uartRts (u : Uart) : Bool := bitOf u.cfg.toNat 12 && decide (u.thresh ≤ u.rx.length)

/-- URT_IRQ (R422). -/
def uartIrq (u : Uart) : Bool := bitsOf (uartPend u &&& u.irqEn).toNat 5 0 != 0

/-- A received character enters the receive FIFO (R422). -/
def uartReceive (now : Nat) (c : UrtChar) (u : Uart) : Uart :=
  let u := { u with lastRx := now, pend := u.pend &&& ~~~ 4 }
  if 32 ≤ u.rx.length then u.pendSet 4
  else
    let u := { u with rx := u.rx ++ [c] }
    if c.brk || c.frameErr || c.parityErr then u.pendSet 3 else u

/-- URT_TX (R422). -/
def uartWriteTx (ch : Byte) (u : Uart) : Uart :=
  if 32 ≤ u.tx.length then u.pendSet 5 else uartStart { u with tx := u.tx ++ [ch] }

/-- A read of URT_RX: the oldest character with its flags, or VALID 0 (R422). [log 46 DEDUCED] -/
def uartReadRx (u : Uart) : Word × Uart :=
  match u.rx with
  | [] => (0, { u with lastRead := 0 })
  | c :: rest =>
    let w := BitVec.ofNat 32 (2 ^ 31 + b2n c.brk * 2048 + b2n c.frameErr * 1024 + b2n c.parityErr * 512 +
      c.ch.toNat % 2 ^ (5 + bitsOf u.cfg.toNat 1 0))
    (w, { u with rx := rest, lastRead := w })

/-- A write of a UART register over its hard register interface (R422). [log 46 DEDUCED] -/
def uartWriteReg (o : Nat) (v : Word) (u : Uart) : Uart :=
  if o = 0 then uartWriteTx (v.setWidth 8) u
  else if o = 8 then uartStart { u with cfg := v &&& 0x3F3B }
  else if o = 0xC then uartStart { u with baud := v &&& 0x00FFFFFF }
  else if o = 0x10 then
    { u with
      tx := if bitOf v.toNat 31 then [] else u.tx
      rx := if bitOf v.toNat 30 then [] else u.rx
      thresh := bitsOf v.toNat 29 24 }
  else if o = 0x14 then { u with pend := u.pend &&& ~~~ (v &&& 0x3C) }
  else if o = 0x18 then { u with irqEn := v &&& 0x3F }
  else u

/-- URT_TX (R422): a character is appended to the transmit FIFO. -/
def execUrtTx (n : Fin 4) (ch : Byte) (s : State) : Out :=
  .next (whenB (uartOn s n.val) (modUart n (uartWriteTx ch)) s)

/-- URT_RX (R422): the next received character is removed and returned. -/
def execUrtRx (n : Fin 4) (s : State) : Out :=
  .next (
    if uartOn s n.val then
      let r := uartReadRx (vget s.fab.uarts n)
      (modUart n (fun _ => r.2) s).answer (.uart n) .ok r.1
    else s.answer (.uart n) .ok 0)

/-- TX_FLUSH (R422). -/
def execTxFlush (n : Fin 4) (s : State) : Out :=
  .next (whenB (uartOn s n.val) (modUart n (fun u => { u with tx := [] })) s)

/-- RX_FLUSH (R422). -/
def execRxFlush (n : Fin 4) (s : State) : Out :=
  .next (whenB (uartOn s n.val) (modUart n (fun u => { u with rx := [] })) s)

/-- UART_CHAR_RECEIVED (R422): a character from the line enters the receive FIFO; under LOOP the line is not the
receiver's input. [log 117 DESIGN CHOICE] -/
def execUartCharReceived (n : Fin 4) (ch : Byte) (brk frameErr parityErr : Bool) (s : State) : Out :=
  .next (
    let u := vget s.fab.uarts n
    if uartOn s n.val && bitOf u.cfg.toNat 8 && !bitOf u.cfg.toNat 13 then
      modUart n (uartReceive s.clk.now ⟨ch, brk, frameErr, parityErr⟩) s
    else s)

/-- UART_CHAR_SENT (R422): the character in the shift register has gone out, and the next one starts; under LOOP it
arrives at the receiver. -/
def execUartCharSent (n : Fin 4) (s : State) : Out :=
  .next (
    let u := vget s.fab.uarts n
    match u.shift with
    | some c =>
      if uartOn s n.val then
        let now := s.clk.now
        modUart n (fun u =>
          let u := if bitOf u.cfg.toNat 13 && bitOf u.cfg.toNat 8 then uartReceive now ⟨c, false, false, false⟩ u else u
          uartStart { u with shift := none }) s
      else s
    | none => s)

/-- RX_IDLE (R422): no character for four character times while the receive FIFO is not empty. -/
def execRxIdle (n : Fin 4) (s : State) : Out :=
  .next (
    let u := vget s.fab.uarts n
    if uartOn s n.val && !u.rx.isEmpty && decide (16 * (u.lastRx + 4 * uartCharNs s n.val u) ≤ 16 * s.clk.now) then
      modUart n (fun u => u.pendSet 2) s
    else s)

/-- CTS_N_CHANGE (R422): CTS follows the ball, and a low level lets a waiting transmitter start. -/
def execCtsNChange (n : Fin 4) (high : Bool) (s : State) : Out :=
  .next (modUart n (fun u =>
    let u := { u with ctsHigh := high }
    if uartOn s n.val then uartStart u else u) s)

/-! ### Event lines, interrupt ports, slave ports -/

/-- EVT_LINE_RISE (R425): a rising edge while the static region runs. [log 117 DESIGN CHOICE] -/
def execEvtLineRise (n : Fin 64) (s : State) : Out :=
  .next (
    if s.fabricOn && s.flag F.CFG_STATUS_DONE then
      raise n.val { s with fab := { s.fab with evt := s.fab.evt ||| BitVec.ofNat 64 (2 ^ n.val) } }
    else s)

/-- FIRQ_REQ of a port: a source routed to it is Pending (R426). -/
def firqReq (s : State) (m : Nat) : Bool := (s.evc.lowestFor (9 + m)).isSome

/-- FIRQ_SRC of a port: the lowest-numbered such source, 0x00 while there is none (R426). -/
def firqSrc (s : State) (m : Nat) : Byte := BitVec.ofNat 8 ((s.evc.lowestFor (9 + m)).getD 0)

/-- FIRQ_ACK (R426, R427): the source named on the port goes from Pending to In service. -/
def execFirqAck (m : Fin 16) (s : State) : Out :=
  .next (
    if s.fabricOn && s.flag F.CFG_STATUS_DONE then
      match s.evc.lowestFor (9 + m.val) with
      | some n => { s with evc := s.evc.take s.evcEnv n }
      | none => s
    else s)

/-- FIRQ_END (R427): a source routed to the port ends its service. -/
def execFirqEnd (m : Fin 16) (src : Byte) (s : State) : Out :=
  .next (
    if s.fabricOn && s.flag F.CFG_STATUS_DONE && (s.evc.source src.toNat).target = 9 + m.val then
      { s with evc := s.evc.endService s.evcEnv src.toNat }
    else s)

end Sys2Proof.Machine
end

