-- ==== Sys2Proof/Machine/RasCmd.lean ====
section
/-!
DEFINITION. Sys2Proof/Machine/RasCmd.lean: injection, the error log, scrubbing and scanning, critical-state parity, the
system watchdog and the clock monitors (19_faults_injection.md).
-/

namespace Sys2Proof.Machine

/-! ### Failures that reset the part (R913, R923 to R927) -/

/-- A parity error in an item of critical state: one log entry and a Warm reset; item 0 is the chain address.
[log 112 DEDUCED] -/
def criticalParity (item : Nat) (inj : Bool) (s : State) : State :=
  if s.rst.coreUp then
    let s := requestWarm .critParity (rasDetect 8 4 item 0 0 inj s)
    if item = 0 then { s with rst := { s.rst with addrBad := true } } else s
  else s

/-- A reset is on its way. [log 47 DEDUCED] -/
def resetAhead (s : State) : Bool := s.rst.warm.isSome || s.rst.deferred.isSome

/-- A watchdog fires within 10 s of DONE: the start has failed (R214, R221, R925). -/
def watchdogFails (s : State) : Bool :=
  !s.nightlight && (match s.rst.doneAt with | some t => decide (s.clk.now ≤ t + 10000000000) | none => false)

/-- The system watchdog expires: one log entry and a Warm reset, a failed start where it counts as one. -/
def watchdogExpires (inj : Bool) (s : State) : State :=
  if s.rst.coreUp && !resetAhead s then
    let s := rasDetect 9 4 0 0 0 inj s
    requestWarm .watchdog (if watchdogFails s then failStart s else s)
  else s

/-- A clock monitor declares a failure (R418, R927). -/
def clockFails (c : Nat) (inj : Bool) (s : State) : State :=
  if s.rst.coreUp then
    let s := rasDetect 10 4 c 0 0 inj s
    if c < 2 then requestWarm .clockFail s
    else raise 254 (s.set (if c = 2 then F.CLK_OSC_STATUS_FAIL_400 else F.CLK_OSC_STATUS_FAIL_100) 1)
  else s

/-! ### The system watchdog (R925, R926) -/

/-- The watchdog counts: it has a limit, TT runs, and the part is neither in Nightlight mode, nor in Standby, nor halted. -/
def wdogCounts (s : State) : Bool :=
  s.rst.coreUp && s.get F.RAS_WDOG_LIMIT_MS != 0 && s.flag F.TT_STATUS_RUNNING && !s.nightlight &&
    s.get F.PWR_STATUS_STATE == 0 && !s.halted

/-- It counts the TT that passes in a nanosecond, `d` 1/64 ns. [log 112 DEDUCED] -/
def wdogTick (d : Nat) (s : State) : State :=
  if wdogCounts s then { s with ras := { s.ras with wdogRun := s.ras.wdogRun + d } } else s

/-- The count starts again from zero. -/
def wdogRestart (s : State) : State := { s with ras := { s.ras with wdogRun := 0 } }

/-- The count has reached LIMIT_MS. -/
def wdogDue (s : State) : Bool :=
  wdogCounts s && decide (64000000 * s.get F.RAS_WDOG_LIMIT_MS ≤ s.ras.wdogRun)

/-- RAS_WDOG_LEFT. [log 112 DEDUCED] -/
def wdogLeft (s : State) : Nat := s.get F.RAS_WDOG_LIMIT_MS - s.ras.wdogRun / 64000000

/-- A write of RAS_WDOG_KICK. -/
def wdogKickWrite (v : Word) (s : State) : State :=
  if F.RAS_WDOG_KICK_KEY.of v = 0xA5 ∧ F.RAS_WDOG_KICK_KICK.on v then wdogRestart s else s

/-- A write of RAS_WDOG. -/
def wdogLimitWrite (v : Word) (s : State) : State := wdogRestart (s.writeByAcc R.RAS_WDOG v)

/-! ### Injection (R908 to R912) -/

/-- An INSTANCE that the table of R908 gives a detector. [log 111 DEDUCED] -/
def injInstanceOk (code inst : Nat) : Bool :=
  match code with
  | 1 | 6 | 4 | 8 => decide (inst < 8)
  | 2 => decide (inst < 48)
  | 3 => decide (inst < 3072)
  | 5 | 9 => inst == 0
  | 7 => decide (inst < 2)
  | 10 => decide (inst < 4)
  | 11 => masterValid inst
  | 12 => decide (inst < 25)
  | _ => false

/-- Injections that act only with the key (R911). [log 111 DEDUCED] -/
def injNeedsKey (code inst : Nat) : Bool := code == 8 || code == 9 || (code == 10 && decide (inst < 2))

/-- An armed injection that waits for no access acts at once. [log 111 DEDUCED] -/
def injActs (s : State) : State :=
  let code := s.get F.RAS_INJ_CTRL_TARGET
  let inst := s.get F.RAS_INJ_CTRL_INSTANCE
  if code = 8 then criticalParity inst true (injUsed s)
  else if code = 9 then watchdogExpires true (injUsed s)
  else if code = 10 then clockFails inst true (injUsed s)
  else s

/-- A write of RAS_INJ_CTRL: while ARM is 1 nothing but ARM changes; an arming write outside the table, or without the key
it needs, is refused. [log 111 DEDUCED] -/
def injCtrlWrite (v : Word) (s : State) : State :=
  let arm := F.RAS_INJ_CTRL_ARM.on v
  if s.flag F.RAS_INJ_CTRL_ARM then s.setB F.RAS_INJ_CTRL_ARM arm
  else
    let s := s.writeByAcc R.RAS_INJ_CTRL (v &&& 0x7FFFFFFF)
    let code := s.get F.RAS_INJ_CTRL_TARGET
    let inst := s.get F.RAS_INJ_CTRL_INSTANCE
    let kind := s.get F.RAS_INJ_CTRL_KIND
    if !arm then s
    else if injInstanceOk code inst && (kind == 1 || kind == 2) &&
        (!injNeedsKey code inst || s.get F.RAS_INJ_KEY_KEY == 0xA5) then injActs (s.set F.RAS_INJ_CTRL_ARM 1)
    else s.set F.RAS_STATUS_INJ_REFUSED 1

/-! ### The log (R914 to R917) -/

/-- A write of RAS_LOG_POP. -/
def logPopWrite (v : Word) (s : State) : State :=
  if F.RAS_LOG_POP_POP.on v then { s with ras := { s.ras with log := s.ras.log.drop 1 } } else s

/-- A write of a register of the RAS page. -/
def rasWrite (a : Nat) (v : Word) (s : State) : State :=
  if a = R.RAS_WDOG then wdogLimitWrite v s
  else if a = R.RAS_WDOG_KICK then wdogKickWrite v s
  else if a = R.RAS_INJ_CTRL then injCtrlWrite v s
  else if a = R.RAS_LOG_POP then logPopWrite v s
  else s.writeByAcc a v

/-- A read of a register of the RAS page. -/
def rasRead (a : Nat) (s : State) : Word × State :=
  if a = R.RAS_WDOG_LEFT then (BitVec.ofNat 32 (wdogLeft s), s)
  else if a = R.RAS_LOG_STATUS then
    (fieldSet (s.readByAcc a) 5 0 (BitVec.ofNat 32 s.ras.log.length), s.clearByAcc a)
  else if R.RAS_LOG_HEAD 0 ≤ a ∧ a ≤ R.RAS_LOG_HEAD 7 then (rasHeadWord s ((a - R.RAS_LOG_HEAD 0) / 4), s)
  else (s.readByAcc a, s.clearByAcc a)

/-! ### Scrubbing (R918 to R922) -/

/-- The first line of a subchannel at or after an address, where it holds one. -/
def scNextLine (s : State) (a sc : Nat) : Option Nat :=
  let b := a / 256 % 8
  let c := if b = sc then a else if b < sc then a / 2048 * 2048 + 256 * sc else (a / 2048 + 1) * 2048 + 256 * sc
  if c / 2048 * 256 < capacity s (sc / 2) then some c else none

/-- The subchannels that the scrubber reads: the Running ones. -/
def scrubSubs (s : State) : List Nat := (List.range 8).filter fun sc => scState s sc == 2

/-- The next line at or after line `p`. -/
def mcScrubNext (s : State) (p : Nat) : Option Nat :=
  (((scrubSubs s).filterMap (scNextLine s (64 * p))).min?).map (· / 64)

/-- Requests are spread evenly over INTERVAL_MIN minutes. -/
def mcScrubDue (s : State) : Bool :=
  let lines := ((scrubSubs s).map fun sc => capacity s (sc / 2) / 64).sum
  decide (s.get F.RAS_SCRUB_MC_INTERVAL_MIN * 60000000000 ≤ (s.elapsed - s.ras.mcAt) * lines)

/-- The scrubber requests the next line as master 3; at the end of a pass it is counted. [log 97 DEDUCED] -/
def mcScrub (s : State) : State :=
  if s.fabricOn && s.flag F.RAS_SCRUB_MC_EN && mcScrubDue s then
    match mcScrubNext s s.ras.mcPos with
    | some p =>
      let s := { s with ras := { s.ras with mcPos := p + 1, mcAt := s.elapsed } }
      let s := bbIssue 3 false (64 * p) [] 64 (defaultDeadline s) .nobody s
      if (mcScrubNext s (p + 1)).isNone then
        { s.incSat F.RAS_SCRUB_STATUS_MC_PASSES with ras := { s.ras with mcPos := 0 } }
      else s
    | none => { s with ras := { s.ras with mcPos := 0 } }
  else s

/-- The block RAM scrubber reads a tile: it is in ECC mode and its region runs. -/
def bramScrubs (s : State) (t : Nat) : Bool := regionRunning s (regionOfTile t) && tileEcc s t

/-- The next word at or after position `p`, word w of tile t being 512 t + w. -/
def bramScrubNext (s : State) (p : Nat) : Option Nat :=
  if p < 512 * 3072 && bramScrubs s (p / 512) then some p
  else ((List.range 3072).find? fun t => decide (p / 512 < t) && bramScrubs s t).map (512 * ·)

/-- Reads are spread evenly over INTERVAL_S seconds. -/
def bramScrubDue (s : State) : Bool :=
  let words := 512 * ((List.range 3072).filter (bramScrubs s)).length
  decide (s.get F.RAS_SCRUB_BRAM_INTERVAL_S * 1000000000 ≤ (s.elapsed - s.ras.bramAt) * words)

/-- A port has written the word in this cycle. -/
def bramBusy (s : State) (t w : Nat) : Bool :=
  s.fab.bramLast.any fun l => l.tile == t && l.at_ == s.clk.now && l.word == w

/-- A word is scrubbed: a correctable one is written back, an uncorrectable one is left poisoned. [log 97 DEDUCED] -/
def bramScrubWord (t w : Nat) (s : State) : State :=
  match bramMarkOf s t w with
  | some (.correctable i) => rasDetect 3 1 t (512 * t + w) 0 i (bramSetMark t w none s)
  | some (.uncorrectable i) => rasDetect 3 2 t (512 * t + w) 0 i (bramSetMark t w (some .poison) s)
  | some .poison => rasDetect 3 2 t (512 * t + w) 0 false s
  | none => s

/-- The block RAM scrubber reads its next word in a cycle in which no port has it. -/
def bramScrub (s : State) : State :=
  if s.fabricOn && s.flag F.RAS_SCRUB_BRAM_EN && bramScrubDue s then
    match bramScrubNext s s.ras.bramPos with
    | some p =>
      if bramBusy s (p / 512) (p % 512) then s
      else
        let s := bramScrubWord (p / 512) (p % 512) { s with ras := { s.ras with bramPos := p + 1, bramAt := s.elapsed } }
        if (bramScrubNext s (p + 1)).isNone then
          { s.incSat F.RAS_SCRUB_STATUS_BRAM_PASSES with ras := { s.ras with bramPos := 0 } }
        else s
    | none => { s with ras := { s.ras with bramPos := 0 } }
  else s

/-! ### Commands -/

/-- RAS_INJECT_ARM (R909): RAS_INJ_CTRL written with ARM. -/
def execRasInjectArm (p : Partner) (v : Word) (s : State) : Out :=
  .next (viaPartner p R.RAS_INJ_CTRL (injCtrlWrite (v ||| 0x80000000)) s)

/-- POP (R916): RAS_LOG_POP written with POP. -/
def execRasPop (p : Partner) (v : Word) (s : State) : Out :=
  .next (viaPartner p R.RAS_LOG_POP (logPopWrite (v ||| 1)) s)

/-- MC_SCRUB_READ (R918). -/
def execMcScrubRead (s : State) : Out := .next (mcScrub s)

/-- BRAM_SCRUB_READ (R920). -/
def execBramScrubRead (s : State) : Out := .next (bramScrub s)

/-- CRITICAL_PARITY_ERROR (R923, R924). -/
def execCriticalParityError (item : Fin 8) (s : State) : Out := .next (criticalParity item.val false s)

/-- SYSTEM_WATCHDOG_EXPIRY (R925). -/
def execSystemWatchdogExpiry (s : State) : Out := .next (whenB (wdogDue s) (watchdogExpires false) s)

/-- RAS_WDOG_KICK (R925): RAS_WDOG_KICK written with KICK. -/
def execRasWdogKick (p : Partner) (v : Word) (s : State) : Out :=
  .next (viaPartner p R.RAS_WDOG_KICK (wdogKickWrite (v ||| 1)) s)

/-- RAS_WDOG_LIMIT_WRITE (R926). -/
def execRasWdogLimitWrite (p : Partner) (v : Word) (s : State) : Out :=
  .next (viaPartner p R.RAS_WDOG (wdogLimitWrite v) s)

/-- CLOCK_FAILURE (R927). [log 116 DESIGN CHOICE, log 117 DESIGN CHOICE] -/
def execClockFailure (c : Fin 4) (s : State) : Out := .next (clockFails c.val false s)

end Sys2Proof.Machine
end

