-- ==== Sys2Proof/Machine/RegAccess.lean ====
section
/-!
DEFINITION. Sys2Proof/Machine/RegAccess.lean: one access to one register of the register pages (R9 to R14, R970 to R978):
which block's rules a write or a read follows, and what an offset without a register answers.
-/

namespace Sys2Proof.Machine

/-! ### Words that show other state -/

/-- SVP_STATUS (R293): sticky fields from the register, mirrors from what they copy. -/
def svpStatusWord (s : State) : Word :=
  (s.rd R.SVP_STATUS &&& 0x3FFF1F00) ||| BitVec.ofNat 32 (b2n (!s.svp.wr.isEmpty) * 64 +
    b2n (s.flag F.CFG_STATUS_DONE) * 32 + b2n s.halted * 16 + b2n s.nightlight * 8 +
    b2n (s.flag F.OWN_STATUS_ADDRESSED) * 4 + b2n (s.flag F.SVP_HOLD_HOLD) * 2 + b2n (s.flag F.OWN_STATUS_OWNER))

/-- Clear FRAME_ERR with ERR_CODE, and WR_FAIL with WR_STATUS and WR_INDEX, where the flag is 0 (R293). -/
def svpSticky (s : State) : State :=
  let s := if s.flag F.SVP_STATUS_FRAME_ERR then s else s.set F.SVP_STATUS_ERR_CODE 0
  if s.flag F.SVP_STATUS_WR_FAIL then s else (s.set F.SVP_STATUS_WR_STATUS 0).set F.SVP_STATUS_WR_INDEX 0

/-- The ID page (R977). -/
def idWord (a : Nat) : Word :=
  if a = R.ID_DEVICE then 0x00019640
  else if a = R.ID_REVISION then Config.revision.setWidth 32
  else if a = R.ID_SERIAL 0 then Config.serial 0
  else if a = R.ID_SERIAL 1 then Config.serial 1
  else 0

/-! ### Writes, page by page -/

/-- A write on the FIL page. -/
def filWrite (a : Nat) (v : Word) (s : State) : State :=
  if a = R.FIL_CTRL then filCtrlWrite v s else s.writeByAcc a v

/-- A write of SVP_HOLD (R38): one that sets HOLD in the cycle in which the chain address has arrived keeps the token with the
Service Port (R25, R36). -/
def svpHoldWrite (v : Word) (s : State) : State :=
  let s := s.writeByAcc R.SVP_HOLD v
  if s.fil.moveDue && s.flag F.SVP_HOLD_HOLD then
    { (s.setB F.OWN_STATUS_OWNER false).addWrap F.OWN_STATUS_MOVE_COUNT 65535 with fil := { s.fil with moveDue := false } }
  else s

/-- A write on the SVP and BFP page. -/
def svpPageWrite (a : Nat) (v : Word) (s : State) : State :=
  if a = R.SVP_HOLD then svpHoldWrite v s
  else if a = R.SVP_STATUS then svpSticky (s.writeByAcc a v)
  else if a = R.BFP_CTRL then bfpCtrlWrite v s
  else if a = R.BFP_CMD then bfpCmdWrite v s
  else s.writeByAcc a v

/-- A write on the CFG page; a word for a FIFO load that does not take it fails (R339). -/
def cfgWrite (a : Nat) (v : Word) (s : State) : Status × State :=
  if a = R.CFG_CTRL then (.ok, cfgCtrlWrite v s)
  else if R.CFG_FIFO 0 ≤ a then
    match cfgFifoWord v s with
    | some s => (.ok, s)
    | none => (.busErr, s)
  else
    let s := s.writeByAcc a v
    (.ok, if a = R.CFG_STATUS && !s.flag F.CFG_STATUS_ERR then s.set F.CFG_STATUS_ERR_CODE 0 else s)

/-- A write on the RGN page. -/
def rgnWrite (a : Nat) (v : Word) (s : State) : State :=
  if a < R.RGN_STATUS 0 then rgnCtrlWrite ((a - R.RGN_CTRL 0) / 4) v s else s.writeByAcc a v

/-- A write on the CLK page. -/
def clkWrite (a : Nat) (v : Word) (s : State) : State :=
  let n := (a - R.CLK_PLL_CFG 0) / 16
  if a = R.CLK_PLL_CMD n && decide (n < 16) then pllCmdWrite n v s else s.writeByAcc a v

/-- A write on the XCV pages. -/
def xcvWrite (a : Nat) (v : Word) (s : State) : State :=
  let n := (a - R.XCV_CTRL 0) / 0x1000
  let g := (a - R.XCV_GRP_CTRL 0) / 16
  if R.XCV_GRP_CTRL 0 ≤ a then
    if a = R.XCV_GRP_CTRL g && decide (g < 16) then groupMaskWrite g v s else s.writeByAcc a v
  else if a = R.XCV_CTRL n then laneCtrlWrite n v s
  else if a = R.XCV_CFG n || a = R.XCV_RATE n then laneCfgWrite n a v s
  else if a = R.XCV_PRBS n then prbsWrite n v s
  else if a = R.XCV_EYE_CTRL n then eyeCtrlWrite n v s
  else s.writeByAcc a v

/-- A write on the LNT pages. -/
def lntWrite (a : Nat) (v : Word) (s : State) : State :=
  let n := (a - R.LNT_CTRL 0) / 0x10000
  if a = R.LNT_CTRL n then lntCtrlWrite n v s
  else if a = R.LNT_RD_PTR_LO n then lntRdPtrWrite n false v s
  else if a = R.LNT_RD_PTR_HI n then lntRdPtrWrite n true v s
  else lntOtherWrite n a v s

/-- A write on the MC pages. -/
def mcWrite (a : Nat) (v : Word) (s : State) : State :=
  let n := (a - R.MC_CTRL 0) / 0x10000
  if a = R.MC_CTRL n then mcCtrlWrite n v s
  else if a = R.MC_CFG n then mcCfgWrite n v s
  else s.writeByAcc a v

/-- A write on the STG page. -/
def stgWrite (a : Nat) (v : Word) (s : State) : State :=
  if R.STG_BANK 0 ≤ a then stgBankWrite ((a - R.STG_BANK 0) / 4) v s else s.writeByAcc a v

/-- A write of a listed register by a master, sent to the block of its page (R972). -/
def pageWrite (m a : Nat) (v : Word) (s : State) : Status × State :=
  let p := (a - 0x00F000000000) / 0x10000
  if p = 0 then (.ok, ttWrite a v s)
  else if p = 1 then (.ok, filWrite a v s)
  else if p = 2 then (.ok, rstWrite a v s)
  else if p = 3 then (.ok, svpPageWrite a v s)
  else if p = 4 then cfgWrite a v s
  else if p = 5 then (.ok, rgnWrite a v s)
  else if p = 6 then (.ok, clkWrite a v s)
  else if p < 0x20 then (.ok, xcvWrite a v s)
  else if p < 0x30 then (.ok, lntWrite a v s)
  else if p < 0x40 then (.ok, bcnWrite a v s)
  else if p < 0x50 then (.ok, schWrite a v s)
  else if p < 0x60 then (.ok, tprWrite a v s)
  else if p < 0x70 then (.ok, bbWrite m a v s)
  else if p < 0x80 then (.ok, mcWrite a v s)
  else if p < 0x90 then (.ok, stgWrite a v s)
  else if p < 0xA0 then (.ok, shdWrite a v s)
  else if p < 0xB0 then (.ok, psmWrite a v s)
  else if p < 0xC0 then (.ok, evcWrite a v s)
  else if p < 0xFF then (.ok, rasWrite a v s)
  else (.ok, s)

/-! ### Reads, page by page -/

/-- What a read gives of a register with no rule of its own (R11, R12). -/
def plainRead (a : Nat) (s : State) : Word × State := (s.readByAcc a, s.clearByAcc a)

/-- A read on the XCV pages. -/
def xcvRead (a : Nat) (s : State) : Word × State :=
  let n := (a - R.XCV_CTRL 0) / 0x1000
  if a = R.XCV_PRBS_BITS_LO n && decide (n < 64) then prbsBitsRead n s
  else if a = R.XCV_FEC_CORR n && decide (n < 64) then plainRead a (fecGrow n s)
  else plainRead a s

/-- A read on the LNT pages. -/
def lntRead (a : Nat) (s : State) : Word × State :=
  let n := (a - R.LNT_CTRL 0) / 0x10000
  let t := (a - R.LNT_TAP_FRAMES n 0) / 16
  if a = R.LNT_TAP_BYTES_LO n t && decide (t < 4) then lntBytesRead n t s
  else if a = R.LNT_TAP_BYTES_HI n t && decide (t < 4) then ((s.tap n t).bytesHi.setWidth 32, s)
  else plainRead a s

/-- A read of a listed register by a master. -/
def pageRead (m a : Nat) (s : State) : Word × State :=
  let p := (a - 0x00F000000000) / 0x10000
  if p = 0 then ttRead a s
  else if a = R.FIL_STATUS then (filStatusWord s, s)
  else if a = R.SVP_STATUS then (svpStatusWord s, s)
  else if 0x10 ≤ p ∧ p < 0x20 then xcvRead a s
  else if 0x20 ≤ p ∧ p < 0x30 then lntRead a s
  else if 0x30 ≤ p ∧ p < 0x40 then bcnRead a s
  else if 0x40 ≤ p ∧ p < 0x50 then schRead a s
  else if 0x50 ≤ p ∧ p < 0x60 then tprRead a s
  else if 0x60 ≤ p ∧ p < 0x70 then bbRead m a s
  else if a = R.SHD_KEY_STATUS then (keyStatusWord s, s)
  else if 0xA0 ≤ p ∧ p < 0xB0 then psmReadReg a s
  else if 0xB0 ≤ p ∧ p < 0xC0 then evcRead a s
  else if 0xC0 ≤ p ∧ p < 0xFF then rasRead a s
  else if p = 0xFF then (idWord a, s)
  else plainRead a s

/-! ### One register access -/

/-- The address lies in the register pages (R970). -/
def isRegPage (a : Nat) : Bool := decide (0x00F000000000 ≤ a ∧ a < 0x00F001000000)

/-- A whole or partial write of one register by a master (R9, R10, R971). [log 15 DESIGN CHOICE] -/
def regWriteWord (m a : Nat) (whole : Bool) (v : Word) (s : State) : Status × State :=
  if a % 4 ≠ 0 || !whole then (.accessErr, s)
  else if (findRow a).isNone then (.unmapped, s)
  else pageWrite m a v s

/-- A read of one register by a master. [log 15 DESIGN CHOICE] -/
def regReadWord (m a : Nat) (whole : Bool) (s : State) : Status × Word × State :=
  if a % 4 ≠ 0 || !whole then (.accessErr, 0, s)
  else if (findRow a).isNone then (.unmapped, 0, s)
  else (.ok, pageRead m a s)

/-! ### Partners and masters -/

/-- The master number of a partner (R974). -/
def Partner.master : Partner → Nat
  | .fil => 0
  | .svp => 1

/-- The partner behind a master number. -/
def partnerOf (m : Nat) : Option Partner := if m = 0 then some .fil else if m = 1 then some .svp else none

/-- What stops a request of a master when it enters (R7, R32, R186, R220): only a partner's is checked. [log 14 DEDUCED] -/
def masterGate (s : State) (m a : Nat) : Option Status :=
  match partnerOf m with
  | some p => s.gate p a
  | none => none

/-- A master can issue requests now: it exists and is not fenced, a partner reaches the part, an engine works, and the
logic behind a fabric port runs (R7, R125, R355, R707). -/
def masterMay (s : State) (m : Nat) : Bool :=
  match partnerOf m with
  | some p => s.reaches p
  | none => masterValid m && !isShut s m && s.works &&
      (decide (m < 64) || (s.fabricOn && regionRunning s (regionOfPort (m - 64))))

/-- Whom an answer to a master's command names. -/
def answerTo (m : Nat) : Requester :=
  match partnerOf m with
  | some p => .partner p
  | none => .master m

/-- A register write that a requester asks for directly: checked, then done, then answered. [log 15 DESIGN CHOICE] -/
def registerWrite (m a : Nat) (whole : Bool) (v : Word) (s : State) : State :=
  if masterMay s m then
    match masterGate s m a with
    | some e => s.answer (answerTo m) e 0
    | none =>
      if rulesPass s m a true then
        let (st, s) := regWriteWord m a whole v s
        s.answer (answerTo m) st 0
      else (recordDenied m a true s).answer (answerTo m) .denied 0
  else s

/-- A write of a UART's hard register by user logic (R422). -/
def uartRegisterWrite (n a : Nat) (whole : Bool) (v : Word) (s : State) : State :=
  if n < 4 && uartOn s n then
    if a % 4 ≠ 0 || !whole then s.answer (.uart n) .accessErr 0
    else if 0x18 < a then s.answer (.uart n) .unmapped 0
    else (modUart (Fin.ofNat 4 n) (uartWriteReg a v) s).answer (.uart n) .ok 0
  else s

/-- REGISTER_WRITE (R9 to R11, R978): a register of the register pages, or of a UART when user logic asks.
[log 15 DESIGN CHOICE, log 16 DESIGN CHOICE, log 40 DESIGN CHOICE] -/
def execRegisterWrite (p : Requester) (addr : LocalAddr) (whole : Bool) (v : Word) (s : State) : Out :=
  .next (match p with
    | .uart n => uartRegisterWrite n addr.toNat whole v s
    | .partner q => whenB (isRegPage addr.toNat) (registerWrite q.master addr.toNat whole v) s
    | .master m => whenB (isRegPage addr.toNat) (registerWrite m addr.toNat whole v) s)

end Sys2Proof.Machine
end

