-- ==== Sys2Proof/Machine/Service.lean ====
section
/-!
DEFINITION. Sys2Proof/Machine/Service.lean: the Service Port (05_service_boot_ports.md): read and write frames and their
words, status and take frames, rejected frames, and moves of the control token.
-/

namespace Sys2Proof.Machine

/-! ### The token (R25 to R31) -/

/-- The token goes to a partner: a move is counted and raises event 227 (R28, R31). -/
def moveToken (p : Partner) (s : State) : State :=
  if s.owner = p then s
  else raise 227 ((s.setB F.OWN_STATUS_OWNER (p == .fil)).addWrap F.OWN_STATUS_MOVE_COUNT 1)

/-! ### Words that go through the Backbone -/

/-- Issue a read of a span as Backbone bursts of a master (R665): the numbers of the requests. [log 34 DEDUCED] -/
def issueReads (m a len : Nat) (o : Origin) (s : State) : List Nat × State :=
  (burstsOf a len).foldl (fun (acc : List Nat × State) b =>
    (acc.1 ++ [acc.2.bb.nextId], bbIssue m false b.1 [] b.2 (defaultDeadline acc.2) o acc.2)) ([], s)

/-- Issue a write of bytes as Backbone bursts of a master. -/
def issueWrites (m a : Nat) (data : List Byte) (o : Origin) (s : State) : List Nat × State :=
  (burstsOf a data.length).foldl (fun (acc : List Nat × State) b =>
    (acc.1 ++ [acc.2.bb.nextId],
      bbIssue m true b.1 ((data.drop (b.1 - a)).take b.2) b.2 (defaultDeadline acc.2) o acc.2)) ([], s)

/-- Every request of a list has been answered. -/
def allDone (s : State) (l : List Nat) : Bool := l.all fun i => (doneStatus s i).isSome

/-- The first error among the answers of a list, or OK. -/
def joinStatus (s : State) (l : List Nat) : Status :=
  ((l.filterMap (doneStatus s)).find? (fun st => st != .ok)).getD .ok

/-- The bytes of the answers of a list, in order. -/
def joinData (s : State) (l : List Nat) : List Byte := l.flatMap (doneData s)

/-- Take the answers of a list. -/
def dropAll (l : List Nat) (s : State) : State := forEach l dropDone s

/-! ### Frame headers (R257, R258, R263) -/

/-- OPCODE of a frame's bytes. -/
def svpOpcode (f : List Byte) : Nat := (byteAt f 0).toNat

/-- COUNT. -/
def svpCount (f : List Byte) : Nat := (byteAt f 1).toNat

/-- FLAGS.CLR. -/
def svpClr (f : List Byte) : Bool := (byteAt f 2).getLsbD 0

/-- ADDR: words 1 and 2, the last two bytes Reserved. -/
def svpAddr (f : List Byte) : Nat := leAt f 4 6

/-- The data words of a WR frame. -/
def svpData (f : List Byte) : List Word := (List.range (svpCount f)).map fun i => BitVec.ofNat 32 (leAt f (12 + 4 * i) 4)

/-- The bytes that the board controller sends in a frame (R264). -/
def svpSent (opcode count : Nat) : Nat := if opcode = 1 then 12 else if opcode = 2 then 12 + 4 * count else 4

/-- A frame of an opcode with a COUNT in its range and a length that fits (R263, R264). -/
def svpFits (opcode : Nat) (f : List Byte) : Bool :=
  svpOpcode f == opcode && f.length == svpSent opcode (svpCount f) &&
    (if opcode < 3 then decide (1 ≤ svpCount f ∧ svpCount f ≤ 64) else svpCount f == 0)

/-! ### Take (R27, R28, R35, R268, R280) -/

/-- A frame is accepted (R294). [log 42 DEDUCED] -/
def svpAccept (s : State) : State := s.incSat F.SVP_FRAMES_ACCEPTED

/-- What a TAKE frame returns: the owner and MOVE_COUNT (R280). -/
def takeReply (s : State) : Word :=
  BitVec.ofNat 32 (b2n (s.flag F.OWN_STATUS_OWNER) + 65536 * s.get F.OWN_STATUS_MOVE_COUNT)

/-- The Service Port Take is applied (R27, R28, R280). [log 42 DEDUCED] -/
def svpTakeNow (s : State) : State :=
  let moved := s.owner != .svp
  let s := moveToken .svp s
  svpAccept { s with svp := { s.svp with ret := [takeReply s], take := false, takeAt := some (s.clk.now, moved) } }

/-- A Take that waited is applied once every word of the earlier WR frames has been committed (R268). -/
def svpTakeDue (s : State) : State := if s.svp.take && s.svp.wr.isEmpty then svpTakeNow s else s

/-- A TAKE frame: behind earlier WR frames it waits (R268); a Warm reset that has been requested has lost it (R195). -/
def svpTakeFrame (s : State) : State :=
  if s.rst.warm.isSome then s else svpTakeDue { s with svp := { s.svp with take := true, ret := [] } }

/-! ### Write frames (R266 to R269) -/

/-- A written word fails (R269). -/
def svpWriteFails (st : Status) (index : Nat) (s : State) : State :=
  if s.flag F.SVP_STATUS_WR_FAIL then s
  else ((s.set F.SVP_STATUS_WR_FAIL 1).set F.SVP_STATUS_WR_STATUS st.code.toNat).set F.SVP_STATUS_WR_INDEX index

/-- The front word has been dealt with. -/
def svpWordDone (st : Status) (s : State) : State :=
  match s.svp.wr with
  | [] => s
  | f :: rest =>
    let s := if st = .ok then s else svpWriteFails st f.index s
    let wr := match f.words.drop 1 with
      | [] => rest
      | ws => { addr := f.addr + 4, index := f.index + 1, words := ws } :: rest
    svpTakeDue { s with svp := { s.svp with wr := wr, wrWait := [] } }

/-- The front word enters the register fabric or the Backbone (R32, R265, R266). -/
def svpWordEnters (f : WrFrame) (v : Word) (s : State) : State :=
  match s.gate .svp f.addr with
  | some e => svpWordDone e s
  | none =>
    if isRegPage f.addr then
      let (st, s) := regWriteWord 1 f.addr true v s
      svpWordDone st s
    else
      let (l, s) := issueWrites 1 f.addr (leBytes 4 v.toNat) .svpWrite s
      { s with svp := { s.svp with wrWait := l } }

/-- SVP_WRITE_WORD_COMMIT: the front word of the oldest frame enters, or its writes have been answered. -/
def svpCommit (s : State) : State :=
  match s.svp.wr with
  | [] => s
  | f :: _ =>
    if s.svp.wrWait.isEmpty then
      match f.words with
      | v :: _ => svpWordEnters f v s
      | [] => svpWordDone .ok s
    else if allDone s s.svp.wrWait then
      svpWordDone (joinStatus s s.svp.wrWait) (dropAll s.svp.wrWait s)
    else s

/-- A frame is rejected (R273, R277). [log 41 DEDUCED] -/
def svpReject (code : Nat) (s : State) : State :=
  ((s.set F.SVP_STATUS_FRAME_ERR 1).set F.SVP_STATUS_ERR_CODE code).incSat F.SVP_FRAMES_REJECTED

/-- A whole WR frame (R266, R267, R273). [log 42 DEDUCED] -/
def svpWriteFrame (a : Nat) (data : List Word) (s : State) : State :=
  let s := { s with svp := { s.svp with ret := [] } }
  if 4 ≤ s.svp.wr.length then svpReject 5 s
  else svpAccept { s with svp := { s.svp with wr := s.svp.wr ++ [⟨a, 0, data⟩] } }

/-! ### Read frames (R268, R270 to R272) -/

/-- A RD frame begins: its words follow. [log 42 DEDUCED] -/
def svpReadFrame (a n : Nat) (s : State) : State :=
  { s with svp := { s.svp with rd := some ⟨a, 0, n, none, .ok, 0⟩, ret := [] } }

/-- A word is returned; behind the last one comes the read status word (R270, R271). -/
def svpReturn (f : RdFrame) (st : Status) (w : Word) (s : State) : State :=
  let isFirst := f.failStatus == .ok && st != .ok
  let bad := if isFirst then st else f.failStatus
  let at_ := if isFirst then f.index else f.failIndex
  let ret := s.svp.ret ++ [if st = .ok then w else 0]
  if f.left ≤ 1 then
    let status := bad.code.toNat + (if bad = .ok then 0 else 256 * at_)
    svpAccept { s with svp := { s.svp with rd := none, ret := ret ++ [BitVec.ofNat 32 status] } }
  else
    { s with svp := { s.svp with rd := some ⟨f.addr + 4, f.index + 1, f.left - 1, none, bad, at_⟩, ret := ret } }

/-- The next word of a read frame is fetched, behind every earlier write frame (R268). [log 34 DEDUCED, log 45 DEDUCED] -/
def svpFetch (f : RdFrame) (s : State) : State :=
  if !s.svp.wr.isEmpty then s
  else match s.gate .svp f.addr with
    | some e => svpReturn f e 0 s
    | none =>
      if isRegPage f.addr then
        let (st, w, s) := regReadWord 1 f.addr true s
        svpReturn f st w s
      else
        let (l, s) := issueReads 1 f.addr 4 .svpRead s
        { s with svp := { s.svp with rd := some { f with waiting := some (l, s.clk.now) } } }

/-- SVP_READ_WORD_RETURN: the next word is fetched, or the one that was fetched is returned. -/
def svpReadWord (s : State) : State :=
  match s.svp.rd with
  | none => s
  | some f =>
    match f.waiting with
    | none => svpFetch f s
    | some (l, _) =>
      if allDone s l then
        svpReturn f (joinStatus s l) (BitVec.ofNat 32 (leNat (joinData s l))) (dropAll l s)
      else s

/-- Nobody waits for the answers to some requests any more. [log 45 DEDUCED] -/
def abandonReads (l : List Nat) (s : State) : State :=
  let mute := fun (b : Burst) => if l.contains b.req.id then { b with req := { b.req with origin := .nobody } } else b
  let s := dropAll l s
  { s with bb := { s.bb with bursts := s.bb.bursts.map mute } }

/-- SVP_READ_TIMEOUT (R272): a millisecond without an answer. [log 45 DEDUCED] -/
def svpReadLate (s : State) : State :=
  match s.svp.rd with
  | none => s
  | some f =>
    match f.waiting with
    | some (l, t) =>
      if t + 1000000 ≤ s.clk.now && !allDone s l then svpReturn f .timeout 0 (abandonReads l s) else s
    | none => s

/-! ### Status, Take, rejection -/

/-- A STATUS frame (R278, R279). [log 42 DEDUCED] -/
def svpStatusFrame (clr : Bool) (s : State) : State :=
  let s := svpAccept { s with svp := { s.svp with ret := [svpStatusWord s] } }
  if clr then svpSticky ((s.set F.SVP_STATUS_FRAME_ERR 0).set F.SVP_STATUS_WR_FAIL 0) else s

/-- The byte count of a frame (R264). -/
def frameBytesOf (opcode count : Nat) : Nat :=
  if opcode = 1 then 16 + 4 * count else if opcode = 2 then 12 + 4 * count else 8

/-- Why a frame is rejected (R273); nothing when it is not. [log 41 DEDUCED] -/
def rejectCode (s : State) (opcode count bytes : Nat) : Option Nat :=
  if bytes % 4 ≠ 0 then some 1
  else if opcode = 0 ∨ 4 < opcode then some 3
  else if (if opcode < 3 then count = 0 ∨ 64 < count else count ≠ 0) then some 4
  else if bytes ≠ frameBytesOf opcode count then some 2
  else if opcode = 2 ∧ 4 ≤ s.svp.wr.length then some 5
  else none

/-- A frame that the part rejects (R273 to R277, R292): what it returned is void, a read frame under way ends with it, and a Take
that waits is not applied. [log 41 DEDUCED] -/
def svpRejected (opcode count bytes : Nat) (s : State) : State :=
  match rejectCode s opcode count bytes with
  | some c =>
    let s := svpReject c { s with svp := { s.svp with ret := [], take := false } }
    let s := match s.svp.rd with
      | some f => match f.waiting with
        | some (l, _) => abandonReads l s
        | none => s
      | none => s
    { s with svp := { s.svp with rd := none } }
  | none => s

/-- No frame is under way. -/
def State.svpIdle (s : State) : Bool := s.svpUp && s.svp.rd.isNone && !s.svp.take

/-! ### Commands -/

/-- RD (R263, R268, R270): the bytes that the board controller sends. -/
def execSvpRd (header address : List Byte) (s : State) : Out :=
  let f := header ++ address
  .next (whenB (s.svpIdle && svpFits 1 f) (svpReadFrame (svpAddr f) (svpCount f)) s)

/-- SVP_READ_WORD_RETURN (R270, R271). -/
def execSvpReadWordReturn (s : State) : Out := .next (whenB s.svpUp svpReadWord s)

/-- SVP_READ_TIMEOUT (R272). -/
def execSvpReadTimeout (s : State) : Out := .next (whenB s.svpUp svpReadLate s)

/-- WR (R263, R266, R267). -/
def execSvpWr (header words : List Byte) (s : State) : Out :=
  let f := header ++ words
  .next (whenB (s.svpIdle && svpFits 2 f) (svpWriteFrame (svpAddr f) (svpData f)) s)

/-- SVP_WRITE_WORD_COMMIT (R266, R269). -/
def execSvpWriteWordCommit (s : State) : Out := .next (whenB s.svpUp svpCommit s)

/-- STATUS (R263, R278, R279). -/
def execSvpStatus (header : List Byte) (s : State) : Out :=
  .next (whenB (s.svpIdle && svpFits 3 header) (svpStatusFrame (svpClr header)) s)

/-- TAKE (R263, R280). -/
def execSvpTake (s : State) : Out := .next (whenB s.svpIdle svpTakeFrame s)

/-- SVP_FRAME_REJECTED (R273, R277): the bytes that were sent, and the byte count of the frame. -/
def execSvpFrameRejected (header words : List Byte) (byteCount : Nat) (s : State) : Out :=
  let f := header ++ words
  .next (whenB s.svpUp (svpRejected (svpOpcode f) (svpCount f) byteCount) s)

end Sys2Proof.Machine
end

