-- ==== Sys2Proof/Machine/Filament.lean ====
section
/-!
DEFINITION. Sys2Proof/Machine/Filament.lean: the packets that a unit takes from the chain (03_filament_chain.md): reads,
writes and bulk transfers word by word or burst by burst, enumeration, and the control messages.
-/

namespace Sys2Proof.Machine

/-! ### Packets taken from the inbox -/

/-- The oldest packet of its virtual channel, when it is of a type (R122). [log 38 DEDUCED] -/
def inboxHead (s : State) (type : Byte) : Option Packet :=
  s.fil.inbox.find? fun k => k.type == type && (s.fil.inbox.find? (fun x => x.vc == k.vc)) == some k

/-- A packet leaves the inbox, and its buffer is free (R143). [log 31 DEDUCED] -/
def inboxDrop (k : Packet) (s : State) : State :=
  freeBuffer .us k.vc { s with fil := { s.fil with inbox := s.fil.inbox.erase k } }

/-- Run an effect on the oldest packet of a type. [log 38 DEDUCED] -/
def onPacket (type : Byte) (f : Packet → State → State) (s : State) : State :=
  if s.rst.coreUp then
    match inboxHead s type with
    | some k => f k (inboxDrop k s)
    | none => s
  else s

/-! ### Accesses of a request (R32, R113, R118) -/

/-- The parts of a request and what each answered. -/
abbrev Pieces := List (Nat × Nat × Option (Status × List Byte))

/-- The words of a span, with their addresses. -/
def wordAddrs (a len : Nat) : List Nat := (List.range (len / 4)).map fun i => a + 4 * i

/-- Read a span for request `id`: register words one by one, other addresses as bursts. [log 34 DEDUCED] -/
def filReadSpan (id a len : Nat) (s : State) : Pieces × State :=
  if isRegPage a then
    (wordAddrs a len).foldl (fun (acc : Pieces × State) w =>
      match acc.2.gate .fil w with
      | some e => (acc.1 ++ [(w, 4, some (e, []))], acc.2)
      | none =>
        let (st, v, s) := regReadWord 0 w true acc.2
        (acc.1 ++ [(w, 4, some (st, leBytes 4 v.toNat))], s)) ([], s)
  else
    (burstsOf a len).foldl (fun (acc : Pieces × State) b =>
      match acc.2.gate .fil b.1 with
      | some e => (acc.1 ++ [(b.1, b.2, some (e, []))], acc.2)
      | none =>
        (acc.1 ++ [(b.1, b.2, none)],
          bbIssue 0 false b.1 [] b.2 (defaultDeadline acc.2) (.filRead id acc.1.length) acc.2)) ([], s)

/-- Write a span for request `id`. [log 34 DEDUCED] -/
def filWriteSpan (id a : Nat) (data : List Byte) (s : State) : Pieces × State :=
  if isRegPage a then
    (wordAddrs a data.length).foldl (fun (acc : Pieces × State) w =>
      match acc.2.gate .fil w with
      | some e => (acc.1 ++ [(w, 4, some (e, []))], acc.2)
      | none =>
        let (st, s) := regWriteWord 0 w true (BitVec.ofNat 32 (leAt data (w - a) 4)) acc.2
        (acc.1 ++ [(w, 4, some (st, []))], s)) ([], s)
  else
    (burstsOf a data.length).foldl (fun (acc : Pieces × State) b =>
      match acc.2.gate .fil b.1 with
      | some e => (acc.1 ++ [(b.1, b.2, some (e, []))], acc.2)
      | none =>
        (acc.1 ++ [(b.1, b.2, none)],
          bbIssue 0 true b.1 ((data.drop (b.1 - a)).take b.2) b.2 (defaultDeadline acc.2) (.filWrite id acc.1.length)
            acc.2)) ([], s)

/-- Every part has been answered. -/
def OpenReq.complete (r : OpenReq) : Bool := r.pieces.all fun p => p.2.2.isSome

/-- The first failing status, or OK (R115). -/
def OpenReq.status (r : OpenReq) : Status :=
  (r.pieces.findSome? fun p => match p.2.2 with
    | some (.ok, _) => none
    | some (st, _) => some st
    | none => none).getD .ok

/-- The bytes read; a part that failed is as it came, zero where nothing came (R180). -/
def OpenReq.bytes (r : OpenReq) : List Byte :=
  r.pieces.flatMap fun p => padTo p.2.1 ((p.2.2.map Prod.snd).getD [])

/-- The answer to a part of a request. -/
def setPiece (word : Nat) (x : Status × List Byte) (r : OpenReq) : OpenReq :=
  { r with pieces := r.pieces.zipIdx.map fun p => if p.2 = word then (p.1.1, p.1.2.1, some x) else p.1 }

/-- The earlier of two failures of a bulk write. [log 36 DEDUCED] -/
def firstFail2 (a b : Nat × Nat × Status) : Nat × Nat × Status := if b.1 < a.1 then b else a

/-- A word of a bulk write has been answered (R177). -/
def bulkWord (word addr : Nat) (st : Status) (whole : Bool) (b : Bulk) : Bulk :=
  if st = .ok then { b with written := b.written + (if whole && (b.fail.map (·.1)) != some word then 1 else 0) }
  else
    let f := (word, addr, st)
    { b with fail := some (match b.fail with | some g => firstFail2 g f | none => f) }

/-- Change the open bulk write of a TAG. -/
def modBulk (tag : Byte) (f : Bulk → Bulk) (s : State) : State :=
  { s with fil := { s.fil with bulks := s.fil.bulks.map fun b => if b.tag = tag then f b else b } }

/-- The answers that wait for the requests of the chain are taken. -/
def filAnswers (s : State) : State :=
  forEach s.bb.done (fun x s =>
    match x.origin with
    | .filRead id w =>
      let set := fun (r : OpenReq) => if r.id = id then setPiece w (x.status, x.data) r else r
      let s := dropDone x.id s
      { s with fil := { s.fil with reads := s.fil.reads.map set } }
    | .filWrite id w =>
      let set := fun (r : OpenReq) => if r.id = id then setPiece w (x.status, []) r else r
      let s := dropDone x.id s
      { s with fil := { s.fil with writes := s.fil.writes.map set } }
    | .filBulk tag w a whole =>
      modBulk tag (fun b => { bulkWord w a x.status whole b with waiting := b.waiting - 1 }) (dropDone x.id s)
    | _ => s) s

/-! ### Reads (R113, R118, R179, R180) -/

/-- A read begins. -/
def openRead (tag orig : Byte) (a len vc : Nat) (last : Bool) (s : State) : State :=
  let id := s.fil.nextReq
  let s := { s with fil := { s.fil with nextReq := id + 1 } }
  let (p, s) := filReadSpan id a len s
  { s with fil := { s.fil with reads := s.fil.reads ++ [⟨id, tag, orig, a, vc, last, p⟩] } }

/-- The next part of a bulk read begins: 256 bytes, or what is left. [log 36 DEDUCED] -/
def bulkReadOn (tag : Byte) (s : State) : State :=
  match s.fil.bulkRds.find? (fun b => b.tag == tag) with
  | some b =>
    let n := min 256 b.left
    let rest := s.fil.bulkRds.erase b
    let rest := if n = b.left then rest else rest ++ [{ b with addr := b.addr + n, left := b.left - n }]
    openRead b.tag b.orig b.addr n 3 (n == b.left) { s with fil := { s.fil with bulkRds := rest } }
  | none => s

/-- A read whose data has arrived is answered; a bulk read goes on. -/
def readResponse (s : State) : State :=
  let s := filAnswers s
  match s.fil.reads.find? OpenReq.complete with
  | some r =>
    let flags : Byte := if r.last then 1 else 0
    let s := { s with fil := { s.fil with reads := s.fil.reads.erase r } }
    let s := sendPacket .us (mkPacket s r.vc 0x10 r.tag r.status.code flags r.addr r.orig r.bytes) s
    if r.vc = 3 && !r.last then bulkReadOn r.tag s else s
  | none => s

/-- RD_REQ is taken whole. -/
def readRequest (k : Packet) (s : State) : State := openRead k.tag k.dest k.addr (4 * k.rlen) 1 false s

/-- BULK_RD (R179). -/
def bulkReadRequest (k : Packet) (s : State) : State :=
  let b : BulkRd := ⟨k.tag, k.dest, k.addr, leAt k.payload 0 4⟩
  bulkReadOn k.tag { s with fil := { s.fil with bulkRds := s.fil.bulkRds ++ [b] } }

/-! ### Writes (R114, R118) -/

/-- WR_REQ is taken whole. -/
def writeRequest (k : Packet) (s : State) : State :=
  let id := s.fil.nextReq
  let s := { s with fil := { s.fil with nextReq := id + 1 } }
  let (p, s) := filWriteSpan id k.addr k.payload s
  { s with fil := { s.fil with writes := s.fil.writes ++ [⟨id, k.tag, k.dest, k.addr, 1, false, p⟩] } }

/-- A write of which every part has completed is answered. -/
def writeResponse (s : State) : State :=
  let s := filAnswers s
  match s.fil.writes.find? OpenReq.complete with
  | some r =>
    let s := { s with fil := { s.fil with writes := s.fil.writes.erase r } }
    sendPacket .us (mkPacket s 1 0x11 r.tag r.status.code 0 r.addr r.orig []) s
  | none => s

/-! ### Bulk writes (R176 to R178) -/

/-- One word of a bulk write is executed. [log 34 DEDUCED] -/
def bulkWordWrite (w : BulkWord) (s : State) : State :=
  match s.gate .fil w.addr with
  | some e => modBulk w.tag (bulkWord w.index w.addr e true) s
  | none =>
    if isRegPage w.addr then
      let (st, s) := regWriteWord 0 w.addr true (BitVec.ofNat 32 (leNat w.data)) s
      modBulk w.tag (bulkWord w.index w.addr st true) s
    else
      forEach (burstsOf w.addr w.data.length) (fun b s =>
        let whole := b.1 + b.2 == w.addr + w.data.length
        modBulk w.tag (fun x => { x with waiting := x.waiting + 1 })
          (bbIssue 0 true b.1 ((w.data.drop (b.1 - w.addr)).take b.2) b.2 (defaultDeadline s)
            (.filBulk w.tag w.index w.addr whole) s)) s

/-- A word of a bulk write has been issued and not answered. -/
def bulkBusy (s : State) : Bool := s.fil.bulks.any fun b => b.waiting != 0

/-- Words of bulk writes are executed in arrival order, each once the one before it has been answered (R176).
[log 34 DEDUCED] -/
def bulkRun : List BulkWord → State → State
  | [], s => { s with fil := { s.fil with bulkTodo := [] } }
  | w :: l, s =>
    if bulkBusy s then { s with fil := { s.fil with bulkTodo := w :: l } }
    else bulkRun l (bulkWordWrite w s)

/-- The answers of the chain's requests are taken, and the words of bulk writes go on. -/
def bulkGo (s : State) : State :=
  let s := filAnswers s
  bulkRun s.fil.bulkTodo s

/-- The words of a BULK_WR packet, in order, the first of them word `first` of its stream. -/
def bulkWords (k : Packet) (first : Nat) : List BulkWord :=
  (List.range (k.len / 4)).map fun i => ⟨k.tag, first + i, k.addr + 4 * i, (k.payload.drop (4 * i)).take 4⟩

/-- A BULK_WR packet: it opens a stream or belongs to one; a 17th stream is turned away. [log 36 DEDUCED] -/
def bulkWrite (k : Packet) (s : State) : State :=
  let s := bulkGo s
  let known := s.fil.bulks.any fun b => b.tag == k.tag
  if !known && decide (16 ≤ s.fil.bulks.length) then answerPacket k .badPacket s
  else
    let s := if known then s
      else { s with fil := { s.fil with bulks := s.fil.bulks ++ [⟨k.tag, k.dest, 0, 0, 0, none, false⟩] } }
    let first := ((s.fil.bulks.find? (fun b => b.tag == k.tag)).map Bulk.words).getD 0
    let s := modBulk k.tag (fun b => { b with words := b.words + k.len / 4, last := b.last || k.lastFlag }) s
    bulkGo { s with fil := { s.fil with bulkTodo := s.fil.bulkTodo ++ bulkWords k first } }

/-- A bulk write that has received LAST and has no word outstanding is answered. [log 36 DEDUCED] -/
def bulkResponse (s : State) : State :=
  let s := bulkGo s
  match s.fil.bulks.find? (fun b => b.last && b.waiting == 0 && s.fil.bulkTodo.all (fun w => w.tag != b.tag)) with
  | some b =>
    let s := { s with fil := { s.fil with bulks := s.fil.bulks.erase b } }
    let st := (b.fail.map (·.2.2)).getD .ok
    let at_ := (b.fail.map (·.2.1)).getD 0
    let body := leBytes 4 b.written ++ leBytes 6 at_ ++ [st.code, 0]
    sendPacket .us (mkPacket s 1 0x12 b.tag st.code 0 0 b.orig body) s
  | none => s

/-- A Shade halt: reads and writes that wait for an answer which will not come are answered HALTED (R186).
[log 101 DEDUCED] -/
def filHalted (s : State) : State :=
  let end_ := fun (r : OpenReq) =>
    { r with pieces := r.pieces.map fun p => (p.1, p.2.1, some (p.2.2.getD (.halted, []))) }
  { s with fil := { s.fil with reads := s.fil.reads.map end_, writes := s.fil.writes.map end_ } }

/-! ### Enumeration (R25, R125 to R135) -/

/-- The token goes to the Filament at addressing (R25): the move raises its event when the cycle ends, for a write of SVP_HOLD
in the same cycle acts before it (R36). -/
def moveAtAddressing (s : State) : State :=
  if s.owner = .fil then s
  else { (s.setB F.OWN_STATUS_OWNER true).addWrap F.OWN_STATUS_MOVE_COUNT 1 with fil := { s.fil with moveDue := true } }

/-- The unit takes an address (R25, R127, R131, R895). -/
def takeAddress (a : Byte) (s : State) : State :=
  let s := { s with fil := { s.fil with addr := a } }
  let s := s.set F.OWN_STATUS_ADDRESSED 1
  let s := if s.flag F.SVP_HOLD_HOLD then s else moveAtAddressing s
  let s := startDownstream s
  { s with evc := s.evc.startPending s.evcEnv }

/-- An unaddressed unit takes an ENUM (R116, R127, R129, R186). [log 37 DEDUCED] -/
def enumHere (k : Packet) (s : State) : State :=
  let a := byteAt k.payload 0
  let hops := byteAt k.payload 1
  if s.halted then sendPacket .us (enumResponse s k.tag .halted hops) s
  else if badPacketRule k then raise 226 (sendPacket .us (enumResponse s k.tag .badPacket hops) s)
  else if a = 0 || a = 0xFF then sendPacket .us (enumResponse s k.tag .badPacket hops) s
  else
    let s := takeAddress a s
    sendPacket .us (enumResponse s k.tag .ok hops) s

/-- The ENUM as it goes on, HOPS one higher (R130). [log 37 DEDUCED] -/
def enumOnward (k : Packet) : Packet :=
  if 18 ≤ k.bytes.length then { k with bytes := splice k.bytes 17 [byteAt k.bytes 17 + 1] } else k

/-- An addressed unit passes an ENUM on, or holds it until its downstream link is Active, which a link that rests is made to be
(R123, R130). [log 37 DEDUCED] -/
def enumForward (k : Packet) (s : State) : State :=
  if s.fil.ds.state = .active then sendPacket .ds (enumOnward k) s
  else wakeDown { s with fil := { s.fil with enumHeld := some (enumOnward k, s.clk.now) } }

/-- ENUM: while one is held, the next waits. [log 37 DEDUCED] -/
def enumTaken (s : State) : State :=
  if s.fil.enumHeld.isSome || !s.rst.coreUp then s
  else match inboxHead s 0x20, s.fil.behind with
    | some k, _ =>
      let s := inboxDrop k s
      if s.fil.addr = 0 then enumGone (enumHere k s) else enumGone (enumForward k s)
    | none, k :: l =>
      if k.type = 0x20 then enumGone (enumForward k (freeBuffer .us k.vc { s with fil := { s.fil with behind := l } })) else s
    | none, [] => s

/-- No unit answers a held ENUM within 1 ms (R130). [log 37 DEDUCED] -/
def enumLate (s : State) : State :=
  match s.fil.enumHeld with
  | some (k, t) =>
    if t + 1000000 ≤ s.clk.now then
      let s := { s with fil := { s.fil with enumHeld := none } }
      enumGone (sendPacket .us (enumResponse s k.tag .noUnit (byteAt k.bytes 17 - 1)) s)
    else s
  | none => s

/-- The upstream link has been Active for 500 ms without an ENUM (R132): once for each activation. [log 37 DEDUCED] -/
def enumWaits (s : State) : State :=
  let l := s.fil.us
  if s.rst.coreUp && l.state == .active && s.fil.addr == 0 && !s.fil.enumSeen &&
      s.fil.enumTold != some l.activeAt && decide (l.activeAt + 500000000 ≤ s.clk.now) then
    raise 224 { s.set F.FIL_STATUS_ENUM_WAIT 1 with fil := { s.fil with enumTold := some l.activeAt } }
  else s

/-! ### Control messages (R182 to R185) -/

/-- MOVE_COUNT as two bytes. -/
def moveCountBytes (s : State) : List Byte := leBytes 2 (s.get F.OWN_STATUS_MOVE_COUNT)

/-- The OWN_RSP that names the Filament as owner, with a MOVE_COUNT (R182). -/
def ownResponse (k : Packet) (moves : Nat) (s : State) : State :=
  sendPacket .us (mkPacket s 2 0x31 k.tag 0 0 0 k.dest ([1, 0] ++ leBytes 2 moves)) s

/-- OWN (R27, R35, R182): one that arrives in the cycle of a Service Port Take is applied before that Take; a Warm reset that has
been requested has lost it (R195). -/
def ownTaken (k : Packet) (s : State) : State :=
  if s.rst.warm.isSome then s
  else match s.svp.takeAt with
  | some (t, moved) =>
    if t = s.clk.now then
      if moved then ownResponse k ((s.get F.OWN_STATUS_MOVE_COUNT + 65535) % 65536) s
      else
        let s := moveToken .fil s
        let s := moveToken .svp (ownResponse k (s.get F.OWN_STATUS_MOVE_COUNT) s)
        { s with svp := { s.svp with ret := [takeReply s] } }
    else
      let s := moveToken .fil s
      ownResponse k (s.get F.OWN_STATUS_MOVE_COUNT) s
  | none =>
    let s := moveToken .fil s
    ownResponse k (s.get F.OWN_STATUS_MOVE_COUNT) s

/-- STAT_REQ (R183). -/
def statAnswered (k : Packet) (s : State) : State :=
  let flags := b2n s.nightlight + 2 * b2n s.halted + 4 * b2n (s.flag F.TT_STATUS_HOLDOVER) +
    8 * b2n (s.flag F.CFG_STATUS_DONE)
  sendPacket .us (mkPacket s 2 0x33 k.tag 0 0 0 k.dest
    ([BitVec.ofNat 8 (s.get F.OWN_STATUS_OWNER), BitVec.ofNat 8 flags] ++ moveCountBytes s ++ [0, 0, 0, 0])) s

/-- RESET (R185): the Warm reset follows once the answer has left. -/
def resetTaken (k : Packet) (s : State) : State :=
  let st : Status := if s.owner = .fil then .ok else .notOwner
  sendPacket .us (mkPacket s 2 0x35 k.tag st.code 0 0 k.dest []) s

/-! ### Commands -/

/-- RD_REQ (R118). -/
def execRdReq (s : State) : Out := .next (onPacket 0x01 readRequest s)

/-- RD_RSP (R113, R179, R180). -/
def execRdRsp (s : State) : Out := .next (whenB s.rst.coreUp readResponse s)

/-- WR_REQ (R118). -/
def execWrReq (s : State) : Out := .next (onPacket 0x02 writeRequest s)

/-- WR_RSP (R114). -/
def execWrRsp (s : State) : Out := .next (whenB s.rst.coreUp writeResponse s)

/-- BULK_WR (R176, R178). -/
def execBulkWr (s : State) : Out := .next (onPacket 0x03 bulkWrite s)

/-- BULK_RSP (R177). [log 38 DEDUCED] -/
def execBulkRsp (s : State) : Out := .next (whenB s.rst.coreUp bulkResponse s)

/-- BULK_RD (R179). -/
def execBulkRd (s : State) : Out := .next (onPacket 0x04 bulkReadRequest s)

/-- ENUM (R127 to R131). -/
def execEnumPkt (s : State) : Out := .next (enumTaken s)

/-- ENUM_TIMEOUT (R130). -/
def execEnumTimeout (s : State) : Out := .next (whenB s.rst.coreUp enumLate s)

/-- ENUM_WAIT (R132). -/
def execEnumWait (s : State) : Out := .next (enumWaits s)

/-- OWN (R182). [log 38 DEDUCED] -/
def execOwn (s : State) : Out := .next (onPacket 0x30 ownTaken s)

/-- STAT_REQ (R183). -/
def execStatReq (s : State) : Out := .next (onPacket 0x32 statAnswered s)

/-- RESET (R185). -/
def execChainReset (s : State) : Out := .next (onPacket 0x34 resetTaken s)

end Sys2Proof.Machine
end

