-- ==== Sys2Proof/Machine/LaneData.lean ====
section
/-!
DEFINITION. Sys2Proof/Machine/LaneData.lean: the data of the probe lanes (09_probe_lanes.md): line bits and symbols, the hard PCS,
the fabric ports, what a Beacon sends (R560), PRBS generators and checkers.
-/

namespace Sys2Proof.Machine

/-! ### Symbols (R445) -/

/-- Line bits of a symbol. -/
def symbolBits (s : State) (n : Nat) : Nat := if s.flag (F.XCV_CFG_MOD n) then 2 else 1

/-- The symbol of one line bit, or of two that are Gray-coded, the first one the most significant (R445); none is electrical idle.
[log 129 PRESUMED] -/
def symbolOf : List (Option Bool) → Option Nat
  | [some a] => some (b2n a)
  | [some a, some b] => some (2 * b2n a + b2n (a ^^ b))
  | _ => none

/-- The line bits of a symbol. [log 129 PRESUMED] -/
def symbolLine (pam4 : Bool) (v : Nat) : List Bool :=
  if pam4 then [decide (2 ≤ v % 4), v % 4 == 1 || v % 4 == 2] else [v % 2 == 1]

/-- Bytes from bits, least significant first, by the number of bytes. -/
def bytesLsb : Nat → List Bool → List Byte
  | 0, _ => []
  | k + 1, l => BitVec.ofNat 8 (((l.take 8).zipIdx.map fun x => b2n x.1 * 2 ^ x.2).sum) :: bytesLsb k (l.drop 8)

/-! ### 8b/10b (R460, R461) -/

/-- The 6-bit codes of the 32 low parts at negative running disparity, the first bit on the line the most significant. -/
def code6 : List Nat :=
  [0x27, 0x1D, 0x2D, 0x31, 0x35, 0x29, 0x19, 0x38, 0x39, 0x25, 0x15, 0x34, 0x0D, 0x2C, 0x1C, 0x17,
   0x1B, 0x23, 0x13, 0x32, 0x0B, 0x2A, 0x1A, 0x3A, 0x33, 0x26, 0x16, 0x36, 0x0E, 0x2E, 0x1E, 0x2B]

/-- The 4-bit codes of the 8 high parts at negative running disparity; the ninth is the alternate code of 7. -/
def code4 : List Nat := [0xB, 0x9, 0x5, 0xC, 0xD, 0xA, 0x6, 0xE, 0x7]

/-- The 10-bit codes of the control groups at negative running disparity. -/
def codeK : List (Nat × Nat) :=
  [(0x1C, 0x0F4), (0x3C, 0x0F9), (0x5C, 0x0F5), (0x7C, 0x0F3), (0x9C, 0x0F2), (0xBC, 0x0FA), (0xDC, 0x0F6), (0xFC, 0x0F8),
   (0xF7, 0x3A8), (0xFB, 0x368), (0xFD, 0x2E8), (0xFE, 0x1E8)]

/-- How many bits of a code are 1. -/
def onesOf (w c : Nat) : Nat := ((List.range w).filter (bitOf c)).length

/-- A code as sent at a running disparity: one that is not balanced is inverted when it is positive, and so are 7's two balanced
ones. -/
def atDisparity (w c : Nat) (flips plus : Bool) : Nat := if plus && (2 * onesOf w c != w || flips) then 2 ^ w - 1 - c else c

/-- The running disparity after a code. -/
def disparityAfter (w c : Nat) (plus : Bool) : Bool := if 2 * onesOf w c = w then plus else !plus

/-- The 10-bit code of a group at a running disparity, the first bit on the line the most significant, and the running disparity
after it (Clause 36). [log 129 PRESUMED] -/
def encodeGroup (k : Bool) (b : Byte) (plus : Bool) : Nat × Bool :=
  if k then
    let c := ((codeK.find? fun x => x.1 == b.toNat).map (·.2)).getD (Config.noControl b % 1024)
    (if plus then 1023 - c else c, disparityAfter 10 c plus)
  else
    let x := b.toNat % 32
    let y := b.toNat / 32
    let six := code6.getD x 0
    let p := disparityAfter 6 six plus
    let alt := y == 7 && (if p then x == 11 || x == 13 || x == 14 else x == 17 || x == 18 || x == 20)
    let four := code4.getD (if alt then 8 else y) 0
    (16 * atDisparity 6 six (x == 7) plus + atDisparity 4 four (y == 3) p, disparityAfter 4 four p)

/-- The octet, and 256 more for a control group, that 10 bits decode to (Clause 36). [log 129 PRESUMED] -/
def decodeGroup (c : Nat) : Nat :=
  ((List.range 512).find? fun x => [false, true].any fun p =>
    (decide (x < 256) || codeK.any (fun y => y.1 == x - 256)) &&
      (encodeGroup (decide (256 ≤ x)) (BitVec.ofNat 8 (x % 256)) p).1 == c).getD (Config.noGroup c % 512)

/-- Ten bits, the first on the line first, of a code. -/
def groupLine (c : Nat) : List Bool := (List.range 10).map fun i => bitOf c (9 - i)

/-- The line bits of code groups, and the running disparity after them. -/
def encodeGroups (plus : Bool) : List (Bool × Byte) → List Bool × Bool
  | [] => ([], plus)
  | (k, b) :: l =>
    let (c, p) := encodeGroup k b plus
    let (out, p') := encodeGroups p l
    (groupLine c ++ out, p')

/-! ### Units and line bits (R461, R485) -/

/-- The line bits of a unit, and the lane with its scrambler and running disparity after it (R461). -/
def encodeUnit (s : State) (n : Nat) (u : List Byte) (x : XcvS) : List Bool × XcvS :=
  let pay := bitsLsb (u.drop 1)
  match s.get (F.XCV_CFG_PCS n) with
  | 1 =>
    let (l, p) := encodeGroups x.txPlus ((List.range 8).map fun i => ((byteAt u 0).getLsbD i, byteAt u (1 + i)))
    (l, { x with txPlus := p })
  | 2 =>
    let (l, t) := if s.flag (F.XCV_CFG_DESCR n) then scramble58 x.txScr pay else (pay, x.txScr)
    ((bitsLsb (u.take 1)).take 2 ++ l, { x with txScr := t })
  | 3 => ((bitsLsb (u.take 1)).take 2 ++ pay, x)
  | _ => (bitsLsb u, x)

/-- The unit that line bits decode to, and the lane with its descrambler after it (R460). -/
def decodeUnit (s : State) (n : Nat) (l : List Bool) (x : XcvS) : List Byte × XcvS :=
  match s.get (F.XCV_CFG_PCS n) with
  | 1 =>
    let g := (List.range 8).map fun i =>
      decodeGroup ((((l.drop (10 * i)).take 10).zipIdx.map fun y => b2n y.1 * 2 ^ (9 - y.2)).sum)
    (BitVec.ofNat 8 ((g.zipIdx.map fun y => y.1 / 256 * 2 ^ y.2).sum) :: g.map (fun c => BitVec.ofNat 8 c), x)
  | 2 =>
    let (p, t) := if s.flag (F.XCV_CFG_DESCR n) then descramble58 x.rxScr (l.drop 2) else (l.drop 2, x.rxScr)
    (bytesLsb 1 (l.take 2) ++ bytesLsb 8 p, { x with rxScr := t })
  | 3 => (bytesLsb 1 (l.take 2) ++ bytesLsb 16 (l.drop 2), x)
  | _ => (bytesLsb 8 l, x)

/-! ### Words of the fabric ports (R472) -/

/-- The units that a word carries, the first on the line first. -/
def unitsOfWord (s : State) (n : Nat) (w : List Bool) : List (List Byte) :=
  let at_ := fun lo len => (w.drop lo).take len
  match s.get (F.XCV_CFG_PCS n) with
  | 1 => [0, 8].map fun h =>
      bytesLsb 1 ((List.range 8).map fun g => w.getD (9 * (h + g) + 8) false) ++
        (List.range 8).flatMap fun g => bytesLsb 1 (at_ (9 * (h + g)) 8)
  | 2 => [0, 66].map fun b => bytesLsb 1 (at_ b 2) ++ bytesLsb 8 (at_ (b + 2) 64)
  | 3 => [bytesLsb 1 (at_ 0 2) ++ bytesLsb 16 (at_ 2 128)]
  | _ => [0, 64].map fun b => bytesLsb 8 (at_ b 64)

/-- The bits that a unit takes in a word. -/
def wordOfUnit (s : State) (n : Nat) (u : List Byte) : List Bool :=
  match s.get (F.XCV_CFG_PCS n) with
  | 1 => (List.range 8).flatMap fun g => bitsLsb [byteAt u (1 + g)] ++ [(byteAt u 0).getLsbD g]
  | 2 => (bitsLsb (u.take 1)).take 2 ++ bitsLsb (u.drop 1)
  | 3 => (bitsLsb (u.take 1)).take 2 ++ bitsLsb (u.drop 1)
  | _ => bitsLsb u

/-- Line bits of a word. -/
def wordBits (s : State) (n : Nat) : Nat := wordUnits s n * unitBits s n

/-- The line bits of units in turn. -/
def encodeUnits (s : State) (n : Nat) : List (List Byte) → XcvS → List Bool × XcvS
  | [], x => ([], x)
  | u :: us, x =>
    let (l, x) := encodeUnit s n u x
    let (ls, x) := encodeUnits s n us x
    (l ++ ls, x)

/-- The units of line bits in turn, by their number. -/
def decodeUnits (s : State) (n : Nat) : Nat → List Bool → XcvS → List (List Byte) × XcvS
  | 0, _, x => ([], x)
  | k + 1, l, x =>
    let (u, x) := decodeUnit s n (l.take (unitBits s n)) x
    let (us, x) := decodeUnits s n k (l.drop (unitBits s n)) x
    (u :: us, x)

/-! ### What a Beacon sends (R547, R549, R555, R560, R573) -/

/-- What a Beacon's output gives: nothing, a unit of its program, or fill. -/
inductive BcnOut where
  | idle
  | unit (b : List Byte)
  | fill
deriving DecidableEq, Repr

/-- The Beacon once every pass and jump that has come due is accounted, by fuel. -/
def bcnSettled (n : Nat) : Nat → State → State
  | 0, s => s
  | k + 1, s =>
    let s := catchUnderrunTo n (slotsNow s n) s
    if bcnState s n = 3 && (decide (passEnd s n ≤ slotsNow s n) ||
        (jumpSlot s n).any (fun j => decide (j ≤ slotsNow s n))) then
      bcnSettled n k (bcnPassEnd n (bcnJump n s))
    else s

/-- Where in the pattern area the data for a lane of a unit of the pass stands, or where in the stream. -/
def unitOffset (s : State) (n lane i : Nat) : Nat :=
  i * unitBytes s n +
    (if s.flag (F.BCN_CTRL_DIST n) then ((bcnLanes s n).findIdx (· == lane)) * bcnU s n else 0)

/-- The unit of the program for a lane in the slot that begins, and Staging SRAM after its read: one whose data has not arrived, or
cannot be read, is not sent (R573, R785). -/
def bcnUnitRead (n lane : Nat) (s : State) : Option (List Byte) × State :=
  let t := bcnSettled n (slotsNow s n + 2) s
  let b := t.bcnOf n
  let d := curSeg t n
  if bcnState t n != 3 then (none, s)
  else if d.stream then
    let i := slotsNow t n - b.base - b.late
    let have_ := (b.used + b.buf.length - b.segPos) / unitBytes t n
    (if i < have_ then some ((b.buf.drop (b.segPos + unitOffset t n lane i - b.used)).take (bcnU t n)) else none, s)
  else
    match stgReadSpan (bcnArea t n + d.addr + unitOffset t n lane (slotsNow t n - b.base)) (bcnU t n) s with
    | (some u, s) => (some u, s)
    | (none, _) => (none, s)

/-- What the output of Beacon `n` to a lane gives in the slot that begins, and the state after its read. -/
def bcnOutput (n lane : Nat) (s : State) : BcnOut × State :=
  if !(bcnLanes s n).contains lane || bcnState s n == 0 || bcnState s n == 4 then (.idle, s)
  else if bcnState s n = 3 then
    match bcnUnitRead n lane s with
    | (some u, s) => (.unit u, s)
    | (none, s) => (.fill, s)
  else (.fill, s)

/-- The unit that an output stands for on a lane: FILL 0b00 gives electrical idle, 0b01 the last unit sent, 0b10 the fill unit
(R560). [log 68 DEDUCED] -/
def outUnit (s : State) (n : Nat) (x : XcvS) : BcnOut → Option (List Byte)
  | .idle => none
  | .unit b => some b
  | .fill => match s.get (F.BCN_CTRL_FILL n) with
    | 1 => x.txLast
    | 2 => some (s.bcnOf n).fill
    | _ => none

/-! ### Transmit (R471 to R473) -/

/-- Line bits as they are queued. -/
def lineQueue (l : List Bool) : List (Option Bool) := l.map some

/-- Electrical idle of a length. -/
def idleQueue (k : Nat) : List (Option Bool) := List.replicate k none

/-- At a word boundary a change of TX_SRC takes effect (R459). -/
def takeSource (s : State) (n : Nat) (x : XcvS) : XcvS :=
  if x.txPos = 0 && x.txLive != s.get (F.XCV_CTRL_TX_SRC n) then
    { x with txLive := s.get (F.XCV_CTRL_TX_SRC n), txQueue := [] }
  else x

/-- The next word of the fabric port, or the next unit of a Beacon, is taken when nothing is left of the one before (R461, R473). -/
def refill (s : State) (n : Nat) (o : BcnOut) (x : XcvS) : XcvS :=
  if !x.txQueue.isEmpty then x
  else if x.txLive = 1 then
    if clocked s 24 then
      let (l, x) := encodeUnits s n (unitsOfWord s n ((Config.imageLaneTx s.cfg.frames n).map (s.net 24))) x
      { x with txQueue := lineQueue l }
    else { x with txQueue := idleQueue (wordBits s n) }
  else if x.txLive = 2 then
    match outUnit s (n / 4) x o with
    | some u =>
      let (l, x) := encodeUnit s n u x
      { x with txQueue := lineQueue l, txLast := match o with | .unit b => some b | _ => x.txLast }
    | none => { x with txQueue := idleQueue (unitBits s n) }
  else x

/-- A bit of a PRBS pattern from the ones before it, bit 0 the latest: x^7 + x^6 + 1, x^9 + x^5 + 1, x^15 + x^14 + 1,
x^23 + x^18 + 1 and x^31 + x^28 + 1 (R475). [log 129 PRESUMED] -/
def prbsBit (patt : Nat) (st : BitVec 31) : Bool :=
  match patt with
  | 1 => st.getLsbD 6 ^^ st.getLsbD 5
  | 2 => st.getLsbD 8 ^^ st.getLsbD 4
  | 3 => st.getLsbD 14 ^^ st.getLsbD 13
  | 4 => st.getLsbD 22 ^^ st.getLsbD 17
  | 5 => st.getLsbD 30 ^^ st.getLsbD 27
  | _ => Config.noPattern patt st

/-- O.150 inverts the patterns of 15, 23 and 31 stages. [log 129 PRESUMED] -/
def prbsInverted (patt : Nat) : Bool := patt == 3 || patt == 4 || patt == 5

/-- A bit enters a register of the latest 31 bits. -/
def shiftIn (st : BitVec 31) (b : Bool) : BitVec 31 := (st <<< 1) ||| (if b then 1 else 0)

/-- Bits of the PRBS generator (R475). -/
def genBits (s : State) (n : Nat) : Nat → XcvS → List Bool × XcvS
  | 0, x => ([], x)
  | k + 1, x =>
    let patt := s.get (F.XCV_PRBS_GEN_PATT n)
    let b := prbsBit patt x.gen
    let (l, x) := genBits s n k { x with gen := shiftIn x.gen b }
    ((b ^^ prbsInverted patt ^^ s.flag (F.XCV_PRBS_GEN_INV n)) :: l, x)

/-- Symbol `i` of a nanosecond is sent (R471). -/
def sendSymbol (s : State) (n : Nat) (o : BcnOut) (i : Nat) (x : XcvS) : XcvS :=
  let k := symbolBits s n
  let x := refill s n o (takeSource s n x)
  let (v, x) : Option Nat × XcvS := match x.txLive with
    | 1 | 2 => (symbolOf (x.txQueue.take k), { x with txQueue := x.txQueue.drop k })
    | 3 => let (l, x) := genBits s n k x; (symbolOf (lineQueue l), x)
    | 4 => (if s.flag (F.XCV_STATUS_CDR_LOCK n) then some (Config.rxSymbol n s.clk.now i % 2 ^ k) else none, x)
    | _ => (none, x)
  { x with txOut := x.txOut ++ [v], txPos := (x.txPos + k) % wordBits s n }

/-- How far a lane's transmit clock moves in a nanosecond, in 1/64 ns, when elapsed TT moves by `d`: REF_SEL TT_1G follows TT (R448).
[log 68 DEDUCED] -/
def laneMoves (s : State) (n d : Nat) : Nat := if s.get (F.XCV_CTRL_REF_SEL n) = 1 && s.ttSource != 0 then d else 64

/-- A nanosecond of a lane's transmitter (R445). -/
def laneSend (n d : Nat) (s : State) : State :=
  let x := s.lane n
  let t := x.txRem + s.get (F.XCV_RATE_BAUD_KBD n) * laneMoves s n d
  let k := t / 64000000
  let runsOut := x.txLive == 2 && decide (x.txQueue.length < k * symbolBits s n)
  let (o, s) := if runsOut then bcnOutput (n / 4) n s else (.idle, s)
  modLane n (fun x => (List.range k).foldl (fun x i => sendSymbol s n o i x) { x with txOut := [], txRem := t % 64000000 }) s

/-! ### Receive (R460, R463, R472, R476, R477) -/

/-- The line bits that a lane receives in a nanosecond. -/
def lineReceived (s : State) (n : Nat) : List Bool :=
  (List.range (Config.rxCount n s.clk.now)).flatMap fun i =>
    symbolLine (s.flag (F.XCV_CFG_MOD n)) (Config.rxSymbol n s.clk.now i)

/-- One bit at the PRBS checker: it follows what it receives until it is locked, and its own sequence then (R476, R477).
[log 129 PRESUMED] -/
def checkBit (patt : Nat) (inv locked : Bool) (x : XcvS) (b : Bool) : XcvS :=
  let b := b ^^ inv ^^ prbsInverted patt
  let p := prbsBit patt x.chk
  if locked then
    let fresh := x.chkBits = 1024 && x.chkErrs < 32
    { x with
      chk := shiftIn x.chk p
      bits := x.bits + 1
      errs := if b = p then x.errs else BitVec.ofNat 32 (min (x.errs.toNat + 1) (2 ^ 32 - 1))
      chkBits := if fresh then 1 else x.chkBits + 1
      chkErrs := (if fresh then 0 else x.chkErrs) + b2n (b != p) }
  else { x with chk := shiftIn x.chk b, chkRun := if b = p then x.chkRun + 1 else 0 }

/-- The receive port has the locks that its words need (R460, R462). -/
def rxLocked (s : State) (n : Nat) : Bool := memberLocked s n

/-- Line bits that one word of the receive port takes: two 66-bit blocks take more under RS-FEC (R462). -/
def rxWordBits (s : State) (n : Nat) : Nat := if s.flag (F.XCV_CFG_FEC n) then 2 * codeUnitBits s n else wordBits s n

/-- Words of the receive port from line bits, by fuel; a block of an uncorrectable codeword has sync header 0b11 (R463). While the
static region is not Running they are discarded (R473). -/
def rxWords (s : State) (n : Nat) : Nat → XcvS → XcvS
  | 0, x => x
  | k + 1, x =>
    let w := rxWordBits s n
    if w = 0 || x.rxBits.length < w then x
    else
      let fec := s.flag (F.XCV_CFG_FEC n)
      let l := if fec then (List.range 132).map (Config.fecBit n s.clk.now) else x.rxBits.take w
      let (us, x) := decodeUnits s n (wordUnits s n) l x
      let us := us.zipIdx.map fun u => fecMarked (decide (u.2 < x.fecBad)) u.1
      let word := us.flatMap (wordOfUnit s n)
      rxWords s n k { x with
        rxBits := x.rxBits.drop w, fecBad := x.fecBad - wordUnits s n
        rxWord := if clocked s 24 then word else [] }

/-- A nanosecond of a lane's receiver. -/
def laneReceive (n : Nat) (s : State) : State :=
  if s.flag (F.XCV_STATUS_CDR_LOCK n) then
    let l := lineReceived s n
    let patt := s.get (F.XCV_PRBS_CHK_PATT n)
    let x := s.lane n
    let x := if s.flag (F.XCV_PRBS_CHK_EN n) then
        l.foldl (checkBit patt (s.flag (F.XCV_PRBS_CHK_INV n)) (s.flag (F.XCV_PRBS_STATUS_LOCKED n))) x
      else x
    let x := if rxLocked s n then rxWords s n l.length { x with rxBits := x.rxBits ++ l } else { x with rxBits := [] }
    modLane n (fun _ => x) s
  else s

/-- A nanosecond of the lanes that are Running, and of the Beacons that play; elapsed TT has moved by `d`. -/
def laneTick (d : Nat) (s : State) : State :=
  let s := forEach (List.range 16) (fun n s =>
    if bcnState s n = 3 then modBcn n (fun b => { b with ran := b.ran + laneMoves s (bcnLane s n) d }) s else s) s
  forEach (List.range 64) (fun n s => if (s.lane n).up then laneReceive n (laneSend n d s) else s) s

end Sys2Proof.Machine
end

