-- ==== Sys2Proof/Machine/Tap.lean ====
section
/-!
DEFINITION. Sys2Proof/Machine/Tap.lean: the JTAG port (R239, R954): the TAP controller of IEEE 1149.1 with its instruction,
bypass and boundary registers, and the debug request (R193).
-/

namespace Sys2Proof.Machine

/-- The TAP controller's next state at a rising edge of TCK (IEEE 1149.1). [log 125 PRESUMED] -/
def TapState.next (tms : Bool) : TapState → TapState
  | .reset => if tms then .reset else .idle
  | .idle => if tms then .selectDr else .idle
  | .selectDr => if tms then .selectIr else .captureDr
  | .captureDr => if tms then .exit1Dr else .shiftDr
  | .shiftDr => if tms then .exit1Dr else .shiftDr
  | .exit1Dr => if tms then .updateDr else .pauseDr
  | .pauseDr => if tms then .exit2Dr else .pauseDr
  | .exit2Dr => if tms then .updateDr else .shiftDr
  | .updateDr => if tms then .selectDr else .idle
  | .selectIr => if tms then .reset else .captureIr
  | .captureIr => if tms then .exit1Ir else .shiftIr
  | .shiftIr => if tms then .exit1Ir else .shiftIr
  | .exit1Ir => if tms then .updateIr else .pauseIr
  | .pauseIr => if tms then .exit2Ir else .pauseIr
  | .exit2Ir => if tms then .updateIr else .shiftIr
  | .updateIr => if tms then .selectDr else .idle

/-- The instruction selects the boundary register; BYPASS and every other one select the bypass bit. [log 125 PRESUMED] -/
def TapS.onBoundary (t : TapS) : Bool := t.ir != tapBypass && Config.tapBoundary t.ir

/-- What the capture states and the shift states do at the edge that ends their cycle; the levels that the boundary register
captures are given. [log 125 PRESUMED] -/
def TapS.act (pins : List Bool) (tdi : Bool) (t : TapS) : TapS :=
  match t.state with
  | .captureDr => { t with shift := if t.onBoundary then pins else [false] }
  | .captureIr =>
    { t with shift := (List.range tapBypass.length).map fun i => if i < 2 then i == 0 else Config.tapIrCapture i }
  | .shiftDr | .shiftIr => { t with shift := t.shift.drop 1 ++ [tdi], tdo := t.tdo ++ t.shift.take 1 }
  | _ => t

/-- What entering a state does: an update state latches, Test-Logic-Reset selects BYPASS. [log 125 PRESUMED] -/
def TapS.enter (t : TapS) : TapS :=
  match t.state with
  | .updateIr => { t with ir := t.shift }
  | .updateDr => if t.onBoundary then { t with boundary := t.shift } else t
  | .reset => { t with ir := tapBypass }
  | _ => t

/-- One cycle of TCK with the levels of TMS and TDI. -/
def TapS.clock (pins : List Bool) (x : Bool × Bool) (t : TapS) : TapS :=
  let t := t.act pins x.2
  { t with state := t.state.next x.1 }.enter

/-- A nanosecond of the port (R239, R954): where a cycle of TCK falls in it, the controller takes the levels of TMS and TDI, which
are the outside's; the levels that the boundary register captures are free. In deep sleep the port is without power.
[log 125 PRESUMED] -/
def tapTick (s : State) : State :=
  match Config.tapEdge s.clk.now with
  | some x =>
    if s.get F.PWR_STATUS_STATE = 2 then s
    else
      let pins := (List.range Config.tapBoundaryLength).map fun i => bitOf s.free i
      let s := s.draw
      { s with jtag := { s.jtag with tdo := [] }.clock pins x }
  | none => s

/-- JTAG_DEBUG_REQUEST (R193): what the port has shifted in asks for a Warm reset with cause DEBUG; the spec gives no code for such
a request. [log 125 PRESUMED] -/
def execJtagDebugRequest (s : State) : Out := .next (whenB s.rst.coreUp (requestWarm .debug) s)

end Sys2Proof.Machine
end

