-- ==== Sys2Proof/Machine/BackboneCmd.lean ====
section
/-!
DEFINITION. Sys2Proof/Machine/BackboneCmd.lean: the commands of the Backbone, of the memories behind it and of its register
target (13_backbone.md to 17_psiom_store.md), the tick, and how the answers reach their engines.
-/

namespace Sys2Proof.Machine

/-! ### Answers reach their engines -/

/-- Every answer that an engine consumes at once is consumed (R176, R571, R652), and a region whose port is idle goes on (R365). -/
def pump (s : State) : State :=
  let s := forEach (List.range 24) (fun r s => drainCheck (64 + r) s) (dmaAnswers s)
  let s := whenB (!s.fil.bulkTodo.isEmpty) bulkGo s
  forEach (List.range 16) bcnAnswers s

/-! ### A Shade halt (R825, R898) -/

/-- Steps 1 to 3 of a fence: locks stay with their owners. [log 101 DEDUCED] -/
def haltFence (m : Nat) (s : State) : State := muteWrites m (dropReads m (fenceNew m s))

/-- The failing accesses are answered at once. -/
def answerFailed (s : State) : State :=
  forEach (s.bb.bursts.filter (fun b => b.status != .ok))
    (fun b s => completeReq b.req.id b.status (if b.req.write then [] else gather b.req b.got) s) s

/-- Requests of the Filament that a halt leaves without an answer are answered HALTED (R186). [log 101 DEDUCED] -/
def bulksHalted (s : State) : State :=
  forEach s.bb.bursts (fun b s =>
    match b.req.origin with
    | .filBulk tag w a whole =>
      modBulk tag (fun x => { bulkWord w a .halted whole x with waiting := x.waiting - 1 }) s
    | _ => s) s

/-- Words of the Service Port that a halt leaves without an answer are answered HALTED (R281). [log 101 DEDUCED] -/
def svpHalted (s : State) : State :=
  let s := match s.svp.rd with
    | some f => match f.waiting with
      | some (l, _) => if allDone s l then svpReadWord s else svpReturn f .halted 0 (abandonReads l s)
      | none => s
    | none => s
  if s.svp.wrWait.isEmpty then s
  else if allDone s s.svp.wrWait then svpCommit s
  else svpWordDone .halted (abandonReads s.svp.wrWait s)

/-- Steps 2 and 3 of a halt: every master is fenced, committed writes finish, and memory goes to self-refresh.
[log 101 DEDUCED] -/
def haltStop (s : State) : State :=
  let s := svpHalted (filHalted (bulksHalted (filAnswers (pump (answerFailed s)))))
  let s := finishPortA (forEach allMasters haltFence s)
  forEach (List.range 8) selfRefreshNow s

/-- What follows every access: answers are consumed, and a halt takes its steps once its core cycle is over, so that every
failure of that cycle is counted (R825, R838). [log 101 DEDUCED] -/
def settle (s : State) : State :=
  let s := pump s
  if s.halted && !isFenced s 0 && (s.shd.halt.map (·.1)) != some s.clk.now then haltStop s else s

/-! ### The target of point 20 (R431 to R434, R613, R614, R666, R671, R843, R844) -/

/-- An access to a fabric slave window. [log 92 DEDUCED] -/
def slaveEnter (r : Req) (s : State) : State :=
  let port := (r.addr - 0x009000000000) / 0x80000000
  let reg := regionOfPort port
  let up := s.fabricOn && regionRunning s reg && (reg == 24 || !(s.rgnOf reg).clamped)
  if !up then completeReq r.id .unmapped [] s
  else if r.len < 4 then completeReq r.id .accessErr [] s
  else { s with fab := { s.fab with slv := s.fab.slv ++ [⟨port, r.id, s.clk.now⟩] } }

/-- An access to the window of Taper `n`, `off` bytes into it. -/
def taperEnterAt (n off : Nat) (r : Req) (s : State) : State :=
  match tprAccessStatus off r.len (!r.write || r.be.all id) with
  | .ok => modCore n (fun c => { c with access := c.access ++ [⟨r.id, off, r.write, r.data, r.len⟩] }) s
  | st => completeReq r.id st [] s

/-- An access to a Taper window. -/
def taperEnter (r : Req) (s : State) : State :=
  taperEnterAt ((r.addr - 0x00A000000000) / 0x100000) ((r.addr - 0x00A000000000) % 0x100000) r s

/-- An access to the store's read window. -/
def storeEnter (r : Req) (s : State) : State :=
  let a := r.addr - 0x00F800000000
  if r.write then completeReq r.id .busErr [] s
  else if psmReadLegal a r.len then { s with psm := { s.psm with reads := s.psm.reads ++ [⟨r.id, a, r.len⟩] } }
  else completeReq r.id .accessErr [] s

/-- An access to the register pages: each whole aligned word is one register access, and the first failure is the status
(R10, R118). -/
def pageEnter (r : Req) (s : State) : State :=
  if r.addr % 4 ≠ 0 ∨ r.len % 4 ≠ 0 then completeReq r.id .accessErr [] s
  else
    let step := fun (acc : Status × List Byte × State) (a : Nat) =>
      let i := a - r.addr
      if r.write then
        let be := (r.be.drop i).take 4
        let (st, s) := if be.any id then
            regWriteWord r.master a (be.all id) (BitVec.ofNat 32 (leAt r.data i 4)) acc.2.2
          else (.ok, acc.2.2)
        (if acc.1 = .ok then st else acc.1, [], s)
      else
        let (st, w, s) := regReadWord r.master a true acc.2.2
        (if acc.1 = .ok then st else acc.1, acc.2.1 ++ leBytes 4 w.toNat, s)
    let (st, b, s) := (wordAddrs r.addr r.len).foldl step (.ok, [], s)
    completeReq r.id st b s

/-- A request that point 20 has granted reaches its target (R971). -/
def registerTarget (r : Req) (s : State) : State :=
  let a := r.addr
  if 0x009000000000 ≤ a ∧ a < 0x00A000000000 then slaveEnter r s
  else if 0x00A000000000 ≤ a ∧ a < 0x00A000800000 then taperEnter r s
  else if isRegPage a then pageEnter r s
  else if 0x00F800000000 ≤ a ∧ a < 0x00F800800000 then storeEnter r s
  else completeReq r.id .unmapped [] s

/-! ### Requests (R665 to R674, R693) -/

/-- A burst that a master can present (R428, R665). -/
def burstLegal (write : Bool) (a len : Nat) (data : List Byte) (be : List Bool) : Bool :=
  decide (1 ≤ len ∧ a % 256 + len ≤ 256) && (!write || (data.length == len && be.length == len))

/-- A fabric master port holds at most 32 bursts of a kind (R429). -/
def portRoom (s : State) (m : Nat) (write : Bool) : Bool :=
  decide (m < 64) ||
    decide ((s.bb.bursts.filter (fun b => b.req.master == m && b.req.write == write)).length < 32)

/-- A master's request enters the Backbone. [log 92 DEDUCED] -/
def masterRequest (m : Nat) (write : Bool) (a len : Nat) (data : List Byte) (be : List Bool) (deadline : Option TT64)
    (panic : Bool) (s : State) : State :=
  if masterMay s m && burstLegal write a len data be && portRoom s m write then
    match masterGate s m a with
    | some e => s.answer (answerTo m) e 0
    | none =>
      let s := setPanicIn m panic s
      let d := if m < 4 then defaultDeadline s else (deadline.map fun t => (t.toNat : Int)).getD (defaultDeadline s)
      settle (bbIssueBe m write a data be len d (.fabric m) s)
  else s

/-! ### Lock-up (R690 to R692) -/

/-- The lock-up at point `k` is declared and its master recovered. [log 51 DEDUCED] -/
def declareLockup (k : Nat) (s : State) : State :=
  match lockedUp s k with
  | some r =>
    let m := r.master
    let s := recordLockup r s
    if m < 16 then tprLockup (m - 8) s
    else if m < 32 then raise 247 (unfence m (resetLantern (m - 16) s))
    else if m < 48 then raise 247 (unfence m (resetBeacon (m - 32) s))
    else if m < 88 && s.flag (F.RGN_CTRL_FAULT_RESET (m - 64)) then regionReset (m - 64) 6 s
    else drainCheck m s
  | none => s

/-! ### Locks (R701 to R704) -/

/-- An access of a master to a lock register: checked, done, answered. -/
def lockAccess (m a : Nat) (write : Bool) (act : State → Word × State) (s : State) : State :=
  if masterMay s m then
    match masterGate s m a with
    | some e => s.answer (answerTo m) e 0
    | none =>
      if rulesPass s m a write then
        let (w, s) := act s
        s.answer (answerTo m) .ok w
      else (recordDenied m a write s).answer (answerTo m) .denied 0
  else s

/-! ### Staging port B (R764 to R769) -/

/-- A near-side access of a Taper is served; what collided is tried again (R651). -/
def portBTurn (b : Nat) (s : State) : State :=
  match portBServe b s with
  | (none, s) => s
  | (some (r, st, data), s) =>
    let n := r.agent / 2
    let c := r.agent % 2
    if s.stg.portB.any (fun x => x.agent == r.agent) then
      if st = .ok then s else modChan n c (fun k => { k with err := some (k.err.getD st) }) s
    else
      let id := s.bb.nextId
      settle (pushReply ⟨id, .taper n c, st, data⟩ { s with bb := { s.bb with nextId := id + 1 } })

/-! ### Window reads of the store (R843, R855) -/

/-- The oldest read of the store window is served between pulses. [log 106 DEDUCED] -/
def storeRead (s : State) : State :=
  match s.psm.reads with
  | r :: l => if s.psm.cmd.isSome then s else psmServe r { s with psm := { s.psm with reads := l } }
  | [] => s

/-- A write to the store window (R844). -/
def storeWrite (m off : Nat) (s : State) : State :=
  let a := 0x00F800000000 + off
  if masterMay s m then
    match masterGate s m a with
    | some e => s.answer (answerTo m) e 0
    | none =>
      if rulesPass s m a true then s.answer (answerTo m) .busErr 0
      else (recordDenied m a true s).answer (answerTo m) .denied 0
  else s

/-! ### The tick -/

/-- One nanosecond with no command: a Shade halt of the cycle that ends takes its steps, a low FIL_WAKE_N wakes the downstream link, Tester Time advances, the system watchdog counts, the bring-up goes on, regions
that are Initializing come up, the fabric's logic has its clock edges, Beacon buffers drain.
[log 1 DESIGN CHOICE, log 5 DESIGN CHOICE, log 115 DESIGN CHOICE] -/
def tick (s : State) : State :=
  let s := if s.halted && !isFenced s 0 then haltStop s else s
  let t := timeTick (wakeFollow s)
  let d := t.tt.run - s.tt.run
  let s := logicTick (laneTick d (cfgTick (bringTick (wdogTick d t))))
  tapTick (if s.works then forEach (List.range 16) (fun n s => bcnPanic n (fifoTick n s)) s else s)

/-! ### Commands -/

/-- BACKBONE_REQUEST (R665, R669, R672 to R674, R693). [log 117 DESIGN CHOICE] -/
def execBackboneRequest (m : Fin 128) (write : Bool) (addr : LocalAddr) (len : Nat) (data : List Byte) (be : List Bool)
    (deadline : Option TT64) (panic : Bool) (s : State) : Out :=
  .next (masterRequest m.val write addr.toNat len data be deadline panic s)

/-- ARBITRATION_DECISION (R670, R671, R679, R680). -/
def execArbitrationDecision (k : Fin 21) (s : State) : Out := .next (settle (decidePoint registerTarget k.val s))

/-- GRANT_REVOCATION (R682 to R686). -/
def execGrantRevocation (k : Fin 21) (s : State) : Out := .next (settle (revokeGrant registerTarget k.val s))

/-- WRITE_COMMIT (R668). -/
def execWriteCommit (k : Fin 21) (s : State) : Out := .next (settle (commitWrite registerTarget k.val s))

/-- ARBITRATION_WINDOW_EXPIRY (R675). -/
def execArbitrationWindowExpiry (k : Fin 21) (s : State) : Out := .next (windowRoll k.val s)

/-- POINT_CONFIG_WRITE (R681). -/
def execPointConfigWrite (p : Partner) (k : Fin 21) (quota : Bool) (v : Word) (s : State) : Out :=
  .next (
    let a := if quota then R.BB_PT_QUOTA k.val else R.BB_PT_CTRL k.val
    viaPartner p a (bbWrite p.master a v) s)

/-- BACKBONE_LOCKUP (R690, R692). -/
def execBackboneLockup (k : Fin 21) (s : State) : Out := .next (whenB s.works (declareLockup k.val) s)

/-- BB_RULE_COMMIT (R697): BB_RULE_COMMIT written with GO. -/
def execBbRuleCommit (p : Partner) (v : Word) (s : State) : Out :=
  .next (viaPartner p R.BB_RULE_COMMIT (bbWrite p.master R.BB_RULE_COMMIT (v ||| 1)) s)

/-- RULES_DRAINED (R700). -/
def execRulesDrained (s : State) : Out := .next (rulesDrained s)

/-- LOCK_ACQUIRE (R701, R702). -/
def execLockAcquire (m : Fin 128) (k : Fin 64) (s : State) : Out :=
  .next (lockAccess m.val (R.BB_LOCK k.val) false (lockRead m.val k.val) s)

/-- LOCK_RELEASE (R703): BB_LOCKk written with RELEASE. -/
def execLockRelease (m : Fin 128) (k : Fin 64) (v : Word) (s : State) : Out :=
  .next (lockAccess m.val (R.BB_LOCK k.val) true (fun s => (0, lockWrite m.val k.val (v ||| 1) s)) s)

/-- LOCK_FORCE (R704): BB_LOCKk written with FORCE. -/
def execLockForce (m : Fin 128) (k : Fin 64) (v : Word) (s : State) : Out :=
  .next (lockAccess m.val (R.BB_LOCK k.val) true (fun s => (0, lockWrite m.val k.val (v ||| 2) s)) s)

/-- READ_BURST_COMPLETE (R671). -/
def execReadBurstComplete (s : State) : Out := .next (settle (answerRead s))

/-- MEMORY_LINE_READ (R753, R816 to R819). -/
def execMemoryLineRead (sc : Fin 8) (s : State) : Out :=
  .next (settle (performService sc.val (fun r => !r.write) s))

/-- MEMORY_PARTIAL_WRITE (R755 to R757). -/
def execMemoryPartialWrite (sc : Fin 8) (s : State) : Out :=
  .next (settle (performService sc.val (fun r => r.write && !allOn r.be) s))

/-- MEMORY_LINE_WRITE (R758, R818). -/
def execMemoryLineWrite (sc : Fin 8) (s : State) : Out :=
  .next (settle (performService sc.val (fun r => r.write && allOn r.be) s))

/-- STG_PORT_A_ACCESS (R763, R766, R773, R777): the access of the bank group that has waited longest is performed, unless
it is an alias write. -/
def execStgPortAAccess (g : Fin 12) (s : State) : Out :=
  .next (settle (portAServe g.val (fun r => !(r.write && isAlias r.addr)) s))

/-- STG_PORT_B_ACCESS (R764 to R769). -/
def execStgPortBAccess (b : Fin 48) (s : State) : Out := .next (portBTurn b.val s)

/-- STG_BIT_SET (R770 to R774). -/
def execStgBitSet (g : Fin 12) (s : State) : Out :=
  .next (settle (portAServe g.val (fun r => r.write && portAOp r.addr == .setBits) s))

/-- STG_BIT_CLEAR (R770 to R774). -/
def execStgBitClear (g : Fin 12) (s : State) : Out :=
  .next (settle (portAServe g.val (fun r => r.write && portAOp r.addr == .clearBits) s))

/-- FABRIC_SLAVE_ACCESS (R431, R433, R434): the fabric logic behind a slave port answers the oldest access that waits
there, with its data for a read; while the region is not Running the access ends with UNMAPPED. [log 117 DESIGN CHOICE] -/
def execFabricSlaveAccess (port : Fin 32) (data : List Byte) (s : State) : Out :=
  .next (match s.fab.slv.find? (fun a => a.port == port.val) with
    | some a =>
      let s := { s with fab := { s.fab with slv := s.fab.slv.erase a } }
      let len := ((s.bb.bursts.find? (fun b => b.req.id == a.id)).map (fun b => if b.req.write then 0 else b.req.len)).getD 0
      settle (if regionRunning s (regionOfPort port.val) then completeReq a.id .ok (padTo len data) s
        else completeReq a.id .unmapped [] s)
    | none => s)

/-- FABRIC_SLAVE_TIMEOUT (R432): 10 us without an answer. -/
def execFabricSlaveTimeout (port : Fin 32) (s : State) : Out :=
  .next (match s.fab.slv.find? (fun a => a.port == port.val) with
    | some a =>
      if a.since + 10000 ≤ s.clk.now then
        let s := { s with fab := { s.fab with slv := s.fab.slv.erase a } }
        settle (completeReq a.id .busErr [] (s.incSat (F.FAB_SLV_TIMEOUT_TIMEOUT port.val)))
      else s
    | none => s)

/-- PSM_PROGRAM_PULSE_DONE (R849). -/
def execPsmProgramPulseDone (ok : Bool) (s : State) : Out := .next (settle (psmPulseDone ok s))

/-- PSM_ERASE_SLICE_END (R850). -/
def execPsmEraseSliceEnd (ok : Bool) (s : State) : Out := .next (settle (psmSliceEnd ok s))

/-- PSM_WINDOW_READ (R843, R845, R855). -/
def execPsmWindowRead (s : State) : Out := .next (settle (storeRead s))

/-- PSM_WINDOW_WRITE (R844). -/
def execPsmWindowWrite (m : Fin 128) (addr : BitVec 23) (s : State) : Out := .next (storeWrite m.val addr.toNat s)

end Sys2Proof.Machine
end

