-- ==== Sys2Proof/Machine/TaperCmd.lean ====
section
/-!
DEFINITION. Sys2Proof/Machine/TaperCmd.lean: the commands of the Taper cores: one for each instruction, and those of the
host, the memories and the watchdog.
-/

namespace Sys2Proof.Machine

/-! ### Instructions -/

/-- NOP (R635): core `n` executes it when it fetches it. -/
def execTaperNop (n : Fin 8) (s : State) : Out := .next (tprRow n.val (· == .nop) s)

/-- HALT (R635): core `n` executes it when it fetches it. -/
def execTaperHalt (n : Fin 8) (s : State) : Out := .next (tprRow n.val (· == .halt) s)

/-- BKPT (R635): core `n` executes it when it fetches it. -/
def execTaperBkpt (n : Fin 8) (s : State) : Out := .next (tprRow n.val (· == .bkpt) s)

/-- J (R635): core `n` executes it when it fetches it. -/
def execTaperJ (n : Fin 8) (s : State) : Out :=
  .next (tprRow n.val (fun i => match i with | .j .. => true | _ => false) s)

/-- CALL (R635): core `n` executes it when it fetches it. -/
def execTaperCall (n : Fin 8) (s : State) : Out :=
  .next (tprRow n.val (fun i => match i with | .call .. => true | _ => false) s)

/-- RET (R635): core `n` executes it when it fetches it. -/
def execTaperRet (n : Fin 8) (s : State) : Out :=
  .next (tprRow n.val (fun i => match i with | .ret .. => true | _ => false) s)

/-- JR (R635): core `n` executes it when it fetches it. -/
def execTaperJr (n : Fin 8) (s : State) : Out :=
  .next (tprRow n.val (fun i => match i with | .jr .. => true | _ => false) s)

/-- LOOP (R635 to R637): core `n` executes it when it fetches it. -/
def execTaperLoop (n : Fin 8) (s : State) : Out :=
  .next (tprRow n.val (fun i => match i with | .loop .. => true | _ => false) s)

/-- LOOPR (R635 to R637): core `n` executes it when it fetches it. -/
def execTaperLoopr (n : Fin 8) (s : State) : Out :=
  .next (tprRow n.val (fun i => match i with | .loopr .. => true | _ => false) s)

/-- LEAVE (R635): core `n` executes it when it fetches it. -/
def execTaperLeave (n : Fin 8) (s : State) : Out := .next (tprRow n.val (· == .leave) s)

/-- WAITEV (R635, R647): core `n` executes it when it fetches it. -/
def execTaperWaitev (n : Fin 8) (s : State) : Out :=
  .next (tprRow n.val (fun i => match i with | .waitev .. => true | _ => false) s)

/-- EVEND (R635, R648): core `n` executes it when it fetches it. -/
def execTaperEvend (n : Fin 8) (s : State) : Out :=
  .next (tprRow n.val (fun i => match i with | .evend .. => true | _ => false) s)

/-- SIGNAL (R635): core `n` executes it when it fetches it. -/
def execTaperSignal (n : Fin 8) (s : State) : Out :=
  .next (tprRow n.val (fun i => match i with | .signal .. => true | _ => false) s)

/-- WDOG (R635, R653): core `n` executes it when it fetches it. -/
def execTaperWdog (n : Fin 8) (s : State) : Out := .next (tprRow n.val (· == .wdog) s)

/-- MODE (R635): core `n` executes it when it fetches it. -/
def execTaperMode (n : Fin 8) (s : State) : Out :=
  .next (tprRow n.val (fun i => match i with | .mode .. => true | _ => false) s)

/-- DMA (R635, R649): core `n` executes it when it fetches it. -/
def execTaperDma (n : Fin 8) (s : State) : Out :=
  .next (tprRow n.val (fun i => match i with | .dma .. => true | _ => false) s)

/-- DMAW (R635): core `n` executes it when it fetches it. -/
def execTaperDmaw (n : Fin 8) (s : State) : Out :=
  .next (tprRow n.val (fun i => match i with | .dmaw .. => true | _ => false) s)

/-- MOVI (R635): core `n` executes it when it fetches it. -/
def execTaperMovi (n : Fin 8) (s : State) : Out :=
  .next (tprRow n.val (fun i => match i with | .movi .. => true | _ => false) s)

/-- MOV (R635): core `n` executes it when it fetches it. -/
def execTaperMov (n : Fin 8) (s : State) : Out :=
  .next (tprRow n.val (fun i => match i with | .mov .. => true | _ => false) s)

/-- LD (R635): core `n` executes it when it fetches it. -/
def execTaperLd (n : Fin 8) (s : State) : Out :=
  .next (tprRow n.val (fun i => match i with | .ld .. => true | _ => false) s)

/-- ST (R635): core `n` executes it when it fetches it. -/
def execTaperSt (n : Fin 8) (s : State) : Out :=
  .next (tprRow n.val (fun i => match i with | .st .. => true | _ => false) s)

/-- LDI (R635): core `n` executes it when it fetches it. -/
def execTaperLdi (n : Fin 8) (s : State) : Out :=
  .next (tprRow n.val (fun i => match i with | .ldi .. => true | _ => false) s)

/-- STI (R635): core `n` executes it when it fetches it. -/
def execTaperSti (n : Fin 8) (s : State) : Out :=
  .next (tprRow n.val (fun i => match i with | .sti .. => true | _ => false) s)

/-- LDP (R635): core `n` executes it when it fetches it. -/
def execTaperLdp (n : Fin 8) (s : State) : Out :=
  .next (tprRow n.val (fun i => match i with | .ldp .. => true | _ => false) s)

/-- STP (R635, R643): core `n` executes it when it fetches it. -/
def execTaperStp (n : Fin 8) (s : State) : Out :=
  .next (tprRow n.val (fun i => match i with | .stp .. => true | _ => false) s)

/-- LEA (R635): core `n` executes it when it fetches it. -/
def execTaperLea (n : Fin 8) (s : State) : Out :=
  .next (tprRow n.val (fun i => match i with | .lea .. => true | _ => false) s)

/-- EXT (R619, R635): core `n` executes it when it fetches it. -/
def execTaperExt (n : Fin 8) (s : State) : Out :=
  .next (tprRow n.val (fun i => match i with | .ext .. => true | _ => false) s)

/-- PACK (R618, R635): core `n` executes it when it fetches it. -/
def execTaperPack (n : Fin 8) (s : State) : Out :=
  .next (tprRow n.val (fun i => match i with | .pack .. => true | _ => false) s)

/-- GETG (R618, R635): core `n` executes it when it fetches it. -/
def execTaperGetg (n : Fin 8) (s : State) : Out :=
  .next (tprRow n.val (fun i => match i with | .getg .. => true | _ => false) s)

/-- PUTG (R618, R635): core `n` executes it when it fetches it. -/
def execTaperPutg (n : Fin 8) (s : State) : Out :=
  .next (tprRow n.val (fun i => match i with | .putg .. => true | _ => false) s)

/-- PAR (R635): core `n` executes it when it fetches it. -/
def execTaperPar (n : Fin 8) (s : State) : Out :=
  .next (tprRow n.val (fun i => match i with | .par .par _ => true | _ => false) s)

/-- MUL (R635): core `n` executes it when it fetches it. -/
def execTaperMul (n : Fin 8) (s : State) : Out :=
  .next (tprRow n.val (fun i => match i with | .par .mul _ => true | _ => false) s)

/-- MAC (R635): core `n` executes it when it fetches it. -/
def execTaperMac (n : Fin 8) (s : State) : Out :=
  .next (tprRow n.val (fun i => match i with | .par .mac _ => true | _ => false) s)

/-- MSB (R635): core `n` executes it when it fetches it. -/
def execTaperMsb (n : Fin 8) (s : State) : Out :=
  .next (tprRow n.val (fun i => match i with | .par .msb _ => true | _ => false) s)

/-- MACRN (R635): core `n` executes it when it fetches it. -/
def execTaperMacrn (n : Fin 8) (s : State) : Out :=
  .next (tprRow n.val (fun i => match i with | .par .macrn _ => true | _ => false) s)

/-- MACMX (R635): core `n` executes it when it fetches it. -/
def execTaperMacmx (n : Fin 8) (s : State) : Out :=
  .next (tprRow n.val (fun i => match i with | .par .macmx _ => true | _ => false) s)

/-- ADDH (R635): core `n` executes it when it fetches it. -/
def execTaperAddh (n : Fin 8) (s : State) : Out :=
  .next (tprRow n.val (fun i => match i with | .par .addh _ => true | _ => false) s)

/-- SUBH (R635): core `n` executes it when it fetches it. -/
def execTaperSubh (n : Fin 8) (s : State) : Out :=
  .next (tprRow n.val (fun i => match i with | .par .subh _ => true | _ => false) s)

/-- ADDA (R635): core `n` executes it when it fetches it. -/
def execTaperAdda (n : Fin 8) (s : State) : Out :=
  .next (tprRow n.val (fun i => match i with | .adda .. => true | _ => false) s)

/-- SUBA (R635): core `n` executes it when it fetches it. -/
def execTaperSuba (n : Fin 8) (s : State) : Out :=
  .next (tprRow n.val (fun i => match i with | .suba .. => true | _ => false) s)

/-- ZERO (R635): core `n` executes it when it fetches it. -/
def execTaperZero (n : Fin 8) (s : State) : Out :=
  .next (tprRow n.val (fun i => match i with | .zero .. => true | _ => false) s)

/-- NEG (R635): core `n` executes it when it fetches it. -/
def execTaperNeg (n : Fin 8) (s : State) : Out :=
  .next (tprRow n.val (fun i => match i with | .neg .. => true | _ => false) s)

/-- ABS (R635): core `n` executes it when it fetches it. -/
def execTaperAbs (n : Fin 8) (s : State) : Out :=
  .next (tprRow n.val (fun i => match i with | .abs .. => true | _ => false) s)

/-- ROUND (R635): core `n` executes it when it fetches it. -/
def execTaperRound (n : Fin 8) (s : State) : Out :=
  .next (tprRow n.val (fun i => match i with | .round .. => true | _ => false) s)

/-- CLIP (R635): core `n` executes it when it fetches it. -/
def execTaperClip (n : Fin 8) (s : State) : Out :=
  .next (tprRow n.val (fun i => match i with | .clip .. => true | _ => false) s)

/-- SHA (R635): core `n` executes it when it fetches it. -/
def execTaperSha (n : Fin 8) (s : State) : Out :=
  .next (tprRow n.val (fun i => match i with | .sha .. => true | _ => false) s)

/-- SHAV (R635): core `n` executes it when it fetches it. -/
def execTaperShav (n : Fin 8) (s : State) : Out :=
  .next (tprRow n.val (fun i => match i with | .shav .. => true | _ => false) s)

/-- NORM (R635): core `n` executes it when it fetches it. -/
def execTaperNorm (n : Fin 8) (s : State) : Out :=
  .next (tprRow n.val (fun i => match i with | .norm .. => true | _ => false) s)

/-- CMPA (R635): core `n` executes it when it fetches it. -/
def execTaperCmpa (n : Fin 8) (s : State) : Out :=
  .next (tprRow n.val (fun i => match i with | .cmpa .. => true | _ => false) s)

/-- MOVA (R635): core `n` executes it when it fetches it. -/
def execTaperMova (n : Fin 8) (s : State) : Out :=
  .next (tprRow n.val (fun i => match i with | .mova .. => true | _ => false) s)

/-- ADD (R635): core `n` executes it when it fetches it. -/
def execTaperAdd (n : Fin 8) (s : State) : Out :=
  .next (tprRow n.val (fun i => match i with | .add .. => true | _ => false) s)

/-- SUB (R635): core `n` executes it when it fetches it. -/
def execTaperSub (n : Fin 8) (s : State) : Out :=
  .next (tprRow n.val (fun i => match i with | .sub .. => true | _ => false) s)

/-- AND (R635): core `n` executes it when it fetches it. -/
def execTaperAnd (n : Fin 8) (s : State) : Out :=
  .next (tprRow n.val (fun i => match i with | .and .. => true | _ => false) s)

/-- OR (R635): core `n` executes it when it fetches it. -/
def execTaperOr (n : Fin 8) (s : State) : Out :=
  .next (tprRow n.val (fun i => match i with | .or .. => true | _ => false) s)

/-- XOR (R635): core `n` executes it when it fetches it. -/
def execTaperXor (n : Fin 8) (s : State) : Out :=
  .next (tprRow n.val (fun i => match i with | .xor .. => true | _ => false) s)

/-- SHL (R635): core `n` executes it when it fetches it. -/
def execTaperShl (n : Fin 8) (s : State) : Out :=
  .next (tprRow n.val (fun i => match i with | .shl .. => true | _ => false) s)

/-- SHR (R635): core `n` executes it when it fetches it. -/
def execTaperShr (n : Fin 8) (s : State) : Out :=
  .next (tprRow n.val (fun i => match i with | .shr .. => true | _ => false) s)

/-- SHRA (R635): core `n` executes it when it fetches it. -/
def execTaperShra (n : Fin 8) (s : State) : Out :=
  .next (tprRow n.val (fun i => match i with | .shra .. => true | _ => false) s)

/-- ADDI (R635): core `n` executes it when it fetches it. -/
def execTaperAddi (n : Fin 8) (s : State) : Out :=
  .next (tprRow n.val (fun i => match i with | .addi .. => true | _ => false) s)

/-- CMP (R635): core `n` executes it when it fetches it. -/
def execTaperCmp (n : Fin 8) (s : State) : Out :=
  .next (tprRow n.val (fun i => match i with | .cmp .. => true | _ => false) s)

/-- BREV (R635): core `n` executes it when it fetches it. -/
def execTaperBrev (n : Fin 8) (s : State) : Out :=
  .next (tprRow n.val (fun i => match i with | .brev .. => true | _ => false) s)

/-- POPC (R635): core `n` executes it when it fetches it. -/
def execTaperPopc (n : Fin 8) (s : State) : Out :=
  .next (tprRow n.val (fun i => match i with | .popc .. => true | _ => false) s)

/-- ILLEGAL_INSTRUCTION (R630). -/
def execTaperIllegal (n : Fin 8) (s : State) : Out := .next (tprIllegal n.val s)

/-! ### Host commands -/

/-- TAPER_RUN (R646): TPRn_CTRL written with RUN. -/
def execTaperRun (p : Partner) (n : Fin 8) (v : Word) (s : State) : Out :=
  .next (viaPartner p (R.TPR_CTRL n.val) (tprCtrlWrite n.val (v ||| 0x80000000)) s)

/-- TAPER_HOST_HALT (R646): TPRn_CTRL written with HALT. -/
def execTaperHostHalt (p : Partner) (n : Fin 8) (v : Word) (s : State) : Out :=
  .next (viaPartner p (R.TPR_CTRL n.val) (tprCtrlWrite n.val (v ||| 0x40000000)) s)

/-- TAPER_STEP (R646): TPRn_CTRL written with STEP. -/
def execTaperStep (p : Partner) (n : Fin 8) (v : Word) (s : State) : Out :=
  .next (viaPartner p (R.TPR_CTRL n.val) (tprCtrlWrite n.val (v ||| 0x20000000)) s)

/-- TAPER_DOORBELL (R647, R662): TPRn_MAILBOX written. -/
def execTaperDoorbell (p : Partner) (n : Fin 8) (v : Word) (s : State) : Out :=
  .next (viaPartner p (R.TPR_MAILBOX n.val) (tprWrite (R.TPR_MAILBOX n.val) (v ||| 1)) s)

/-- TAPER_STATE_WRITE (R664): TPRn_PC, a TPRn_REGr or half of an accumulator written. -/
def execTaperStateWrite (p : Partner) (n : Fin 8) (which : Fin 45) (v : Word) (s : State) : Out :=
  .next (viaPartner p (R.TPR_CTRL n.val) (tprStateWrite n.val which.val v) s)

/-! ### Memories, DMA and the watchdog -/

/-- TAPER_MEMORY_ACCESS (R615): the access that has waited longest is served. -/
def execTaperMemoryAccess (n : Fin 8) (s : State) : Out :=
  .next (match (s.core n.val).access with
    | x :: l => dmaAnswers (tprServe n.val x (modCore n.val (fun c => { c with access := l }) s))
    | [] => s)

/-- DMA_DESCRIPTOR_COMPLETE (R652): every byte of the descriptor has been committed at its destination. -/
def execDmaDescriptorComplete (n : Fin 8) (c : Fin 2) (s : State) : Out :=
  .next (
    let s := dmaAnswers s
    let k := s.chan n.val c.val
    if s.works && k.busy && k.issued == k.done && decide (k.len ≤ k.done) &&
        !(s.stg.portB.any fun r => r.agent == 2 * n.val + c.val) then dmaFinish n.val c.val s else s)

/-- TAPER_WATCHDOG_EXPIRY (R653, R654). -/
def execTaperWatchdogExpiry (n : Fin 8) (s : State) : Out :=
  .next (
    let l := s.get (F.TPR_WDOG_LIMIT_US n.val)
    if s.works && tprState s n.val = 1 && l != 0 && decide (1000 * l ≤ tprCounted s n.val) then tprLockup n.val s else s)

end Sys2Proof.Machine
end

