-- ==== Sys2Proof/Machine/Dispatch.lean ====
section
/-!
DEFINITION. Sys2Proof/Machine/Dispatch.lean: the command's meaning, one arm for each constructor.
-/

namespace Sys2Proof.Machine

def exec (i : Instr) (s : State) : Host.Outcome State Fault Refusal :=
  match i with
  | .registerWrite p addr whole v => Sys2Proof.Machine.execRegisterWrite p addr whole v s
  | .ttNowLoRead p => Sys2Proof.Machine.execTtNowLoRead p s
  | .ttSourceSelect p v refKhz => Sys2Proof.Machine.execTtSourceSelect p v refKhz s
  | .ttSyncArm p v => Sys2Proof.Machine.execTtSyncArm p v s
  | .ttSyncEdge => Sys2Proof.Machine.execTtSyncEdge s
  | .ttRefLossOfLock => Sys2Proof.Machine.execTtRefLossOfLock s
  | .ttRefRelock refKhz => Sys2Proof.Machine.execTtRefRelock refKhz s
  | .syncWordsMissed => Sys2Proof.Machine.execSyncWordsMissed s
  | .ttSlewStart p rate => Sys2Proof.Machine.execTtSlewStart p rate s
  | .ttStepArm p rate => Sys2Proof.Machine.execTtStepArm p rate s
  | .ttAdjCancel p rate step go => Sys2Proof.Machine.execTtAdjCancel p rate step go s
  | .ttSlewComplete => Sys2Proof.Machine.execTtSlewComplete s
  | .ttStepApply => Sys2Proof.Machine.execTtStepApply s
  | .ttWrap => Sys2Proof.Machine.execTtWrap s
  | .lscEnable p v => Sys2Proof.Machine.execLscEnable p v s
  | .lscLoRead p => Sys2Proof.Machine.execLscLoRead p s
  | .pilotComparatorEnable p n v => Sys2Proof.Machine.execPilotComparatorEnable p n v s
  | .pilotMatchValueWrite p n high v => Sys2Proof.Machine.execPilotMatchValueWrite p n high v s
  | .pilotTtMatch n => Sys2Proof.Machine.execPilotTtMatch n s
  | .pilotAnalogCrossing n level => Sys2Proof.Machine.execPilotAnalogCrossing n level s
  | .pilotWakeEdge level => Sys2Proof.Machine.execPilotWakeEdge level s
  | .badLinkWord port bytes => Sys2Proof.Machine.execBadLinkWord port bytes s
  | .train port lane ready sender credits => Sys2Proof.Machine.execTrain port lane ready sender credits s
  | .linkActive port => Sys2Proof.Machine.execLinkActive port s
  | .linkSilenceTimeout port => Sys2Proof.Machine.execLinkSilenceTimeout port s
  | .retrainUs p v => Sys2Proof.Machine.execRetrainUs p v s
  | .retrainDs p v => Sys2Proof.Machine.execRetrainDs p v s
  | .linkTrainTimeout port => Sys2Proof.Machine.execLinkTrainTimeout port s
  | .packetReceive port vc seq words bytes crc => Sys2Proof.Machine.execPacketReceive port vc seq words bytes crc s
  | .packetForwardUpstream => Sys2Proof.Machine.execPacketForwardUpstream s
  | .packetTransmit port => Sys2Proof.Machine.execPacketTransmit port s
  | .ackSend port => Sys2Proof.Machine.execAckSend port s
  | .ack port seq => Sys2Proof.Machine.execAck port seq s
  | .nak port seq => Sys2Proof.Machine.execNak port seq s
  | .ackTimeout port => Sys2Proof.Machine.execAckTimeout port s
  | .credit port credits => Sys2Proof.Machine.execCredit port credits s
  | .creditSend port => Sys2Proof.Machine.execCreditSend port s
  | .rdReq => Sys2Proof.Machine.execRdReq s
  | .rdRsp => Sys2Proof.Machine.execRdRsp s
  | .wrReq => Sys2Proof.Machine.execWrReq s
  | .wrRsp => Sys2Proof.Machine.execWrRsp s
  | .bulkWr => Sys2Proof.Machine.execBulkWr s
  | .bulkRsp => Sys2Proof.Machine.execBulkRsp s
  | .bulkRd => Sys2Proof.Machine.execBulkRd s
  | .enumPkt => Sys2Proof.Machine.execEnumPkt s
  | .enumTimeout => Sys2Proof.Machine.execEnumTimeout s
  | .enumWait => Sys2Proof.Machine.execEnumWait s
  | .own => Sys2Proof.Machine.execOwn s
  | .statReq => Sys2Proof.Machine.execStatReq s
  | .chainReset => Sys2Proof.Machine.execChainReset s
  | .syncPairSend => Sys2Proof.Machine.execSyncPairSend s
  | .syncPair hops flags tt => Sys2Proof.Machine.execSyncPair hops flags tt s
  | .stepTriple amount instant => Sys2Proof.Machine.execStepTriple amount instant s
  | .echoMeasurement => Sys2Proof.Machine.execEchoMeasurement s
  | .echoReq tag reserved => Sys2Proof.Machine.execEchoReq tag reserved s
  | .echoRsp tag turnaround => Sys2Proof.Machine.execEchoRsp tag turnaround s
  | .dsPm p v => Sys2Proof.Machine.execDsPm p v s
  | .dozeReq => Sys2Proof.Machine.execDozeReq s
  | .sleepReq => Sys2Proof.Machine.execSleepReq s
  | .accept => Sys2Proof.Machine.execAccept s
  | .refuse => Sys2Proof.Machine.execRefuse s
  | .filWakeNLow low => Sys2Proof.Machine.execFilWakeNLow low s
  | .corePorRelease => Sys2Proof.Machine.execCorePorRelease s
  | .resetNLow ns => Sys2Proof.Machine.execResetNLow ns s
  | .resetNRise => Sys2Proof.Machine.execResetNRise s
  | .warmReset => Sys2Proof.Machine.execWarmReset s
  | .deferredReset => Sys2Proof.Machine.execDeferredReset s
  | .startTimeout => Sys2Proof.Machine.execStartTimeout s
  | .rstEngine p v => Sys2Proof.Machine.execRstEngine p v s
  | .engineResetComplete => Sys2Proof.Machine.execEngineResetComplete s
  | .rstCtrl p v => Sys2Proof.Machine.execRstCtrl p v s
  | .nlExit p v => Sys2Proof.Machine.execNlExit p v s
  | .rstStartOk p v => Sys2Proof.Machine.execRstStartOk p v s
  | .brownoutWarning => Sys2Proof.Machine.execBrownoutWarning s
  | .bowSelfRefresh => Sys2Proof.Machine.execBowSelfRefresh s
  | .retentionRecordWrite => Sys2Proof.Machine.execRetentionRecordWrite s
  | .bowRecover => Sys2Proof.Machine.execBowRecover s
  | .vccCoreBrownout => Sys2Proof.Machine.execVccCoreBrownout s
  | .railFailure => Sys2Proof.Machine.execRailFailure s
  | .pilotPowerFail => Sys2Proof.Machine.execPilotPowerFail s
  | .pilotPorRelease => Sys2Proof.Machine.execPilotPorRelease s
  | .standby p v => Sys2Proof.Machine.execStandby p v s
  | .run p v => Sys2Proof.Machine.execRun p v s
  | .standbyExitComplete => Sys2Proof.Machine.execStandbyExitComplete s
  | .deep p v => Sys2Proof.Machine.execDeep p v s
  | .deepWake => Sys2Proof.Machine.execDeepWake s
  | .svpRd header address => Sys2Proof.Machine.execSvpRd header address s
  | .svpReadWordReturn => Sys2Proof.Machine.execSvpReadWordReturn s
  | .svpReadTimeout => Sys2Proof.Machine.execSvpReadTimeout s
  | .svpWr header words => Sys2Proof.Machine.execSvpWr header words s
  | .svpWriteWordCommit => Sys2Proof.Machine.execSvpWriteWordCommit s
  | .svpStatus header => Sys2Proof.Machine.execSvpStatus header s
  | .svpTake => Sys2Proof.Machine.execSvpTake s
  | .svpFrameRejected header words byteCount => Sys2Proof.Machine.execSvpFrameRejected header words byteCount s
  | .bfpEnable p v => Sys2Proof.Machine.execBfpEnable p v s
  | .bfpCmd p v => Sys2Proof.Machine.execBfpCmd p v s
  | .bfpCommandComplete data => Sys2Proof.Machine.execBfpCommandComplete data s
  | .bfpReadStrobeTimeout => Sys2Proof.Machine.execBfpReadStrobeTimeout s
  | .cfgGo p v => Sys2Proof.Machine.execCfgGo p v s
  | .cfgFifoWrite p v => Sys2Proof.Machine.execCfgFifoWrite p v s
  | .configBlockCheck flash => Sys2Proof.Machine.execConfigBlockCheck flash s
  | .configFrameWrite => Sys2Proof.Machine.execConfigFrameWrite s
  | .configDigestCheck => Sys2Proof.Machine.execConfigDigestCheck s
  | .configLoadError => Sys2Proof.Machine.execConfigLoadError s
  | .cfgAbort p v => Sys2Proof.Machine.execCfgAbort p v s
  | .cfgRelease p v => Sys2Proof.Machine.execCfgRelease p v s
  | .configReloadStart => Sys2Proof.Machine.execConfigReloadStart s
  | .configLockup => Sys2Proof.Machine.execConfigLockup s
  | .readbackVerifyPass => Sys2Proof.Machine.execReadbackVerifyPass s
  | .unload p n v => Sys2Proof.Machine.execUnload p n v s
  | .start p n v => Sys2Proof.Machine.execStart p n v s
  | .restart p n v => Sys2Proof.Machine.execRestart p n v s
  | .bramWrite portB tile width word data be => Sys2Proof.Machine.execBramWrite portB tile width word data be s
  | .bramRead portB tile width word => Sys2Proof.Machine.execBramRead portB tile width word s
  | .pllLock n => Sys2Proof.Machine.execPllLock n s
  | .pllLossOfLock n => Sys2Proof.Machine.execPllLossOfLock n s
  | .relock p n v => Sys2Proof.Machine.execRelock p n v s
  | .urtTx n ch => Sys2Proof.Machine.execUrtTx n ch s
  | .urtRx n => Sys2Proof.Machine.execUrtRx n s
  | .txFlush n => Sys2Proof.Machine.execTxFlush n s
  | .rxFlush n => Sys2Proof.Machine.execRxFlush n s
  | .uartCharReceived n ch brk frameErr parityErr => Sys2Proof.Machine.execUartCharReceived n ch brk frameErr parityErr s
  | .uartCharSent n => Sys2Proof.Machine.execUartCharSent n s
  | .rxIdle n => Sys2Proof.Machine.execRxIdle n s
  | .evtLineRise n => Sys2Proof.Machine.execEvtLineRise n s
  | .firqAck m => Sys2Proof.Machine.execFirqAck m s
  | .firqEnd m src => Sys2Proof.Machine.execFirqEnd m src s
  | .fabricSlaveAccess port data => Sys2Proof.Machine.execFabricSlaveAccess port data s
  | .fabricSlaveTimeout port => Sys2Proof.Machine.execFabricSlaveTimeout port s
  | .laneEnable p n v => Sys2Proof.Machine.execLaneEnable p n v s
  | .laneCalibrateStart n => Sys2Proof.Machine.execLaneCalibrateStart n s
  | .laneRunning n => Sys2Proof.Machine.execLaneRunning n s
  | .laneDisable p n v => Sys2Proof.Machine.execLaneDisable p n v s
  | .laneOff n => Sys2Proof.Machine.execLaneOff n s
  | .laneConfigWrite p n rate v => Sys2Proof.Machine.execLaneConfigWrite p n rate v s
  | .txSrcChange p n v => Sys2Proof.Machine.execTxSrcChange p n v s
  | .cdrLock n => Sys2Proof.Machine.execCdrLock n s
  | .pcsLock n fec => Sys2Proof.Machine.execPcsLock n fec s
  | .laneLossOfLock n which => Sys2Proof.Machine.execLaneLossOfLock n which s
  | .deskewAligned g => Sys2Proof.Machine.execDeskewAligned g s
  | .fecUncorrectable n => Sys2Proof.Machine.execFecUncorrectable n s
  | .deskewMaskWrite p g v => Sys2Proof.Machine.execDeskewMaskWrite p g v s
  | .prbsCheckerLock n => Sys2Proof.Machine.execPrbsCheckerLock n s
  | .prbsCheckerLoss n => Sys2Proof.Machine.execPrbsCheckerLoss n s
  | .prbsClr p n v => Sys2Proof.Machine.execPrbsClr p n v s
  | .prbsBitsRead p n => Sys2Proof.Machine.execPrbsBitsRead p n s
  | .eyeScanGo p n v => Sys2Proof.Machine.execEyeScanGo p n v s
  | .eyeDone n => Sys2Proof.Machine.execEyeDone n s
  | .lanternEnable p n v => Sys2Proof.Machine.execLanternEnable p n v s
  | .lanternDisable p n v => Sys2Proof.Machine.execLanternDisable p n v s
  | .lanternStopComplete n => Sys2Proof.Machine.execLanternStopComplete n s
  | .tapUnit n tap bytes bad => Sys2Proof.Machine.execTapUnit n tap bytes bad s
  | .sequencerTransition n => Sys2Proof.Machine.execSequencerTransition n s
  | .lanternFlushTimeout n => Sys2Proof.Machine.execLanternFlushTimeout n s
  | .lanternBurstIssue n => Sys2Proof.Machine.execLanternBurstIssue n s
  | .lanternBurstCommit n => Sys2Proof.Machine.execLanternBurstCommit n s
  | .lanternIndexCommit n => Sys2Proof.Machine.execLanternIndexCommit n s
  | .lanternBurstError n => Sys2Proof.Machine.execLanternBurstError n s
  | .lanternRdPtrWrite p n high v => Sys2Proof.Machine.execLanternRdPtrWrite p n high v s
  | .ptrReset p n v => Sys2Proof.Machine.execPtrReset p n v s
  | .lanternBytesRead p n tap => Sys2Proof.Machine.execLanternBytesRead p n tap s
  | .beaconEnable p n v => Sys2Proof.Machine.execBeaconEnable p n v s
  | .beaconReady n => Sys2Proof.Machine.execBeaconReady n s
  | .beaconCmdStart p n => Sys2Proof.Machine.execBeaconCmdStart p n s
  | .beaconCmdStop p n => Sys2Proof.Machine.execBeaconCmdStop p n s
  | .beaconDisable p n v => Sys2Proof.Machine.execBeaconDisable p n v s
  | .beaconIdle n => Sys2Proof.Machine.execBeaconIdle n s
  | .beaconPassEnd n => Sys2Proof.Machine.execBeaconPassEnd n s
  | .beaconJump n => Sys2Proof.Machine.execBeaconJump n s
  | .bcnnJump p n v => Sys2Proof.Machine.execBcnnJump p n v s
  | .bcnnJumpClr p n v => Sys2Proof.Machine.execBcnnJumpClr p n v s
  | .bcnJmpEdge n k => Sys2Proof.Machine.execBcnJmpEdge n k s
  | .beaconStreamBurst n => Sys2Proof.Machine.execBeaconStreamBurst n s
  | .beaconUnderrun n => Sys2Proof.Machine.execBeaconUnderrun n s
  | .beaconReadError n => Sys2Proof.Machine.execBeaconReadError n s
  | .beaconUnitsRead p n => Sys2Proof.Machine.execBeaconUnitsRead p n s
  | .schEntryCommit p entry v => Sys2Proof.Machine.execSchEntryCommit p entry v s
  | .lntStart entry => Sys2Proof.Machine.execLntStart entry s
  | .lntStop entry => Sys2Proof.Machine.execLntStop entry s
  | .bcnStart entry => Sys2Proof.Machine.execBcnStart entry s
  | .bcnStop entry => Sys2Proof.Machine.execBcnStop entry s
  | .schEvent entry => Sys2Proof.Machine.execSchEvent entry s
  | .schPin entry => Sys2Proof.Machine.execSchPin entry s
  | .schPulseEnd pin => Sys2Proof.Machine.execSchPulseEnd pin s
  | .schReload entry => Sys2Proof.Machine.execSchReload entry s
  | .schSnap entry => Sys2Proof.Machine.execSchSnap entry s
  | .schSwapArm p v => Sys2Proof.Machine.execSchSwapArm p v s
  | .schTableSwap => Sys2Proof.Machine.execSchTableSwap s
  | .schSwapCancel p v => Sys2Proof.Machine.execSchSwapCancel p v s
  | .statsGroupEnable p g v => Sys2Proof.Machine.execStatsGroupEnable p g v s
  | .statsSample g => Sys2Proof.Machine.execStatsSample g s
  | .snapshotCommit g => Sys2Proof.Machine.execSnapshotCommit g s
  | .snapshotWriteError g => Sys2Proof.Machine.execSnapshotWriteError g s
  | .taperNop n => Sys2Proof.Machine.execTaperNop n s
  | .taperHalt n => Sys2Proof.Machine.execTaperHalt n s
  | .taperBkpt n => Sys2Proof.Machine.execTaperBkpt n s
  | .taperJ n => Sys2Proof.Machine.execTaperJ n s
  | .taperCall n => Sys2Proof.Machine.execTaperCall n s
  | .taperRet n => Sys2Proof.Machine.execTaperRet n s
  | .taperJr n => Sys2Proof.Machine.execTaperJr n s
  | .taperLoop n => Sys2Proof.Machine.execTaperLoop n s
  | .taperLoopr n => Sys2Proof.Machine.execTaperLoopr n s
  | .taperLeave n => Sys2Proof.Machine.execTaperLeave n s
  | .taperWaitev n => Sys2Proof.Machine.execTaperWaitev n s
  | .taperEvend n => Sys2Proof.Machine.execTaperEvend n s
  | .taperSignal n => Sys2Proof.Machine.execTaperSignal n s
  | .taperWdog n => Sys2Proof.Machine.execTaperWdog n s
  | .taperMode n => Sys2Proof.Machine.execTaperMode n s
  | .taperDma n => Sys2Proof.Machine.execTaperDma n s
  | .taperDmaw n => Sys2Proof.Machine.execTaperDmaw n s
  | .taperMovi n => Sys2Proof.Machine.execTaperMovi n s
  | .taperMov n => Sys2Proof.Machine.execTaperMov n s
  | .taperLd n => Sys2Proof.Machine.execTaperLd n s
  | .taperSt n => Sys2Proof.Machine.execTaperSt n s
  | .taperLdi n => Sys2Proof.Machine.execTaperLdi n s
  | .taperSti n => Sys2Proof.Machine.execTaperSti n s
  | .taperLdp n => Sys2Proof.Machine.execTaperLdp n s
  | .taperStp n => Sys2Proof.Machine.execTaperStp n s
  | .taperLea n => Sys2Proof.Machine.execTaperLea n s
  | .taperExt n => Sys2Proof.Machine.execTaperExt n s
  | .taperPack n => Sys2Proof.Machine.execTaperPack n s
  | .taperGetg n => Sys2Proof.Machine.execTaperGetg n s
  | .taperPutg n => Sys2Proof.Machine.execTaperPutg n s
  | .taperPar n => Sys2Proof.Machine.execTaperPar n s
  | .taperMul n => Sys2Proof.Machine.execTaperMul n s
  | .taperMac n => Sys2Proof.Machine.execTaperMac n s
  | .taperMsb n => Sys2Proof.Machine.execTaperMsb n s
  | .taperMacrn n => Sys2Proof.Machine.execTaperMacrn n s
  | .taperMacmx n => Sys2Proof.Machine.execTaperMacmx n s
  | .taperAddh n => Sys2Proof.Machine.execTaperAddh n s
  | .taperSubh n => Sys2Proof.Machine.execTaperSubh n s
  | .taperAdda n => Sys2Proof.Machine.execTaperAdda n s
  | .taperSuba n => Sys2Proof.Machine.execTaperSuba n s
  | .taperZero n => Sys2Proof.Machine.execTaperZero n s
  | .taperNeg n => Sys2Proof.Machine.execTaperNeg n s
  | .taperAbs n => Sys2Proof.Machine.execTaperAbs n s
  | .taperRound n => Sys2Proof.Machine.execTaperRound n s
  | .taperClip n => Sys2Proof.Machine.execTaperClip n s
  | .taperSha n => Sys2Proof.Machine.execTaperSha n s
  | .taperShav n => Sys2Proof.Machine.execTaperShav n s
  | .taperNorm n => Sys2Proof.Machine.execTaperNorm n s
  | .taperCmpa n => Sys2Proof.Machine.execTaperCmpa n s
  | .taperMova n => Sys2Proof.Machine.execTaperMova n s
  | .taperAdd n => Sys2Proof.Machine.execTaperAdd n s
  | .taperSub n => Sys2Proof.Machine.execTaperSub n s
  | .taperAnd n => Sys2Proof.Machine.execTaperAnd n s
  | .taperOr n => Sys2Proof.Machine.execTaperOr n s
  | .taperXor n => Sys2Proof.Machine.execTaperXor n s
  | .taperShl n => Sys2Proof.Machine.execTaperShl n s
  | .taperShr n => Sys2Proof.Machine.execTaperShr n s
  | .taperShra n => Sys2Proof.Machine.execTaperShra n s
  | .taperAddi n => Sys2Proof.Machine.execTaperAddi n s
  | .taperCmp n => Sys2Proof.Machine.execTaperCmp n s
  | .taperBrev n => Sys2Proof.Machine.execTaperBrev n s
  | .taperPopc n => Sys2Proof.Machine.execTaperPopc n s
  | .taperIllegal n => Sys2Proof.Machine.execTaperIllegal n s
  | .taperRun p n v => Sys2Proof.Machine.execTaperRun p n v s
  | .taperHostHalt p n v => Sys2Proof.Machine.execTaperHostHalt p n v s
  | .taperStep p n v => Sys2Proof.Machine.execTaperStep p n v s
  | .taperDoorbell p n v => Sys2Proof.Machine.execTaperDoorbell p n v s
  | .taperStateWrite p n which v => Sys2Proof.Machine.execTaperStateWrite p n which v s
  | .taperMemoryAccess n => Sys2Proof.Machine.execTaperMemoryAccess n s
  | .dmaDescriptorComplete n c => Sys2Proof.Machine.execDmaDescriptorComplete n c s
  | .taperWatchdogExpiry n => Sys2Proof.Machine.execTaperWatchdogExpiry n s
  | .backboneRequest m write addr len data be deadline panic => Sys2Proof.Machine.execBackboneRequest m write addr len data be deadline panic s
  | .arbitrationDecision k => Sys2Proof.Machine.execArbitrationDecision k s
  | .grantRevocation k => Sys2Proof.Machine.execGrantRevocation k s
  | .writeCommit k => Sys2Proof.Machine.execWriteCommit k s
  | .arbitrationWindowExpiry k => Sys2Proof.Machine.execArbitrationWindowExpiry k s
  | .pointConfigWrite p k quota v => Sys2Proof.Machine.execPointConfigWrite p k quota v s
  | .backboneLockup k => Sys2Proof.Machine.execBackboneLockup k s
  | .bbRuleCommit p v => Sys2Proof.Machine.execBbRuleCommit p v s
  | .rulesDrained => Sys2Proof.Machine.execRulesDrained s
  | .lockAcquire m k => Sys2Proof.Machine.execLockAcquire m k s
  | .lockRelease m k v => Sys2Proof.Machine.execLockRelease m k v s
  | .lockForce m k v => Sys2Proof.Machine.execLockForce m k v s
  | .mcEnable p n v => Sys2Proof.Machine.execMcEnable p n v s
  | .mcTrainingComplete sc => Sys2Proof.Machine.execMcTrainingComplete sc s
  | .mcTrainingFail sc => Sys2Proof.Machine.execMcTrainingFail sc s
  | .mcSelfRefreshExit sc => Sys2Proof.Machine.execMcSelfRefreshExit sc s
  | .mcDisable p n v => Sys2Proof.Machine.execMcDisable p n v s
  | .mcSelfRefreshEntry sc => Sys2Proof.Machine.execMcSelfRefreshEntry sc s
  | .mcConfigWrite p n v => Sys2Proof.Machine.execMcConfigWrite p n v s
  | .mcRetrainDue sc => Sys2Proof.Machine.execMcRetrainDue sc s
  | .mcRetrainStart sc => Sys2Proof.Machine.execMcRetrainStart sc s
  | .mcRetrainDeferLong sc => Sys2Proof.Machine.execMcRetrainDeferLong sc s
  | .mcScheduleDecision sc => Sys2Proof.Machine.execMcScheduleDecision sc s
  | .rhWindowExpiry n => Sys2Proof.Machine.execRhWindowExpiry n s
  | .throttleExpiry m => Sys2Proof.Machine.execThrottleExpiry m s
  | .mcRefreshDue sc rank => Sys2Proof.Machine.execMcRefreshDue sc rank s
  | .mcPostponedRefresh sc rank => Sys2Proof.Machine.execMcPostponedRefresh sc rank s
  | .mcRefreshRatePoll n double => Sys2Proof.Machine.execMcRefreshRatePoll n double s
  | .memoryLineRead sc => Sys2Proof.Machine.execMemoryLineRead sc s
  | .memoryPartialWrite sc => Sys2Proof.Machine.execMemoryPartialWrite sc s
  | .memoryLineWrite sc => Sys2Proof.Machine.execMemoryLineWrite sc s
  | .mcPllLossOfLock n => Sys2Proof.Machine.execMcPllLossOfLock n s
  | .stgPortAAccess g => Sys2Proof.Machine.execStgPortAAccess g s
  | .stgPortBAccess b => Sys2Proof.Machine.execStgPortBAccess b s
  | .stgBitSet g => Sys2Proof.Machine.execStgBitSet g s
  | .stgBitClear g => Sys2Proof.Machine.execStgBitClear g s
  | .stgBankReq p b v => Sys2Proof.Machine.execStgBankReq p b v s
  | .stgBankStateReached b => Sys2Proof.Machine.execStgBankStateReached b s
  | .stgScrubRead => Sys2Proof.Machine.execStgScrubRead s
  | .shdKeyLoad p v => Sys2Proof.Machine.execShdKeyLoad p v s
  | .shadeKeyLoadComplete => Sys2Proof.Machine.execShadeKeyLoadComplete s
  | .shdCommit p v => Sys2Proof.Machine.execShdCommit p v s
  | .shadeDrained => Sys2Proof.Machine.execShadeDrained s
  | .psmProgram p v => Sys2Proof.Machine.execPsmProgram p v s
  | .psmProgramPulseDone ok => Sys2Proof.Machine.execPsmProgramPulseDone ok s
  | .psmErase p v => Sys2Proof.Machine.execPsmErase p v s
  | .psmEraseSliceEnd ok => Sys2Proof.Machine.execPsmEraseSliceEnd ok s
  | .psmSuspend p v => Sys2Proof.Machine.execPsmSuspend p v s
  | .psmResume p v => Sys2Proof.Machine.execPsmResume p v s
  | .psmBadOp p key v => Sys2Proof.Machine.execPsmBadOp p key v s
  | .keyWrite p v => Sys2Proof.Machine.execKeyWrite p v s
  | .keyErase p v => Sys2Proof.Machine.execKeyErase p v s
  | .psmWindowRead => Sys2Proof.Machine.execPsmWindowRead s
  | .psmWindowWrite m addr => Sys2Proof.Machine.execPsmWindowWrite m addr s
  | .sourceEvent n => Sys2Proof.Machine.execSourceEvent n s
  | .moderationTimerExpiry => Sys2Proof.Machine.execModerationTimerExpiry s
  | .evcRaise p v => Sys2Proof.Machine.execEvcRaise p v s
  | .evcSourceConfigWrite p n v => Sys2Proof.Machine.execEvcSourceConfigWrite p n v s
  | .evcEnd p w v => Sys2Proof.Machine.execEvcEnd p w v s
  | .rasInjectArm p v => Sys2Proof.Machine.execRasInjectArm p v s
  | .rasPop p v => Sys2Proof.Machine.execRasPop p v s
  | .mcScrubRead => Sys2Proof.Machine.execMcScrubRead s
  | .bramScrubRead => Sys2Proof.Machine.execBramScrubRead s
  | .psmScanRead => Sys2Proof.Machine.execPsmScanRead s
  | .criticalParityError item => Sys2Proof.Machine.execCriticalParityError item s
  | .systemWatchdogExpiry => Sys2Proof.Machine.execSystemWatchdogExpiry s
  | .rasWdogKick p v => Sys2Proof.Machine.execRasWdogKick p v s
  | .rasWdogLimitWrite p v => Sys2Proof.Machine.execRasWdogLimitWrite p v s
  | .clockFailure c => Sys2Proof.Machine.execClockFailure c s
  | .jtagDebugRequest => Sys2Proof.Machine.execJtagDebugRequest s
  | .readBurstComplete => Sys2Proof.Machine.execReadBurstComplete s
  | .mcRetrainComplete sc => Sys2Proof.Machine.execMcRetrainComplete sc s
  | .drainUsExpiry n => Sys2Proof.Machine.execDrainUsExpiry n s
  | .deskewMarkerDisagree g => Sys2Proof.Machine.execDeskewMarkerDisagree g s
  | .ctsNChange n high => Sys2Proof.Machine.execCtsNChange n high s

end Sys2Proof.Machine
end

