-- ==== Sys2Proof/Machine/Step.lean ====
section
/-!
DEFINITION. Sys2Proof/Machine/Step.lean: one step takes the command at the front of the queue; with no command waiting,
one nanosecond passes.
-/

namespace Sys2Proof.Machine

/-- One step: the front command acts on the state with the queue's rest; an empty queue lets one nanosecond pass
(DESIGN CHOICE, log 1). [log 1 DESIGN CHOICE, log 115 DESIGN CHOICE] -/
def step (s : State) : Host.Outcome State Fault Refusal :=
  match s.pending with
  | [] => .next (tick s)
  | c :: rest => exec c { s with pending := rest }

/-- The command that a table word spells, put in front of the queue; no row has bits, so the state stays.
[log 3 DESIGN CHOICE] -/
def State.withFetchWord (s : State) (nbits w : Nat) : State :=
  match decodeTableWord nbits w with
  | some c => { s with pending := c :: s.pending }
  | none => s

end Sys2Proof.Machine
end

