-- ==== Sys2Proof/Safety.lean ====
section
/-!
DEFINITION. Sys2Proof/Safety.lean: the words in which claims about the part are stated: what a command answers, whose
request may act, what a command leaves as it was, and the canonical form of every map.
-/

namespace Sys2Proof.Machine

/-- Executing the command on `s` answers a next state, and `P` holds of it. -/
def Answers (c : Instr) (s : State) (P : State → Prop) : Prop := ∃ t, exec c s = .next t ∧ P t

/-- Executing the command does an access of which `P` holds, and then what follows every access (R365, R571, R652, R825). -/
def Settles (c : Instr) (s : State) (P : State → Prop) : Prop := ∃ u, exec c s = .next (settle u) ∧ P u

/-- No engine has an answer to take, no word of a bulk write waits for its turn, no region drains, and Shade has not halted the part: nothing
follows an access. -/
abbrev State.quiet (s : State) : Prop :=
  s.halted = false ∧ s.bb.done = [] ∧ s.fil.bulkTodo = [] ∧ ∀ r : Fin 24, s.get (F.RGN_STATUS_STATE r.val) ≠ 2

/-- A partner's request for the register at `a` may act: it reaches the part and passes the checks of R7, R32 and R187. -/
abbrev State.admits (s : State) (p : Partner) (a : Nat) : Prop := s.reaches p = true ∧ s.gate p a = none

/-- The latest register request was the partner's, and it answered this status and word (R115). -/
abbrev State.told (t : State) (p : Partner) (st : Status) (w : Word) : Prop := t.resp = some ⟨.partner p, st, w⟩

/-- The Event Controller at this instant: what has happened in the core cycle is kept for the cycle alone (R889, log 128). -/
abbrev State.evcNow (s : State) : EvcS := s.evc.fresh s.evcEnv

/-- A take of this core cycle has taken the source. -/
abbrev State.takenNow (s : State) (n : Nat) : Prop := s.evcNow.taken.contains n = true

/-- No event has been lost yet in this core cycle. -/
abbrev State.noneLostNow (s : State) : Prop := s.evcNow.gone = []

/-- A message has been released in this core cycle and is still in the unit. -/
abbrev State.releasedNow (s : State) : Prop := s.evcNow.released = true

/-- The parts of the state beside its registers. -/
inductive Part where
  | clk | resp | tt | fil | rst | jtag | svp | bfp | cfg | rgn | fab | xcv | lnt | bcn | sch | tpr | bb | mem | stg | shd | psm
  | evc | ras | pending
deriving DecidableEq, Repr

/-- A part is the same in two states. -/
def Part.same (s t : State) : Part → Prop
  | .clk => t.clk = s.clk
  | .resp => t.resp = s.resp
  | .tt => t.tt = s.tt
  | .fil => t.fil = s.fil
  | .rst => t.rst = s.rst
  | .jtag => t.jtag = s.jtag
  | .svp => t.svp = s.svp
  | .bfp => t.bfp = s.bfp
  | .cfg => t.cfg = s.cfg
  | .rgn => t.rgn = s.rgn
  | .fab => t.fab = s.fab
  | .xcv => t.xcv = s.xcv
  | .lnt => t.lnt = s.lnt
  | .bcn => t.bcn = s.bcn
  | .sch => t.sch = s.sch
  | .tpr => t.tpr = s.tpr
  | .bb => t.bb = s.bb
  | .mem => t.mem = s.mem
  | .stg => t.stg = s.stg
  | .shd => t.shd = s.shd
  | .psm => t.psm = s.psm
  | .evc => t.evc = s.evc
  | .ras => t.ras = s.ras
  | .pending => t.pending = s.pending

/-- The frame: outside the parts and the registers named, nothing differs between the two states. -/
def Keeps (s t : State) (parts : List Part) (regs : List Nat) : Prop :=
  (∀ q : Part, q ∉ parts → q.same s t) ∧ ∀ a, a ∉ regs → t.rd a = s.rd a

/-- The registers that a request's entry into the Backbone may change: the record of a denied one, and DRAINED (R696, R700). -/
def requestRegs : List Nat :=
  [R.BB_VIOL_INFO, R.BB_VIOL_ADDR_LO, R.BB_VIOL_ADDR_HI, R.BB_VIOL_COUNT, R.BB_RULE_DRAINED]

/-- The registers of a Lantern page. -/
def lanternRegs (n : Nat) : List Nat := (List.range 512).map fun i => R.LNT_CTRL n + 4 * i

/-- The registers of a block: `n` words from an address. -/
def regRange (a n : Nat) : List Nat := (List.range n).map fun i => a + 4 * i

/-- The check bits of every word of Staging SRAM that a span of bytes touches are good. -/
abbrev State.sound (s : State) (off len : Nat) : Prop := ∀ w ∈ stgWords off len, stgMark s w = none

/-- The reset state once a Warm reset is requested (R193, R213, R225): during a Psiom pulse the first request is deferred, and
otherwise the first one stands, with its cause and its instant. -/
def State.warmAsked (s : State) (c : Cause) : RstS :=
  if s.psm.cmd ≠ none then { s.rst with deferred := some (s.rst.deferred.getD (false, c)) }
  else if s.rst.warm ≠ none then s.rst
  else { s.rst with warm := some c, warmAt := s.clk.now }

/-- Port A has touched nothing in this core cycle (R767). -/
abbrev State.portAIdle (s : State) : Prop := s.stg.lastA.map PortALast.at_ ≠ some s.clk.now

/-- Port B has written nothing in this core cycle (R767). -/
abbrev State.portBIdle (s : State) : Prop := s.stg.lastB.map PortBLast.at_ ≠ some s.clk.now

/-- Outside the fields named, a register holds what it held: a statement about one field of a word says so of the rest. -/
def SameBut (s t : State) (a : Nat) (mask : Word) : Prop := t.rd a &&& ~~~ mask = s.rd a &&& ~~~ mask

/-- The register that a partner's command addresses, for the commands that are its register requests. -/
def partnerTarget : Instr → Option (Partner × Nat)
  | .ttNowLoRead p => some (p, R.TT_NOW_LO)
  | .ttSourceSelect p _ _ => some (p, R.TT_CTRL)
  | .ttSyncArm p _ => some (p, R.TT_SYNC_CTRL)
  | .ttSlewStart p _ => some (p, R.TT_ADJ_CTRL)
  | .ttStepArm p _ => some (p, R.TT_ADJ_CTRL)
  | .ttAdjCancel p _ _ _ => some (p, R.TT_ADJ_CTRL)
  | .lscEnable p _ => some (p, R.TT_LSC_CTRL)
  | .lscLoRead p => some (p, R.TT_LSC_LO)
  | .pilotComparatorEnable p n _ => some (p, R.PLT_CMP_CTRL n.val)
  | .pilotMatchValueWrite p n high _ => some (p, R.PLT_TTM n.val (b2n high))
  | .retrainUs p _ => some (p, R.FIL_CTRL)
  | .retrainDs p _ => some (p, R.FIL_CTRL)
  | .dsPm p _ => some (p, R.FIL_CTRL)
  | .rstEngine p _ => some (p, R.RST_ENGINE)
  | .rstCtrl p _ => some (p, R.RST_CTRL)
  | .nlExit p _ => some (p, R.NL_EXIT)
  | .rstStartOk p _ => some (p, R.RST_START_OK)
  | .standby p _ => some (p, R.PWR_CTRL)
  | .run p _ => some (p, R.PWR_CTRL)
  | .deep p _ => some (p, R.PWR_CTRL)
  | .bfpEnable p _ => some (p, R.BFP_CTRL)
  | .bfpCmd p _ => some (p, R.BFP_CMD)
  | .cfgGo p _ => some (p, R.CFG_CTRL)
  | .cfgFifoWrite p _ => some (p, R.CFG_CTRL)
  | .cfgAbort p _ => some (p, R.CFG_CTRL)
  | .cfgRelease p _ => some (p, R.CFG_CTRL)
  | .unload p n _ => some (p, R.RGN_CTRL n.val)
  | .start p n _ => some (p, R.RGN_CTRL n.val)
  | .restart p n _ => some (p, R.RGN_CTRL n.val)
  | .relock p n _ => some (p, R.CLK_PLL_CMD n.val)
  | .laneEnable p n _ => some (p, R.XCV_CTRL n.val)
  | .laneDisable p n _ => some (p, R.XCV_CTRL n.val)
  | .laneConfigWrite p n rate _ => some (p, if rate then R.XCV_RATE n.val else R.XCV_CFG n.val)
  | .txSrcChange p n _ => some (p, R.XCV_CTRL n.val)
  | .deskewMaskWrite p g _ => some (p, R.XCV_GRP_CTRL g.val)
  | .prbsClr p n _ => some (p, R.XCV_PRBS n.val)
  | .prbsBitsRead p n => some (p, R.XCV_PRBS_BITS_LO n.val)
  | .eyeScanGo p n _ => some (p, R.XCV_EYE_CTRL n.val)
  | .lanternEnable p n _ => some (p, R.LNT_CTRL n.val)
  | .lanternDisable p n _ => some (p, R.LNT_CTRL n.val)
  | .lanternRdPtrWrite p n _ _ => some (p, R.LNT_RD_PTR_LO n.val)
  | .ptrReset p n _ => some (p, R.LNT_CTRL n.val)
  | .lanternBytesRead p n tap => some (p, R.LNT_TAP_BYTES_LO n.val tap.val)
  | .beaconEnable p n _ => some (p, R.BCN_CTRL n.val)
  | .beaconCmdStart p n => some (p, R.BCN_CMD n.val)
  | .beaconCmdStop p n => some (p, R.BCN_CMD n.val)
  | .beaconDisable p n _ => some (p, R.BCN_CTRL n.val)
  | .bcnnJump p n _ => some (p, R.BCN_JUMP n.val)
  | .bcnnJumpClr p n _ => some (p, R.BCN_JUMP_CLR n.val)
  | .beaconUnitsRead p n => some (p, R.BCN_UNITS_LO n.val)
  | .schEntryCommit p entry _ => some (p, R.SCH_TABLE (4 * entry.val + 2))
  | .schSwapArm p _ => some (p, R.SCH_SWAP_CTRL)
  | .schSwapCancel p _ => some (p, R.SCH_SWAP_CTRL)
  | .statsGroupEnable p g _ => some (p, R.SCH_GRP_CTRL g.val)
  | .taperRun p n _ => some (p, R.TPR_CTRL n.val)
  | .taperHostHalt p n _ => some (p, R.TPR_CTRL n.val)
  | .taperStep p n _ => some (p, R.TPR_CTRL n.val)
  | .taperDoorbell p n _ => some (p, R.TPR_MAILBOX n.val)
  | .taperStateWrite p n _ _ => some (p, R.TPR_CTRL n.val)
  | .pointConfigWrite p k quota _ => some (p, if quota then R.BB_PT_QUOTA k.val else R.BB_PT_CTRL k.val)
  | .bbRuleCommit p _ => some (p, R.BB_RULE_COMMIT)
  | .mcEnable p n _ => some (p, R.MC_CTRL n.val)
  | .mcDisable p n _ => some (p, R.MC_CTRL n.val)
  | .mcConfigWrite p n _ => some (p, R.MC_CFG n.val)
  | .stgBankReq p b _ => some (p, R.STG_BANK b.val)
  | .shdKeyLoad p _ => some (p, R.SHD_KEY_LOAD)
  | .shdCommit p _ => some (p, R.SHD_COMMIT)
  | .psmProgram p _ => some (p, R.PSM_CMD)
  | .psmErase p _ => some (p, R.PSM_CMD)
  | .psmSuspend p _ => some (p, R.PSM_CMD)
  | .psmResume p _ => some (p, R.PSM_CMD)
  | .psmBadOp p key _ => some (p, if key then R.PSM_KEY_CMD else R.PSM_CMD)
  | .keyWrite p _ => some (p, R.PSM_KEY_CMD)
  | .keyErase p _ => some (p, R.PSM_KEY_CMD)
  | .evcRaise p _ => some (p, R.EVC_RAISE)
  | .evcSourceConfigWrite p n _ => some (p, R.EVC_STATUS + 0x100 + 4 * n.val)
  | .evcEnd p w _ => some (p, R.EVC_END w.val)
  | .rasInjectArm p _ => some (p, R.RAS_INJ_CTRL)
  | .rasPop p _ => some (p, R.RAS_LOG_POP)
  | .rasWdogKick p _ => some (p, R.RAS_WDOG_KICK)
  | .rasWdogLimitWrite p _ => some (p, R.RAS_WDOG)
  | _ => none

/-- Every map that `sset` writes is in its canonical form: keys strictly rising, and no entry that repeats what an unlisted key reads as. -/
def State.canonical (s : State) : Bool :=
  swf resetValue s.regs && swf resetValue s.bb.rules && swf resetValue s.shd.regions && swf (memFill s.mem) s.mem.bytes &&
    swf (memCheck s.mem) s.mem.attr && swf (stgFill s.stg) s.stg.bytes && swf (stgCheck s.stg) s.stg.mark &&
    swf psmErased s.psm.bytes && swf (fun _ => UnitS.erased) s.psm.units &&
    swf (fun _ => (⟨.erased, 0, false⟩ : Sector)) s.psm.sectors && swf (fun _ => (0 : Byte)) s.cfg.frames &&
    swf (fun _ => ([] : List Byte)) s.cfg.refs && swf (fun _ => (0 : Byte)) s.fab.bram && swf entryZero s.sch.tab &&
    swf entryZero s.sch.stage && swf Source.init s.evc.src &&
    s.tpr.toList.all fun c => swf (fun _ => (0 : Word)) c.pram && swf (fun _ => (0 : BitVec 16)) c.xram &&
      swf (fun _ => (0 : BitVec 16)) c.yram

end Sys2Proof.Machine
end

