-- ==== Sys2Proof/Certificates/Slice0/Obligations.lean ====
section
/-!
DEFINITION. Sys2Proof/Certificates/Slice0/Obligations.lean: the statements about the model of the HX-9640, block by block, for the
provers. Each names the rules of the spec it rests on, states what each command named in it answers, and what it leaves as it was.
-/

open Sys2Proof Sys2Proof.Machine

/-! ### Tester Time (02_tester_time.md) -/

/-- R42: a read of TT_NOW_LO answers the low half of TT and latches the high half of the same sample; nothing else changes,
and a read of TT_NOW_HI returns the latched half. -/
def Obligations.TtNowLatch : Prop := ∀ (s : State) (p : Partner),
  (s.admits p R.TT_NOW_LO → exec (.ttNowLoRead p) s = .next
    ({ s with tt := { s.tt with latchHi := (s.tt.tt >>> 32).setWidth 32 } }.answer (.partner p) .ok (s.tt.tt.setWidth 32))) ∧
  pageRead p.master R.TT_NOW_HI s = (s.tt.latchHi, s)

/-- The read of TT_LSC_LO answers LSC bits 31:0 and latches bits 47:32, which TT_LSC_HI returns (R95).
The Pilot comparators (R90, R985, R986): when they are armed, when they fire, and what firing does; the wake pin; and LSC
as TT_LSC_CTRL.EN starts it (R79, R86, R984). -/
def Obligations.LscAndComparators : Prop :=
  (∀ (s : State) (p : Partner),
  (s.admits p R.TT_LSC_LO → exec (.lscLoRead p) s = .next
    ({ s with tt := { s.tt with lscHi := (s.tt.lsc >>> 32).setWidth 16 } }.answer (.partner p) .ok (s.tt.lsc.setWidth 32))) ∧
  pageRead p.master R.TT_LSC_HI s = (s.tt.lscHi.setWidth 32, s)) ∧
  (∀ (s : State) (p : Partner) (v : Word),
  (∀ (n : Fin 8), s.admits p (R.PLT_CMP_CTRL n.val) → Answers (.pilotComparatorEnable p n v) s fun t =>
    t.told p .ok 0 ∧ t.flag (F.PLT_CMP_CTRL_EN n.val) = true ∧ t.evc = s.evc ∧
      t.get (F.PLT_CMP_CTRL_THRESHOLD n.val) = (F.PLT_CMP_CTRL_THRESHOLD n.val).of v ∧
      t.flag (F.PLT_CMP_CTRL_FIRED n.val) = (s.flag (F.PLT_CMP_CTRL_FIRED n.val) && !(F.PLT_CMP_CTRL_FIRED n.val).on v) ∧
      (n.val < 4 → vget t.tt.cmpArmed (finOf 3 n.val) = (!s.flag (F.PLT_CMP_CTRL_EN n.val) || vget s.tt.cmpArmed (finOf 3 n.val))) ∧
      (n.val = 7 → vget t.tt.cmpOut 3 = s.tt.wakePin) ∧
      (n.val = 4 → vget t.tt.cmpOut 0 = decide (5 * (F.PLT_CMP_CTRL_THRESHOLD 4).of v < vget s.tt.cmpIn 0)) ∧
      (n.val = 6 → vget t.tt.cmpOut 2 = decide (1000 * (F.PLT_CMP_CTRL_THRESHOLD 6).of v < vget s.tt.cmpIn 2)) ∧
      Keeps s t [.resp, .tt] [R.PLT_CMP_CTRL n.val]) ∧
  (∀ (n : Fin 4) (high : Bool), s.admits p (R.PLT_TTM n.val (b2n high)) → Answers (.pilotMatchValueWrite p n high v) s fun t =>
    t.told p .ok 0 ∧ t.rd (R.PLT_TTM n.val (b2n high)) = v ∧
      vget t.tt.cmpArmed n = (s.flag (F.PLT_CMP_CTRL_EN n.val) || vget s.tt.cmpArmed n) ∧
      Keeps s t [.resp, .tt] [R.PLT_TTM n.val (b2n high)]) ∧
  (∀ (n : Fin 4), vget s.tt.cmpArmed n = true → s.flag (F.PLT_CMP_CTRL_EN n.val) = true →
    s.get64 (R.PLT_TTM n.val 0) (R.PLT_TTM n.val 1) ≤ s.tt.tt.toNat → Answers (.pilotTtMatch n) s fun t =>
      t.flag (F.PLT_CMP_CTRL_FIRED n.val) = true ∧ t.flag (F.PLT_CMP_CTRL_EN n.val) = true ∧ vget t.tt.cmpArmed n = false ∧
      t.evc = (if s.rst.coreUp then raise (236 + n.val) s else s).evc ∧
      (s.flag (F.PLT_CMP_CTRL_WAKE n.val) = true → s.get F.PWR_STATUS_STATE = 1 → t.rst.exiting = true) ∧
      Keeps s t [.tt, .evc, .rst] [R.PLT_CMP_CTRL n.val]) ∧
  (∀ (n : Fin 3) (level : Int), s.flag (F.PLT_CMP_CTRL_EN (4 + n.val)) = true → vget s.tt.cmpOut (finOf 3 n.val) = false →
    s.get (F.PLT_CMP_CTRL_EDGE (4 + n.val)) % 2 = 1 →
    (if n.val = 2 then 1000 * s.get (F.PLT_CMP_CTRL_THRESHOLD 6) + 1000 else 5 * s.get (F.PLT_CMP_CTRL_THRESHOLD (4 + n.val)) + 10) +
      tripError n.val true < level →
    Answers (.pilotAnalogCrossing n level) s fun t => t.flag (F.PLT_CMP_CTRL_FIRED (4 + n.val)) = true ∧
      vget t.tt.cmpOut (finOf 3 n.val) = true ∧ t.evc = (if s.rst.coreUp then raise (240 + n.val) s else s).evc) ∧
  (∀ (n : Fin 3) (level : Int),
    (if n.val = 2 then 1000 * s.get (F.PLT_CMP_CTRL_THRESHOLD 6) - 1000 else 5 * s.get (F.PLT_CMP_CTRL_THRESHOLD (4 + n.val)) - 10 : Int) + tripError n.val false ≤ level →
    level ≤ (if n.val = 2 then 1000 * s.get (F.PLT_CMP_CTRL_THRESHOLD 6) + 1000 else 5 * s.get (F.PLT_CMP_CTRL_THRESHOLD (4 + n.val)) + 10) +
      tripError n.val true →
    exec (.pilotAnalogCrossing n level) s = .next { s with tt := { s.tt with cmpIn := vset s.tt.cmpIn n level } }) ∧
  (∀ (level : Bool), s.flag (F.PLT_CMP_CTRL_EN 7) = true → vget s.tt.cmpOut 3 = !level →
    s.get (F.PLT_CMP_CTRL_EDGE 7) = 3 → Answers (.pilotWakeEdge level) s fun t => t.tt.wakePin = level ∧
      t.flag (F.PLT_CMP_CTRL_FIRED 7) = true ∧ t.evc = (if s.rst.coreUp then raise 243 s else s).evc) ∧
  (s.flag F.TT_STATUS_RUNNING = true → s.tt.slew = none → 2 ^ 64 - 64 ≤ s.tt.tt.toNat → Answers .ttWrap s fun t =>
    t.tt.tt = s.tt.tt + 64 ∧ t.tt.lastStep = some t.clk.now ∧ t.clk.now = s.clk.now + 1) ∧
  (s.admits p R.TT_LSC_CTRL → s.flag F.TT_LSC_CTRL_EN = false → Answers (.lscEnable p v) s fun t => t.told p .ok 0 ∧
    t.flag F.TT_LSC_CTRL_EN = true ∧ t.get F.TT_LSC_CTRL_LANE = F.TT_LSC_CTRL_LANE.of v ∧ t.tt.lsc = 0 ∧
      t.flag F.TT_LSC_STATUS_FROZEN = !lscLocked t ∧
      (lscLocked t = false → t.flag F.TT_LSC_STATUS_FROZE = true ∧ t.evc = (raise 174 s).evc)) ∧
  (s.admits p R.TT_LSC_CTRL → s.flag F.TT_LSC_CTRL_EN = true →
    Answers (.lscEnable p v) s fun t => t.told p .ok 0 ∧ Keeps s t [.resp] []))

/-- A new value of TT_CTRL.SOURCE (R43, R45, R46): TT keeps its value and runs unless the source is OFF, holdover ends, and
REF locks to a reference that REF_KHZ names to 1000 ppm and sets REF_BAD for any other. ARM arms the next TT_SYNC edge.
A TT_SYNC edge in REF mode: armed, it loads the epoch less REF_DELAY (R47) and ends a requested slew; as a phase check
(R48), an error of at most 2 ns is slewed out at 200 ppm (R49) and a larger one sets SYNC_ERR and steps TT when AUTO_STEP
is 1 (R50); the first one after the source returned, of at most RELOCK_US, is slewed out and ends holdover (R62, R64).
Holdover (R46, R58 to R60, R64, R980): losing the TT_REF lock in REF mode, or eight sync words in a row in CHAIN mode, sets
HOLDOVER and raises 172; a good reference that locks again with TT_SYNC_PERIOD 0 ends it with no correction and raises 173. -/
def Obligations.TtReference : Prop :=
  (∀ (s : State) (p : Partner) (v : Word) (khz : Nat),
  (s.admits p R.TT_CTRL → F.TT_CTRL_SOURCE.of v ≠ s.get F.TT_CTRL_SOURCE →
    Answers (.ttSourceSelect p v khz) s fun t => t.told p .ok 0 ∧ t.get F.TT_CTRL_SOURCE = F.TT_CTRL_SOURCE.of v ∧
      t.get F.TT_CTRL_RELOCK_US = F.TT_CTRL_RELOCK_US.of v ∧ t.flag F.TT_CTRL_AUTO_STEP = F.TT_CTRL_AUTO_STEP.on v ∧
      t.tt.tt = s.tt.tt ∧ t.flag F.TT_STATUS_HOLDOVER = false ∧
      t.flag F.TT_STATUS_RUNNING = decide (F.TT_CTRL_SOURCE.of v ≠ 0) ∧
      t.flag F.TT_STATUS_EPOCH_VALID = s.flag F.TT_STATUS_EPOCH_VALID ∧
      (let k := s.get F.TT_REF_CTRL_REF_KHZ
       let good := decide (F.TT_CTRL_SOURCE.of v = 1 ∧ 10000 ≤ k ∧ k ≤ 312500 ∧ 1000 * khz ≤ 1001 * k ∧ 999 * k ≤ 1000 * khz)
       t.flag F.TT_STATUS_LOCKED = good ∧
         t.flag F.TT_STATUS_REF_BAD = (decide (F.TT_CTRL_SOURCE.of v = 1) && !good)) ∧
      (s.flag F.TT_STATUS_HOLDOVER = true → t.evc = (raise 173 s).evc) ∧
      (s.flag F.TT_STATUS_HOLDOVER = false → t.evc = s.evc) ∧
      Keeps s t [.resp, .tt, .evc] [R.TT_CTRL, R.TT_STATUS]) ∧
  (s.admits p R.TT_SYNC_CTRL → Answers (.ttSyncArm p v) s fun t => t.told p .ok 0 ∧ t.flag F.TT_SYNC_CTRL_ARM = true ∧
      t.flag F.TT_SYNC_CTRL_EPOCH_LOADED = (s.flag F.TT_SYNC_CTRL_EPOCH_LOADED && !F.TT_SYNC_CTRL_EPOCH_LOADED.on v) ∧
      Keeps s t [.resp] [R.TT_SYNC_CTRL])) ∧
  (∀ (s : State),
  (s.rst.coreUp = true → s.get F.TT_CTRL_SOURCE = 1 → s.flag F.TT_SYNC_CTRL_ARM = true →
    Answers .ttSyncEdge s fun t => t.tt.tt =
        BitVec.ofNat 64 (s.get64 R.TT_EPOCH_LO R.TT_EPOCH_HI) - BitVec.ofInt 64 (signedOf 12 (s.get F.TT_REF_CTRL_REF_DELAY)) ∧
      t.flag F.TT_SYNC_CTRL_ARM = false ∧ t.flag F.TT_SYNC_CTRL_EPOCH_LOADED = true ∧
      t.flag F.TT_STATUS_EPOCH_VALID = true ∧ t.tt.slew = none ∧
      ((s.tt.slew.map (·.requested)) = some true → t.flag F.TT_STATUS_ADJ_BUSY = false)) ∧
  (s.rst.coreUp = true → s.get F.TT_CTRL_SOURCE = 1 → s.flag F.TT_SYNC_CTRL_ARM = false →
    s.get F.TT_SYNC_PERIOD_NS ≠ 0 → justStepped s = false → s.tt.phasePending = false ∨ s.tt.refLocked = false →
    (phaseAt s).natAbs ≤ 128 →
    Answers .ttSyncEdge s fun t => t.rd R.TT_SYNC_ERROR = BitVec.ofInt 32 (phaseAt s) ∧ t.tt.tt = s.tt.tt ∧
      t.tt.slew = (if phaseAt s = 0 then s.tt.slew else some (match s.tt.slew with
        | none => ⟨-phaseAt s, 200, false⟩
        | some w => { w with left := if w.requested then w.left - phaseAt s else -phaseAt s })) ∧
      Keeps s t [.tt] [R.TT_SYNC_ERROR]) ∧
  (s.rst.coreUp = true → s.get F.TT_CTRL_SOURCE = 1 → s.flag F.TT_SYNC_CTRL_ARM = false →
    s.get F.TT_SYNC_PERIOD_NS ≠ 0 → justStepped s = false → s.tt.phasePending = false ∨ s.tt.refLocked = false →
    128 < (phaseAt s).natAbs →
    Answers .ttSyncEdge s fun t => t.flag F.TT_STATUS_SYNC_ERR = true ∧
      t.tt.tt = if s.flag F.TT_CTRL_AUTO_STEP then s.tt.tt - BitVec.ofInt 64 (phaseAt s) else s.tt.tt) ∧
  (s.rst.coreUp = true → s.get F.TT_CTRL_SOURCE = 1 → s.flag F.TT_SYNC_CTRL_ARM = false →
    s.get F.TT_SYNC_PERIOD_NS ≠ 0 → justStepped s = false → s.tt.phasePending = true → s.tt.refLocked = true →
    s.tt.holdRx = false → s.tt.slew = none → (phaseAt s).natAbs ≤ 64000 * s.get F.TT_CTRL_RELOCK_US →
    Answers .ttSyncEdge s fun t => t.tt.tt = s.tt.tt ∧ t.tt.slew = some ⟨-phaseAt s, 200, false⟩ ∧ t.tt.phasePending = false ∧
      t.flag F.TT_STATUS_HOLDOVER = false ∧ t.flag F.TT_STATUS_LOCKED = true ∧
      t.evc = (if s.flag F.TT_STATUS_HOLDOVER then raise 173 s else s).evc)) ∧
  (∀ (s : State),
  (s.rst.coreUp = true → s.get F.TT_CTRL_SOURCE = 1 → s.tt.refLocked = true → Answers .ttRefLossOfLock s fun t =>
    t.flag F.TT_STATUS_HOLDOVER = true ∧ t.tt.refLocked = false ∧ t.tt.tt = s.tt.tt ∧
      (s.flag F.TT_STATUS_HOLDOVER = false → t.flag F.TT_STATUS_LOCKED = false ∧ t.evc = (raise 172 s).evc) ∧
      Keeps s t [.tt, .evc] [R.TT_STATUS]) ∧
  (s.rst.coreUp = true → s.get F.TT_CTRL_SOURCE = 2 → Answers .syncWordsMissed s fun t =>
    t.flag F.TT_STATUS_HOLDOVER = true ∧ t.tt.tt = s.tt.tt ∧
      (s.flag F.TT_STATUS_HOLDOVER = false → t.flag F.TT_STATUS_LOCKED = false ∧ t.evc = (raise 172 s).evc) ∧
      Keeps s t [.tt, .evc] [R.TT_STATUS]) ∧
  (∀ (khz : Nat), s.rst.coreUp = true → s.get F.TT_CTRL_SOURCE = 1 → s.tt.refLocked = false → s.tt.holdRx = false →
    10000 ≤ s.get F.TT_REF_CTRL_REF_KHZ → s.get F.TT_REF_CTRL_REF_KHZ ≤ 312500 → khz = s.get F.TT_REF_CTRL_REF_KHZ →
    Answers (.ttRefRelock khz) s fun t => t.tt.refLocked = true ∧ t.flag F.TT_STATUS_REF_BAD = false ∧ t.tt.tt = s.tt.tt ∧
      (s.flag F.TT_STATUS_HOLDOVER = false → t.flag F.TT_STATUS_LOCKED = true ∧ t.evc = s.evc) ∧
      (s.flag F.TT_STATUS_HOLDOVER = true → s.get F.TT_SYNC_PERIOD_NS = 0 →
        t.flag F.TT_STATUS_HOLDOVER = false ∧ t.flag F.TT_STATUS_LOCKED = true ∧ t.evc = (raise 173 s).evc) ∧
      (s.flag F.TT_STATUS_HOLDOVER = true → s.get F.TT_SYNC_PERIOD_NS ≠ 0 → t.flag F.TT_STATUS_HOLDOVER = true) ∧
      Keeps s t [.tt, .evc] [R.TT_STATUS]) ∧
  (s.rst.coreUp = true → s.get F.TT_CTRL_SOURCE = 1 → s.tt.refLocked = false → s.get F.TT_REF_CTRL_REF_KHZ < 10000 →
    Answers (.ttRefRelock 0) s fun t => t.flag F.TT_STATUS_REF_BAD = true ∧ t.tt.refLocked = false) ∧
  (s.rst.coreUp = true → s.get F.TT_CTRL_SOURCE = 1 → s.tt.refLocked = true → s.get F.TT_REF_CTRL_REF_KHZ < 10000 →
    Answers (.ttRefRelock 0) s fun t => t.flag F.TT_STATUS_REF_BAD = true ∧ t.tt.refLocked = false ∧
      t.flag F.TT_STATUS_HOLDOVER = true))

/-- Adjustments through TT_ADJ_CTRL (R65, R67 to R69, R77, R979): a slew and a step that may start set ADJ_BUSY, any other GO
sets ADJ_REFUSED; CANCEL and completion clear ADJ_BUSY and raise 175, but CANCEL leaves a step that the head announced, and a
step less than 4 us away; a step whose time has come, and every entry due by then has fired, changes TT by its amount and moves
the deadlines by as much. -/
def Obligations.TtAdjust : Prop := ∀ (s : State) (p : Partner) (rate : Byte),
  (s.admits p R.TT_ADJ_CTRL → s.flag F.TT_STATUS_ADJ_BUSY = false → s.get F.TT_CTRL_SOURCE ≠ 2 → 1 ≤ rate.toNat →
    rate.toNat ≤ 200 → Answers (.ttSlewStart p rate) s fun t => t.told p .ok 0 ∧ t.flag F.TT_STATUS_ADJ_BUSY = true ∧
      t.get F.TT_ADJ_CTRL_RATE_PPM = rate.toNat ∧ t.tt.tt = s.tt.tt ∧
      t.tt.slew = some ⟨(s.rd R.TT_ADJ_AMOUNT).toInt + (s.tt.slew.map (·.left)).getD 0, rate.toNat, true⟩ ∧
      Keeps s t [.resp, .tt] [R.TT_ADJ_CTRL, R.TT_STATUS]) ∧
  (s.admits p R.TT_ADJ_CTRL → (s.flag F.TT_STATUS_ADJ_BUSY = true ∨ s.get F.TT_CTRL_SOURCE = 2 ∨ rate = 0 ∨ 200 < rate.toNat) →
    Answers (.ttSlewStart p rate) s fun t => t.told p .ok 0 ∧ t.flag F.TT_STATUS_ADJ_REFUSED = true ∧
      Keeps s t [.resp] [R.TT_ADJ_CTRL, R.TT_STATUS]) ∧
  (s.admits p R.TT_ADJ_CTRL → s.flag F.TT_STATUS_ADJ_BUSY = false → s.get F.TT_CTRL_SOURCE ≠ 2 →
    s.tt.tt.toNat + 256000 ≤ s.get64 R.TT_ADJ_AT_LO R.TT_ADJ_AT_HI →
    Answers (.ttStepArm p rate) s fun t => t.told p .ok 0 ∧ t.flag F.TT_STATUS_ADJ_BUSY = true ∧ t.tt.tt = s.tt.tt ∧
      t.tt.step = some ⟨BitVec.ofNat 64 (s.get64 R.TT_ADJ_AT_LO R.TT_ADJ_AT_HI), (s.rd R.TT_ADJ_AMOUNT).toInt, false, 0⟩ ∧
      Keeps s t [.resp, .tt] [R.TT_ADJ_CTRL, R.TT_STATUS]) ∧
  (s.admits p R.TT_ADJ_CTRL → (s.flag F.TT_STATUS_ADJ_BUSY = true ∨ s.get F.TT_CTRL_SOURCE = 2 ∨
      s.get64 R.TT_ADJ_AT_LO R.TT_ADJ_AT_HI < s.tt.tt.toNat + 256000) →
    Answers (.ttStepArm p rate) s fun t => t.told p .ok 0 ∧ t.flag F.TT_STATUS_ADJ_REFUSED = true ∧
      Keeps s t [.resp] [R.TT_ADJ_CTRL, R.TT_STATUS]) ∧
  (∀ (w : Slew), s.admits p R.TT_ADJ_CTRL → s.tt.step = none → s.tt.slew = some w → w.requested = true →
    Answers (.ttAdjCancel p rate false false) s fun t => t.told p .ok 0 ∧ t.tt.slew = none ∧ t.tt.tt = s.tt.tt ∧
      t.flag F.TT_STATUS_ADJ_BUSY = false ∧ t.evc = (raise 175 s).evc ∧
      Keeps s t [.resp, .tt, .evc] [R.TT_ADJ_CTRL, R.TT_STATUS]) ∧
  (∀ (q : StepPending), s.admits p R.TT_ADJ_CTRL → s.tt.step = some q → q.announced = true →
    Answers (.ttAdjCancel p rate false false) s fun t => t.told p .ok 0 ∧ Keeps s t [.resp] [R.TT_ADJ_CTRL]) ∧
  (∀ (q : StepPending), s.admits p R.TT_ADJ_CTRL → s.tt.step = some q → q.announced = false →
    Answers (.ttAdjCancel p rate false false) s fun t => t.told p .ok 0 ∧
      (s.tt.tt.toNat + 256000 ≤ q.at_.toNat → t.tt.step = none ∧ t.flag F.TT_STATUS_ADJ_BUSY = false ∧ t.evc = (raise 175 s).evc) ∧
      (q.at_.toNat < s.tt.tt.toNat + 256000 → t.tt.step = some q ∧ t.flag F.TT_STATUS_ADJ_REFUSED = true ∧ t.evc = s.evc)) ∧
  (∀ (w : Slew), s.admits p R.TT_ADJ_CTRL → s.tt.step = none → s.tt.slew = some w → w.requested = true →
    s.get F.TT_CTRL_SOURCE ≠ 2 → 1 ≤ rate.toNat → rate.toNat ≤ 200 →
    Answers (.ttAdjCancel p rate false true) s fun t => t.told p .ok 0 ∧ t.flag F.TT_STATUS_ADJ_BUSY = true ∧
      t.tt.slew = some ⟨(s.rd R.TT_ADJ_AMOUNT).toInt, rate.toNat, true⟩) ∧
  (∀ (w : Slew), s.tt.slew = some w → w.requested = true → w.left = 0 → Answers .ttSlewComplete s fun t =>
    t.tt.slew = none ∧ t.tt.tt = s.tt.tt ∧ t.flag F.TT_STATUS_ADJ_BUSY = false ∧ t.evc = (raise 175 s).evc ∧
      Keeps s t [.tt, .evc] [R.TT_STATUS]) ∧
  (∀ (q : StepPending), s.tt.step = some q → q.at_.toNat ≤ s.tt.tt.toNat → boundaryOpen s q.at_ = false →
    Answers .ttStepApply s fun t => t.tt.tt = s.tt.tt + BitVec.ofInt 64 q.amount ∧ t.tt.step = none ∧
      t.flag F.TT_STATUS_ADJ_BUSY = false ∧
      (q.amount ≤ 0 → (∀ n : Fin 16, lntState s n.val = 0) →
        t.evc = (raise 175 { s with tt := { s.tt with tt := t.tt.tt } }).evc) ∧
      ∀ k : Fin 21, (vget t.bb.points k).pending.map (·.deadline) =
        (vget s.bb.points k).pending.map fun r => r.deadline + ((t.tt.tt.toNat : Int) - s.tt.tt.toNat))

/-! ### Event Controller (18_event_controller.md) and fabric (08_fabric.md) -/

/-- What an event does to a source (R882, R884, R885, R890): an Idle source becomes Pending, a Pending one merges, one In
service is lost, a disabled one discards it; no other source changes. An event in the core cycle of a take of its source is
carried by that take, and one in the cycle of a message release by that message (R889, R893; the counting in EVC_MERGED is
log 128's). -/
def Obligations.SourceEvents : Prop := ∀ (s : State) (n : Fin 256),
  (s.rst.coreUp = true → (s.evc.source n.val).en = true → (s.evc.source n.val).state = .idle → ¬ s.takenNow n.val →
    (s.evc.source n.val).target ≠ 0 ∨ ¬ s.releasedNow ∧ s.evc.timer = none ∧ (s.evc.hostPending ≠ [] ∨ s.evc.held ≠ none ∨ s.fil.addr = 0) →
    Answers (.sourceEvent n) s fun t => t.evc.source n.val = { s.evc.source n.val with state := .pending } ∧
      (∀ m : Fin 256, m ≠ n → t.evc.source m.val = s.evc.source m.val) ∧ t.evc.merged = s.evc.merged ∧
      t.evc.timer = s.evc.timer ∧ t.evc.msgs = s.evc.msgs ∧ Keeps s t [.evc] []) ∧
  (s.rst.coreUp = true → (s.evc.source n.val).en = true → (s.evc.source n.val).state = .pending → (s.evc.source n.val).target ≠ 0 →
    exec (.sourceEvent n) s = .next { s with evc := { s.evcNow with
      merged := if s.evc.merged = 0xFFFFFFFF then 0xFFFFFFFF else s.evc.merged + 1 } }) ∧
  (s.rst.coreUp = true → (s.evc.source n.val).en = true → (s.evc.source n.val).state ≠ .pending → s.takenNow n.val →
    exec (.sourceEvent n) s = .next { s with evc := { s.evcNow with
      merged := if s.evc.merged = 0xFFFFFFFF then 0xFFFFFFFF else s.evc.merged + 1 } }) ∧
  (s.rst.coreUp = true → (s.evc.source n.val).en = true → (s.evc.source n.val).state = .idle → ¬ s.takenNow n.val →
    (s.evc.source n.val).target = 0 → s.releasedNow → Answers (.sourceEvent n) s fun t =>
      (t.evc.source n.val).state = (if (s.evc.source n.val).autoEnd then .idle else .inService) ∧ t.evc.tag = s.evc.tag ∧
      (t.evc.held.isSome = true ∨ t.evc.out ≠ []) ∧ t.evc.held = s.evc.held.map (HostMsg.add · n.val) ∧
      (s.evc.held = none → t.evc.out = s.evc.out.dropLast ++ s.evc.out.getLast?.toList.map (HostMsg.add · n.val)) ∧
      (∀ m : Fin 256, m ≠ n → t.evc.source m.val = s.evc.source m.val) ∧ Keeps s t [.evc] []) ∧
  (s.rst.coreUp = true → (s.evc.source n.val).en = true → (s.evc.source n.val).state = .inService → ¬ s.takenNow n.val →
    Answers (.sourceEvent n) s fun t => t.evc.source n.val = { s.evc.source n.val with lost := true } ∧ t.evc.lostAny = true ∧
      (∀ m : Fin 256, m ≠ n → t.evc.source m.val = s.evc.source m.val) ∧ Keeps s t [.evc] []) ∧
  ((s.evc.source n.val).en = false → exec (.sourceEvent n) s = .next s) ∧
  (s.rst.coreUp = true → (s.evc.source n.val).en = true → (s.evc.source n.val).state = .idle → (s.evc.source n.val).target = 0 →
    ¬ s.takenNow n.val → ¬ s.releasedNow → s.evc.hostPending = [] → s.evc.held = none → s.evc.timer = none → s.fil.addr ≠ 0 →
    s.flag F.SHD_STATUS_HALTED = false → 0 < s.evc.delay → s.evc.count ≠ 1 → Answers (.sourceEvent n) s fun t =>
      t.evc.source n.val = { s.evc.source n.val with state := .pending } ∧
      t.evc.timer = some ⟨s.tt.run, s.evc.delay, s.evc.count.toNat, 1⟩ ∧ Keeps s t [.evc] [])

/-- R878: a write to EVC_RAISE with GO = 1 raises the source named in SOURCE, by the same `raise` with which every owner raises
its own; with GO = 0 it raises none. -/
def Obligations.EvcRaise : Prop := ∀ (s : State) (p : Partner) (v : Word),
  (s.admits p R.EVC_RAISE → exec (.evcRaise p v) s = .next
    ((if v.getLsbD 31 then raise (v.toNat % 256) s else s).answer (.partner p) .ok 0))

/-- A write of EVC_SRCn (R880 to R882): EN and AUTO_END are stored; a Reserved TARGET is left out and sets BAD_TARGET; the
target in effect changes at once when the source is Idle, later otherwise; EN = 0 returns a Pending source to Idle.
The ends of services and messages (R886 to R889, R893, R895): EVC_END ends each named source that is In service, an event
of the same core cycle makes it Pending again and is not lost, and the expiry of the moderation timer releases one message that names every Pending host-targeted source. -/
def Obligations.SourceConfigAndServiceEnds : Prop :=
  (∀ (s : State) (p : Partner) (n : Fin 256) (v : Word),
  (s.admits p (0x00F000B00100 + 4 * n.val) → Answers (.evcSourceConfigWrite p n v) s fun t => t.told p .ok 0 ∧
    (t.evc.source n.val).en = v.getLsbD 31 ∧ (t.evc.source n.val).autoEnd = v.getLsbD 30 ∧
    (t.evc.source n.val).cfgTarget = (if v.toNat % 32 < 25 then v.toNat % 32 else (s.evc.source n.val).cfgTarget) ∧
    t.evc.badTarget = (s.evc.badTarget || decide (25 ≤ v.toNat % 32)) ∧
    (t.evc.source n.val).state = (if (s.evc.source n.val).state = .pending ∧ v.getLsbD 31 = false then .idle
      else (s.evc.source n.val).state) ∧
    (t.evc.source n.val).target = (if (t.evc.source n.val).state = .idle then (t.evc.source n.val).cfgTarget
      else (s.evc.source n.val).target) ∧
    (∀ m : Fin 256, m ≠ n → t.evc.source m.val = s.evc.source m.val) ∧ Keeps s t [.resp, .evc] [])) ∧
  (∀ (s : State) (p : Partner) (w : Fin 8) (v : Word),
  (s.admits p (R.EVC_END w.val) → s.evcEnv.level253 = false → s.evcEnv.level255 = false → s.noneLostNow →
    Answers (.evcEnd p w v) s fun t => t.told p .ok 0 ∧
      (∀ i : Fin 32, v.getLsbD i.val = true → (s.evc.source (32 * w.val + i.val)).state = .inService →
        ¬ s.takenNow (32 * w.val + i.val) → t.evc.source (32 * w.val + i.val) = { s.evc.source (32 * w.val + i.val) with
          state := .idle, target := (s.evc.source (32 * w.val + i.val)).cfgTarget }) ∧
      (∀ m : Fin 256, (m.val / 32 ≠ w.val ∨ v.getLsbD (m.val % 32) = false ∨
          (s.evc.source m.val).state ≠ .inService ∨ s.takenNow m.val) →
        t.evc.source m.val = s.evc.source m.val) ∧ Keeps s t [.resp, .evc] []) ∧
  (∀ (i : Fin 32) (was : Bool), s.admits p (R.EVC_END w.val) → s.evcEnv.level253 = false → s.evcEnv.level255 = false →
    (s.evc.source (32 * w.val + i.val)).state = .inService → (s.evc.source (32 * w.val + i.val)).en = true →
    ¬ s.takenNow (32 * w.val + i.val) → (s.evc.source (32 * w.val + i.val)).cfgTarget ≠ 0 →
    s.evcNow.goneOf (32 * w.val + i.val) = [(32 * w.val + i.val, was)] →
    Answers (.evcEnd p w (BitVec.ofNat 32 (2 ^ i.val))) s fun t => t.told p .ok 0 ∧
      t.evc.source (32 * w.val + i.val) = { s.evc.source (32 * w.val + i.val) with
        state := .pending, target := (s.evc.source (32 * w.val + i.val)).cfgTarget, lost := was }) ∧
  (∀ (q : ModTimer), swf Source.init s.evc.src = true → s.evc.timer = some q → q.start + 64 * q.delay ≤ s.tt.run →
    s.fil.addr ≠ 0 → s.flag F.SHD_STATUS_HALTED = false → s.evc.hostPending ≠ [] →
    s.evcEnv.level253 = false → s.evcEnv.level255 = false →
    Answers .moderationTimerExpiry s fun t => t.evc.timer = none ∧ t.evc.tag = s.evc.tag + 1 ∧
      t.evc.msgs = (if s.evc.msgs = 0xFFFFFFFF then 0xFFFFFFFF else s.evc.msgs + 1) ∧
      (s.fil.us.state = .active → t.evc.out = s.evc.out ++ [⟨s.evc.tag + 1, s.tt.tt, s.evc.hostPending, false⟩] ∧ t.evc.held = s.evc.held) ∧
      (s.fil.us.state ≠ .active → t.evc.held = some ⟨s.evc.tag + 1, s.tt.tt, s.evc.hostPending, true⟩ ∧ t.evc.out = s.evc.out) ∧
      (∀ m : Fin 256, m.val ∈ s.evc.hostPending → (t.evc.source m.val).state =
        if (s.evc.source m.val).autoEnd then .idle else .inService) ∧ Keeps s t [.evc] []) ∧
  (∀ (q : ModTimer), s.evc.timer = some q → q.start + 64 * q.delay ≤ s.tt.run → s.fil.addr ≠ 0 → s.flag F.SHD_STATUS_HALTED = false →
    s.evc.hostPending = [] → exec .moderationTimerExpiry s = .next { s with evc := { s.evcNow with timer := none } }))

/-- Fabric event lines and interrupt ports (R425 to R427): a rising edge on EVT[n] raises source n; FIRQ_ACK takes the
lowest-numbered Pending source of the port; FIRQ_END ends a source of the port that is In service, and no other. -/
def Obligations.FabricEvents : Prop := ∀ (s : State) (m : Fin 16) (src : Byte),
  (∀ (n : Fin 64), s.fabricOn = true → s.flag F.CFG_STATUS_DONE = true → Answers (.evtLineRise n) s fun t =>
    t.fab.evt.getLsbD n.val = true ∧ (∀ k : Fin 64, k ≠ n → t.fab.evt.getLsbD k.val = s.fab.evt.getLsbD k.val) ∧
      t.evc = (raise n.val s).evc ∧ Keeps s t [.fab, .evc] []) ∧
  (∀ (k : Nat), swf Source.init s.evc.src = true → s.fabricOn = true → s.flag F.CFG_STATUS_DONE = true →
    s.evc.lowestFor (9 + m.val) = some k →
    (s.evc.source k).state = .pending ∧ (s.evc.source k).target = 9 + m.val ∧
      Answers (.firqAck m) s fun t => t.evc.source k = { s.evc.source k with state := .inService } ∧
      (∀ j : Fin 256, j.val ≠ k → t.evc.source j.val = s.evc.source j.val) ∧
      (∀ j : Fin 256, j.val < k → ¬ ((s.evc.source j.val).state = .pending ∧ (s.evc.source j.val).target = 9 + m.val)) ∧
      Keeps s t [.evc] []) ∧
  (s.fabricOn = true → s.flag F.CFG_STATUS_DONE = true → s.evc.lowestFor (9 + m.val) = none → exec (.firqAck m) s = .next s) ∧
  (s.fabricOn = true → s.flag F.CFG_STATUS_DONE = true → (s.evc.source src.toNat).target = 9 + m.val →
    (s.evc.source src.toNat).state = .inService → s.evcEnv.level253 = false → s.evcEnv.level255 = false →
    ¬ s.takenNow src.toNat → s.noneLostNow → exec (.firqEnd m src) s = .next { s with evc := s.evcNow.put src.toNat { s.evc.source src.toNat with
      state := .idle, target := (s.evc.source src.toNat).cfgTarget } }) ∧
  (s.fabricOn = true → s.flag F.CFG_STATUS_DONE = true →
    (s.evc.source src.toNat).target ≠ 9 + m.val ∨ (s.evc.source src.toNat).state ≠ .inService ∨ s.takenNow src.toNat →
    Answers (.firqEnd m src) s fun t => (∀ k : Fin 256, t.evc.source k.val = s.evc.source k.val) ∧ Keeps s t [.evc] [])

/-! ### Block RAM, PLLs and UARTs (08_fabric.md) -/

/-- A block RAM write outside ECC mode (R395): the enabled bits of the word take the data; every other bit of every tile
keeps its value; a write through port B that meets one of port A in the same cycle is not performed and COLLIDED pulses (R397).
In ECC mode (R403, R404) a full write clears the word's error, and a partial write of an uncorrectable word
merges nothing and leaves it poisoned. Whether a tile is in ECC mode is the image's choice (R396).
Fabric PLLs (R415, R416, R442): a PLL in use locks, one that loses lock clears LOCKED, sets LOL and raises 254, and
RELOCK drops the lock.
The UARTs (R422), where the image enables UART n: a character enters the transmit FIFO, is sent, arrives, is read with
its flags; a full FIFO sets its overflow bit; the flushes empty the FIFOs; a UART that the image does not enable does nothing. -/
def Obligations.FabricUnits : Prop :=
  (∀ (s : State) (portB : Bool) (tile : Fin 3072) (width : Fin 7) (word : Nat)
    (data : BitVec 72) (be : BitVec 8),
  (clocked s (regionOfTile tile.val) = true → bramOther s portB tile.val = none →
    Answers (.bramWrite portB tile width word data be) s fun t =>
      (if tileEcc s tile.val then
        (be = 0xFF → (∀ b : Fin 64, bramGetBit t tile.val (72 * (word % 512) + b.val) = data.getLsbD b.val) ∧
          (s.flag F.RAS_INJ_CTRL_ARM = false → bramMarkOf t tile.val (word % 512) = none)) ∧
        (be ≠ 0xFF → bramMarkOf s tile.val (word % 512) = some (.uncorrectable false) →
          t.fab.bram = s.fab.bram ∧ t.fab.eccUncorr = true ∧
            (s.flag F.RAS_INJ_CTRL_ARM = false → bramMarkOf t tile.val (word % 512) = some .poison))
      else
        (∀ b : Fin 72, b.val < bramWidth width.val → bramGetBit t tile.val (bramBit width.val (word % bramDepth width.val) b.val) =
          if width.val < 3 ∨ be.getLsbD (b.val / 9) = true then data.getLsbD b.val
          else bramGetBit s tile.val (bramBit width.val (word % bramDepth width.val) b.val)) ∧
        (∀ (t' : Fin 3072) (k : Fin 36864), t' ≠ tile ∨ (∀ b : Fin 72, b.val < bramWidth width.val → k.val ≠ bramBit width.val (word % bramDepth width.val) b.val) →
          bramGetBit t t'.val k.val = bramGetBit s t'.val k.val)) ∧
      t.fab.collided = false ∧ Keeps s t [.fab, .ras] [R.RAS_INJ_CTRL, R.RAS_DET_CE 2, R.RAS_DET_UE 2, R.RAS_LOG_STATUS]) ∧
  (∀ l : BramLast, clocked s (regionOfTile tile.val) = true → bramOther s true tile.val = some l →
    (if tileEcc s tile.val then l.word = word % 512 else ∃ x ∈ l.old, ∃ b : Fin 72, b.val < bramWidth width.val ∧
      x.1 = bramBit width.val (word % bramDepth width.val) b.val ∧ (3 ≤ width.val → be.getLsbD (b.val / 9) = true)) →
    Answers (.bramWrite true tile width word data be) s fun t => t.fab.collided = true ∧ t.fab.bram = s.fab.bram ∧
      t.fab.bramMark = s.fab.bramMark ∧ Keeps s t [.fab] []) ∧
  (clocked s (regionOfTile tile.val) = true → bramOther s portB tile.val = none →
    Answers (.bramRead portB tile width word) s fun t => t.fab.bram = s.fab.bram ∧ t.fab.bramMark = s.fab.bramMark ∧
      (if tileEcc s tile.val then
        (∀ b : Fin 64, bitOf t.fab.bramOut b.val = bramGetBit s tile.val (72 * (word % 512) + b.val)) ∧
        (bramMarkOf s tile.val (word % 512) = none → t.fab.eccCorr = false ∧ t.fab.eccUncorr = false ∧ t.ras = s.ras) ∧
        (bramMarkOf s tile.val (word % 512) = some .poison → t.fab.eccCorr = false ∧ t.fab.eccUncorr = true)
      else
        (∀ b : Fin 72, b.val < bramWidth width.val → bitOf t.fab.bramOut b.val =
          bramGetBit s tile.val (bramBit width.val (word % bramDepth width.val) b.val)) ∧
        t.fab.eccCorr = false ∧ t.fab.eccUncorr = false ∧ t.ras = s.ras))) ∧
  (∀ (s : State) (p : Partner) (n : Fin 16) (v : Word),
  (s.flag (F.CLK_PLL_STATUS_EN n.val) = true →
    exec (.pllLock n) s = .next (s.set (F.CLK_PLL_STATUS_LOCKED n.val) 1)) ∧
  (s.flag (F.CLK_PLL_STATUS_LOCKED n.val) = true → Answers (.pllLossOfLock n) s fun t =>
    t.flag (F.CLK_PLL_STATUS_LOCKED n.val) = false ∧ t.flag (F.CLK_PLL_STATUS_LOL n.val) = true ∧
      t.evc = (raise 254 s).evc ∧ Keeps s t [.evc] [R.CLK_PLL_STATUS n.val]) ∧
  (s.admits p (R.CLK_PLL_CMD n.val) → exec (.relock p n v) s =
    .next ((s.set (F.CLK_PLL_STATUS_LOCKED n.val) 0).answer (.partner p) .ok 0))) ∧
  (∀ (s : State) (n : Fin 4) (ch : Byte) (b1 b2 b3 : Bool),
  (let u := vget s.fab.uarts n
   s.fabricOn = true → s.flag F.CFG_STATUS_DONE = true → Answers (.urtTx n ch) s fun t => Keeps s t [.fab] [] ∧
    if Config.imageUart s.cfg.frames n.val then
      (32 ≤ u.tx.length → vget t.fab.uarts n = { u with pend := u.pend ||| 0x20 }) ∧
      (u.tx.length < 32 → u.shift ≠ none → vget t.fab.uarts n = { u with tx := u.tx ++ [ch] }) ∧
      (u.tx = [] → u.shift = none → uartMayStart u = true → vget t.fab.uarts n = { u with shift := some ch })
    else t.fab = s.fab) ∧
  (let u := vget s.fab.uarts n
   u.rx = [] → exec (.urtRx n) s = .next ((if uartOn s n.val then
     { s with fab := { s.fab with uarts := vset s.fab.uarts n { u with lastRead := 0 } } } else s).answer (.uart n.val) .ok 0)) ∧
  (∀ (c : UrtChar), let u := vget s.fab.uarts n
   s.fabricOn = true → s.flag F.CFG_STATUS_DONE = true → u.rx.head? = some c → Answers (.urtRx n) s fun t =>
     Keeps s t [.fab, .resp] [] ∧
     if Config.imageUart s.cfg.frames n.val then
       t.resp = some ⟨.uart n.val, .ok, BitVec.ofNat 32 (2 ^ 31 + (if c.brk then 2 ^ 11 else 0) + (if c.frameErr then 2 ^ 10 else 0) +
         (if c.parityErr then 2 ^ 9 else 0) + c.ch.toNat % 2 ^ (5 + u.cfg.toNat % 4))⟩ ∧ (vget t.fab.uarts n).rx = u.rx.tail ∧
         (vget t.fab.uarts n).tx = u.tx
     else t.resp = some ⟨.uart n.val, .ok, 0⟩ ∧ t.fab = s.fab) ∧
  (let u := vget s.fab.uarts n
   s.fabricOn = true → s.flag F.CFG_STATUS_DONE = true → exec (.txFlush n) s = .next (if Config.imageUart s.cfg.frames n.val then
     { s with fab := { s.fab with uarts := vset s.fab.uarts n { u with tx := [] } } } else s)) ∧
  (let u := vget s.fab.uarts n
   s.fabricOn = true → s.flag F.CFG_STATUS_DONE = true → exec (.rxFlush n) s = .next (if Config.imageUart s.cfg.frames n.val then
     { s with fab := { s.fab with uarts := vset s.fab.uarts n { u with rx := [] } } } else s)) ∧
  (let u := vget s.fab.uarts n
   s.fabricOn = true → s.flag F.CFG_STATUS_DONE = true → Answers (.ctsNChange n b1) s fun t => (vget t.fab.uarts n).ctsHigh = b1 ∧
     Keeps s t [.fab] [] ∧ (Config.imageUart s.cfg.frames n.val = false → vget t.fab.uarts n = { u with ctsHigh := b1 }) ∧
     (Config.imageUart s.cfg.frames n.val = true → u.shift = none → uartMayStart { u with ctsHigh := b1 } = true →
       (vget t.fab.uarts n).shift = u.tx.head? ∧ (vget t.fab.uarts n).tx = u.tx.tail)) ∧
  (let u := vget s.fab.uarts n
   s.fabricOn = true → s.flag F.CFG_STATUS_DONE = true → u.cfg.getLsbD 8 = true → u.cfg.getLsbD 13 = false →
    Answers (.uartCharReceived n ch b1 b2 b3) s fun t => Keeps s t [.fab] [] ∧
     if Config.imageUart s.cfg.frames n.val then
       (u.rx.length < 32 → (vget t.fab.uarts n).rx = u.rx ++ [⟨ch, b1, b2, b3⟩] ∧
         ((vget t.fab.uarts n).pend.getLsbD 3 = (u.pend.getLsbD 3 || b1 || b2 || b3))) ∧
       (32 ≤ u.rx.length → (vget t.fab.uarts n).rx = u.rx ∧ (vget t.fab.uarts n).pend.getLsbD 4 = true)
     else t.fab = s.fab) ∧
  (∀ (c : Byte), let u := vget s.fab.uarts n
   s.fabricOn = true → s.flag F.CFG_STATUS_DONE = true → u.shift = some c → u.cfg.getLsbD 13 = false →
    Answers (.uartCharSent n) s fun t => Keeps s t [.fab] [] ∧
     if Config.imageUart s.cfg.frames n.val then
       (uartMayStart u = true → (vget t.fab.uarts n).shift = u.tx.head? ∧ (vget t.fab.uarts n).tx = u.tx.tail) ∧
       (uartMayStart u = false → (vget t.fab.uarts n).shift = none ∧ (vget t.fab.uarts n).tx = u.tx)
     else t.fab = s.fab) ∧
  (let u := vget s.fab.uarts n
   s.fabricOn = true → s.flag F.CFG_STATUS_DONE = true → u.rx ≠ [] → u.cfg.getLsbD 10 = false →
    u.lastRx + 4 * uartCharNs s n.val u ≤ s.clk.now → Answers (.rxIdle n) s fun t => Keeps s t [.fab] [] ∧
     if Config.imageUart s.cfg.frames n.val then vget t.fab.uarts n = { u with pend := u.pend ||| 4 } else t.fab = s.fab))

/-! ### The Filament links (03_filament_chain.md) -/

/-- Training (R107, R110, R136, R137, R143, R146, R149, R150, R156): a bad link word counts in CRC_ERRS, and at a CHAIN unit one of
a sync pair counts the pair as missed, once; TRAIN words count READY on each lane; 16 on both make the link Active with its
initial credits, or return it from Sleep as it was; a dozing link returns as it was; 10 us of silence or without an ACK, or a
RETRAIN bit, retrain an Active link; 1 ms of training without success takes it Down and drops its unacknowledged packets. -/
def Obligations.LinkTraining : Prop := ∀ (s : State) (port : Port) (lane : Fin 2) (ready : Bool) (sender : Byte)
    (bytes : List Byte) (p : Partner) (v : Word),
  (s.rst.coreUp = true → badWord bytes = true →
    port = .ds ∨ s.get F.TT_CTRL_SOURCE ≠ 2 ∨ (byteAt bytes 0 ≠ 0x87 ∧ byteAt bytes 0 ≠ 0x99) →
    exec (.badLinkWord port bytes) s = .next (s.incSat (errField port 2))) ∧
  (s.rst.coreUp = true → badWord bytes = true → s.get F.TT_CTRL_SOURCE = 2 → byteAt bytes 0 = 0x87 ∨ byteAt bytes 0 = 0x99 →
    Answers (.badLinkWord .us bytes) s fun t => t.get (errField .us 2) = satInc (s.get (errField .us 2)) 65535 ∧
      t.tt.missed = (if s.tt.badSync.any (fun x => decide (s.clk.now < x + 1000)) then s.tt.missed else s.tt.missed + 1) ∧
      t.tt.tt = s.tt.tt ∧ (s.tt.missed + 1 < 8 → Keeps s t [.tt] [R.FIL_US_ERR])) ∧
  (s.filUp = true → (s.link port).state = .training ∨ (s.link port).state = .down →
    Answers (.train port lane ready sender bytes) s fun t =>
      let was := fun n => if (s.link port).state = .training then n else 0
      (t.link port).state = .training ∧ (t.link port).neighbour = sender ∧
      (t.link port).ready0 = (if lane = 0 then (if ready then was (s.link port).ready0 + 1 else 0) else was (s.link port).ready0) ∧
      (t.link port).ready1 = (if lane = 1 then (if ready then was (s.link port).ready1 + 1 else 0) else was (s.link port).ready1) ∧
      (∀ i : Fin 4, vget (t.link port).initCredits i = (byteAt bytes i.val).toNat) ∧ Keeps s t [.fil] []) ∧
  (s.filUp = true → (s.link port).state = .training → 16 ≤ (s.link port).ready0 → 16 ≤ (s.link port).ready1 →
    (s.link port).waking = false → Answers (.linkActive port) s fun t =>
      (t.link port).state = .active ∧ (t.link port).credits = (s.link port).initCredits ∧
      (t.link port).txSeq = (if (s.link port).fromDown then 0 else (s.link port).txSeq) ∧
      (t.link port).rxSeq = (if (s.link port).fromDown then 0 else (s.link port).rxSeq) ∧
      (t.link port).replay = (s.link port).unacked.map Sent.seq ∧
      (port = .ds → s.fil.enumHeld = none → t.evc = (raise 222 s).evc) ∧ Keeps s t [.fil, .tt, .evc] []) ∧
  (s.filUp = true → (s.link port).waking = true →
    (s.link port).state = .doze ∨ ((s.link port).state = .training ∧ 16 ≤ (s.link port).ready0 ∧ 16 ≤ (s.link port).ready1) →
    Answers (.linkActive port) s fun t => (t.link port).state = .active ∧ (t.link port).waking = false ∧
      (t.link port).credits = (s.link port).credits ∧ (t.link port).txSeq = (s.link port).txSeq ∧
      (t.link port).rxSeq = (s.link port).rxSeq ∧ (t.link port).unacked = (s.link port).unacked ∧
      (s.fil.enumHeld = none → t.evc = s.evc) ∧ Keeps s t [.fil, .tt, .evc] []) ∧
  (s.isActive port = true → (s.link port).lastRx + 10000 ≤ s.clk.now → Answers (.linkSilenceTimeout port) s fun t =>
    (t.link port).state = .training ∧ t.get (errField port 0) = satInc (s.get (errField port 0)) 255 ∧
      (port = .us → s.get F.TT_CTRL_SOURCE = 2 → t.flag F.TT_STATUS_HOLDOVER = true) ∧
      Keeps s t [.fil, .evc, .tt] [R.FIL_US_ERR, R.FIL_DS_ERR, R.TT_STATUS]) ∧
  (s.isActive port = true → (s.link port).unacked ≠ [] → (s.link port).unackedAt + 10000 ≤ s.clk.now →
    Answers (.ackTimeout port) s fun t => (t.link port).state = .training ∧ (t.link port).unacked = (s.link port).unacked ∧
      Keeps s t [.fil, .evc, .tt] [R.FIL_US_ERR, R.FIL_DS_ERR, R.TT_STATUS]) ∧
  (s.admits p R.FIL_CTRL → s.fil.us.state = .active → Answers (.retrainUs p v) s fun t =>
    t.told p .ok 0 ∧ t.fil.us.state = .training ∧ t.fil.us.unacked = s.fil.us.unacked) ∧
  (s.admits p R.FIL_CTRL → s.fil.ds.state = .active → Answers (.retrainDs p v) s fun t =>
    t.told p .ok 0 ∧ t.fil.ds.state = .training ∧ t.fil.ds.unacked = s.fil.ds.unacked) ∧
  (s.filUp = true → (s.link port).state = .training → (s.link port).since + 1000000 ≤ s.clk.now →
    Answers (.linkTrainTimeout port) s fun t => (t.link port).state = .down ∧ (t.link port).unacked = [] ∧
      t.evc = (raise (if port = .us then 225 else 223) s).evc ∧ (port = .us → t.fil.ds = s.fil.ds) ∧
      (port = .ds → t.fil.ds.queue = []) ∧ Keeps s t [.fil, .evc] [])

/-- Packets (R112, R119, R120, R142 to R144, R147 to R150): a packet with a good CRC-32, the expected SEQ and a free buffer is
accepted and owed an ACK, the sixteenth at once; one with a bad CRC-32 or a SEQ to come is answered by one NAK, and one that came
before is owed an ACK again; link words leave first, then replays, then new packets, each of which takes a credit and a SEQ; ACK,
NAK and CREDIT words act on what is held. -/
def Obligations.LinkPackets : Prop := ∀ (s : State) (port : Port) (vc : Fin 4) (seq : BitVec 12) (nw : BitVec 6)
    (bytes : List Byte) (crc : Word),
  (s.isActive port = true → crc = crc32 (sopBytes vc.val seq.toNat nw.toNat ++ bytes) → seq.toNat = (s.link port).rxSeq →
    vget (s.link port).room vc ≠ 0 → Answers (.packetReceive port vc seq nw bytes crc) s fun t =>
      (t.link port).rxSeq = (seq.toNat + 1) % 4096 ∧ (t.link port).nakSent = false ∧
      (t.link port).ackOwed = (if 16 ≤ (s.link port).ackOwed + 1 then 0 else (s.link port).ackOwed + 1) ∧
      (t.link port).words = (s.link port).words ++
        (if 16 ≤ (s.link port).ackOwed + 1 then [.word (linkWord 0x55 (leBytes 2 seq.toNat))] else []) ∧
      (port = .ds → t.fil.upQueue = s.fil.upQueue ++ [⟨vc.val, nw.toNat, bytes⟩] ∧ t.fil.us = s.fil.us ∧
        vget t.fil.ds.room vc = vget s.fil.ds.room vc - 1) ∧
      Keeps s t [.fil, .evc] []) ∧
  (s.isActive port = true → crc ≠ crc32 (sopBytes vc.val seq.toNat nw.toNat ++ bytes) →
    Answers (.packetReceive port vc seq nw bytes crc) s fun t => (t.link port).rxSeq = (s.link port).rxSeq ∧
      (t.link port).nakSent = true ∧ (t.link port).words = (s.link port).words ++
        (if (s.link port).nakSent ∧ seq.toNat ≠ (s.link port).rxSeq then []
          else [.word (linkWord 0x66 (leBytes 2 (s.link port).rxSeq))]) ∧
      t.get (errField port 2) = satInc (s.get (errField port 2)) 65535 ∧
      t.fil.inbox = s.fil.inbox ∧ t.fil.upQueue = s.fil.upQueue ∧ Keeps s t [.fil] [(errField port 2).addr]) ∧
  (s.isActive port = true → crc = crc32 (sopBytes vc.val seq.toNat nw.toNat ++ bytes) → seq.toNat ≠ (s.link port).rxSeq →
    Answers (.packetReceive port vc seq nw bytes crc) s fun t => (t.link port).rxSeq = (s.link port).rxSeq ∧
      t.fil.inbox = s.fil.inbox ∧ t.fil.upQueue = s.fil.upQueue ∧
      ((s.link port).accepted < ((s.link port).rxSeq + 4096 - seq.toNat) % 4096 → (t.link port).nakSent = true ∧
        (t.link port).words = (s.link port).words ++
          (if (s.link port).nakSent then [] else [.word (linkWord 0x66 (leBytes 2 (s.link port).rxSeq))])) ∧
      (((s.link port).rxSeq + 4096 - seq.toNat) % 4096 ≤ (s.link port).accepted → (s.link port).ackOwed < 15 →
        (t.link port).ackOwed = (s.link port).ackOwed + 1 ∧ (t.link port).words = (s.link port).words) ∧
      Keeps s t [.fil] []) ∧
  (∀ (k : Packet), s.fil.upQueue.head? = some k → Answers .packetForwardUpstream s fun t =>
    t.fil.upQueue = s.fil.upQueue.tail ∧ t.fil.us.queue = s.fil.us.queue ++ [k] ∧
      vget t.fil.ds.owed (finOf 3 k.vc) = vget s.fil.ds.owed (finOf 3 k.vc) + 1 ∧ Keeps s t [.fil] []) ∧
  (∀ (w : List Byte), s.isActive port = true → (s.link port).words.head? = some (.word w) →
    Answers (.packetTransmit port) s fun t => ((t.link port).blocks.map Block.bytes).getLast? = some w ∧
      t = s.setLink port { s.link port with
        words := (s.link port).words.tail, wire := some (.word w), blocks := (t.link port).blocks
        blockNo := (t.link port).blockNo, scr := (t.link port).scr }) ∧
  (∀ (x : Sent) (q : Nat), s.isActive port = true → (s.link port).words = [] → (s.link port).replay.head? = some q →
    (s.link port).unacked.find? (fun y => y.seq == q) = some x → s.flag F.RAS_INJ_CTRL_ARM = false →
    Answers (.packetTransmit port) s fun t => (t.link port).replay = (s.link port).replay.tail ∧
      (t.link port).wire = some (.packet q x.packet (crc32 (sopBytes x.packet.vc q x.packet.words ++ x.packet.bytes))) ∧
      (t.link port).txSeq = (s.link port).txSeq ∧ (t.link port).credits = (s.link port).credits ∧
      (t.link port).unacked = (s.link port).unacked ∧ Keeps s t [.fil] []) ∧
  (∀ (k : Packet), s.isActive port = true → (s.link port).words = [] → (s.link port).replay = [] → (s.link port).unacked.length < 64 →
    port = .ds ∨ (s.evc.held = none ∧ s.evc.out = []) → nextPacket (s.link port) = some k → s.flag F.RAS_INJ_CTRL_ARM = false →
    Answers (.packetTransmit port) s fun t => (t.link port).queue = (s.link port).queue.erase k ∧
      (t.link port).wire = some (.packet (s.link port).txSeq k (crc32 (sopBytes k.vc (s.link port).txSeq k.words ++ k.bytes))) ∧
      (t.link port).txSeq = ((s.link port).txSeq + 1) % 4096 ∧
      (t.link port).unacked = (s.link port).unacked ++ [⟨(s.link port).txSeq, k, 0⟩] ∧
      vget (t.link port).credits (finOf 3 k.vc) = vget (s.link port).credits (finOf 3 k.vc) - 1 ∧ Keeps s t [.fil] []) ∧
  (s.isActive port = true → (s.link port).ackOwed ≠ 0 → exec (.ackSend port) s = .next (s.setLink port { s.link port with
    ackOwed := 0, words := (s.link port).words ++ [.word (linkWord 0x55 (leBytes 2 (((s.link port).rxSeq + 4095) % 4096)))] })) ∧
  (s.hears port = true → (s.link port).unacked.any (fun x => x.seq == seq.toNat) = true → Answers (.ack port seq) s fun t =>
    (t.link port).unacked = ((s.link port).unacked.dropWhile (fun x => x.seq != seq.toNat)).tail ∧
      (t.link port).state = (s.link port).state ∧ (t.link port).queue = (s.link port).queue ∧ Keeps s t [.fil] []) ∧
  (s.hears port = true → (s.link port).unacked.any (fun x => x.seq == seq.toNat) = true →
    Answers (.nak port seq) s fun t =>
      (t.link port).replay = ((s.link port).unacked.dropWhile (fun x => x.seq != seq.toNat)).map Sent.seq ∧
      (t.link port).unacked.map (fun x => (x.seq, x.packet)) = (s.link port).unacked.map (fun x => (x.seq, x.packet)) ∧
      t.get (errField port 1) = satInc (s.get (errField port 1)) 255 ∧
      ((s.link port).state = .active → (∃ x ∈ (s.link port).unacked, x.seq = seq.toNat ∧ 3 ≤ x.replays) →
        (t.link port).state = .training) ∧
      (((s.link port).unacked.map Sent.seq).Nodup → (∀ x ∈ (s.link port).unacked, x.replays < 3) →
        (t.link port).state = (s.link port).state ∧ t.evc = (raise (linkSource port) s).evc)) ∧
  (s.hears port = true → (s.link port).unacked.any (fun x => x.seq == seq.toNat) = false →
    exec (.nak port seq) s = .next (s.setLink port { s.link port with lastRx := s.clk.now })) ∧
  (s.hears port = true → Answers (.credit port bytes) s fun t =>
    (∀ i : Fin 4, vget (t.link port).credits i = vget (s.link port).credits i + (byteAt bytes i.val).toNat) ∧
      (t.link port).owed = (s.link port).owed ∧ Keeps s t [.fil] []) ∧
  (s.isActive port = true → (s.link port).owed.toList.any (fun n => n != 0) = true →
    exec (.creditSend port) s = .next (s.setLink port { s.link port with
      owed := Vector.replicate 4 0
      words := (s.link port).words ++ [.word (linkWord 0x78 ((s.link port).owed.toList.map (BitVec.ofNat 8)))] }))

/-- Link power (R162 to R164, R168, R174, R189): DS_PM asks the downstream neighbour; a unit whose upstream packets are all
acknowledged accepts DOZE_REQ and SLEEP_REQ, and what it has not sent is held; another refuses and its link stays as it is; ACCEPT
and REFUSE settle the downstream link; a low FIL_WAKE_N starts its return, from Sleep by training. -/
def Obligations.LinkPower : Prop := ∀ (s : State) (p : Partner) (v : Word),
  (s.admits p R.FIL_CTRL → s.fil.ds.state = .active → F.FIL_CTRL_DS_PM.of v = 1 ∨ F.FIL_CTRL_DS_PM.of v = 2 →
    Answers (.dsPm p v) s fun t => t.told p .ok 0 ∧ t.get F.FIL_CTRL_DS_PM = F.FIL_CTRL_DS_PM.of v ∧
      t.fil.ds = { s.fil.ds with words := s.fil.ds.words ++ [.word (linkWord 0xE1 [BitVec.ofNat 8 (F.FIL_CTRL_DS_PM.of v)])] } ∧
      t.fil.us = s.fil.us ∧ Keeps s t [.fil, .resp] [R.FIL_CTRL]) ∧
  (s.rst.coreUp = true → s.fil.us.state = .active ∨ s.fil.us.state = .doze ∨ s.fil.us.state = .sleep → s.fil.us.unacked = [] →
    Answers .dozeReq s fun t => t.fil.us.state = .doze ∧
      t.fil.us.wire = some (.word (linkWord 0xE1 [3])) ∧ t.fil.ds = s.fil.ds ∧
      (s.get F.TT_CTRL_SOURCE = 2 → t.flag F.TT_STATUS_HOLDOVER = true) ∧
      (s.evc.held = none → s.get F.TT_CTRL_SOURCE ≠ 2 → t.evc.held = s.evc.out.head?.map fun m => { m with held := true }) ∧
      (s.get F.TT_CTRL_SOURCE ≠ 2 → Keeps s t [.fil, .evc] [])) ∧
  (s.rst.coreUp = true → s.fil.us.state = .active ∨ s.fil.us.state = .doze ∨ s.fil.us.state = .sleep → s.fil.us.unacked = [] →
    Answers .sleepReq s fun t => t.fil.us.state = .sleep ∧
      t.fil.us.wire = some (.word (linkWord 0xE1 [3])) ∧ t.fil.ds = s.fil.ds) ∧
  (s.rst.coreUp = true → s.fil.us.state = .active ∨ s.fil.us.state = .doze ∨ s.fil.us.state = .sleep → s.fil.us.unacked ≠ [] →
    Answers .sleepReq s fun t => t.fil.us.state = s.fil.us.state ∧
      t.fil.us.wire = some (.word (linkWord 0xE1 [4])) ∧ t.fil.us.unacked = s.fil.us.unacked ∧ Keeps s t [.fil] []) ∧
  (s.isActive .ds = true → 1 ≤ s.get F.FIL_CTRL_DS_PM → s.get F.FIL_CTRL_DS_PM ≤ 2 → Answers .accept s fun t =>
    t.fil.ds.state = (if s.get F.FIL_CTRL_DS_PM = 1 then .doze
      else if s.wakeLow = true ∧ s.fil.addr ≠ 0 then .training else .sleep) ∧
      t.fil.us = s.fil.us ∧ Keeps s t [.fil] []) ∧
  (s.isActive .ds = true → Answers .refuse s fun t => t.fil.ds.state = .active ∧ t.fil.us = s.fil.us ∧ Keeps s t [.fil] []) ∧
  (s.rst.coreUp = true → s.fil.addr ≠ 0 → s.fil.ds.state = .doze →
    exec (.filWakeNLow true) s = .next { s with fil := { s.fil with wakeIn := true, ds := { s.fil.ds with waking := true } } }) ∧
  (s.rst.coreUp = true → s.fil.addr ≠ 0 → s.fil.ds.state = .sleep →
    exec (.filWakeNLow true) s = .next { s with fil := { s.fil with wakeIn := true, ds := { s.fil.ds with
      state := .training, waking := true, since := s.clk.now, ready0 := 0, ready1 := 0 } } })

/-! ### Tester Time and requests on the chain (03_filament_chain.md) -/

/-- Tester Time on the chain (R52 to R54, R59, R62, R153 to R159, R981): a sync pair is due downstream each 1.024 us, and the pair
that leaves carries TT of the instant it leaves, with the triple of a step that waits behind it; the first valid pair sets TT, a
later small error is slewed out, eight missed pairs put the unit into holdover; the first STEP triple arms the step; echoes
measure the hop delay. -/
def Obligations.ChainTime : Prop := ∀ (s : State) (hops flags tag : Byte) (pt : TT64) (amount : Word),
  (s.isActive .ds = true → s.flag F.TT_STATUS_RUNNING = true → s.tt.tt.toNat / 65536 ≠ s.tt.syncIdx →
    Answers .syncPairSend s fun t => t.tt.syncIdx = s.tt.tt.toNat / 65536 ∧ t.tt.tt = s.tt.tt ∧
      t.fil.ds.words = s.fil.ds.words ++ [.syncPair] ∧ Keeps s t [.fil, .tt] []) ∧
  (s.isActive .ds = true → s.flag F.TT_STATUS_RUNNING = false → s.tt.syncAt + 1024 ≤ s.clk.now →
    Answers .syncPairSend s fun t => t.tt.syncAt = s.clk.now ∧ t.tt.tt = s.tt.tt ∧
      t.fil.ds.words = s.fil.ds.words ++ [.syncPair] ∧ Keeps s t [.fil, .tt] []) ∧
  (∀ (port : Port), s.isActive port = true → (s.link port).words.head? = some .syncPair →
    Answers (.packetTransmit port) s fun t => (t.link port).wire = some (.pair
        (linkWord 0x87 ([BitVec.ofNat 8 (if s.get F.TT_CTRL_SOURCE = 2 then s.get F.TT_STATUS_HOPS else 0),
          BitVec.ofNat 8 ((if s.flag F.TT_STATUS_HOLDOVER then 1 else 0) + (if s.flag F.TT_STATUS_RUNNING then 2 else 0) +
            (if s.tt.step.isSome then 4 else 0))] ++ leBytes 4 (s.tt.tt.toNat / 2 ^ 32)))
        (linkWord 0x99 (leBytes 4 s.tt.tt.toNat))) ∧
      (t.link port).words = (match s.tt.step with
        | some q => [LinkOut.word (linkWord 0xAA (leBytes 4 (BitVec.ofInt 32 q.amount).toNat)),
            .word (linkWord 0xB4 (leBytes 4 (q.at_.toNat / 2 ^ 32))), .word (linkWord 0xBB (leBytes 4 q.at_.toNat))]
        | none => []) ++ (s.link port).words.tail ∧ Keeps s t [.fil] []) ∧
  (s.isActive .us = true → s.get F.TT_CTRL_SOURCE = 2 → flags.getLsbD 1 = true → s.flag F.TT_STATUS_EPOCH_VALID = false →
    Answers (.syncPair hops flags pt) s fun t => t.tt.tt = pt + BitVec.ofNat 64 (s.get F.TT_HOP_DELAY_DELAY) ∧
      t.flag F.TT_STATUS_EPOCH_VALID = true ∧ t.tt.slew = none ∧ t.get F.TT_STATUS_HOPS = (hops.toNat + 1) % 256 ∧
      (flags.getLsbD 0 = true → t.flag F.TT_STATUS_HOLDOVER = true)) ∧
  (s.isActive .us = true → s.get F.TT_CTRL_SOURCE = 2 → flags.getLsbD 1 = true → flags.getLsbD 0 = false →
    s.flag F.TT_STATUS_EPOCH_VALID = true → s.flag F.TT_STATUS_HOLDOVER = false → s.tt.phasePending = false → s.tt.slew = none →
    s.tt.step = none →
    (ttDiff s.tt.tt (pt + BitVec.ofNat 64 (s.get F.TT_HOP_DELAY_DELAY))).natAbs ≤ 128 → Answers (.syncPair hops flags pt) s fun t =>
      let e := ttDiff s.tt.tt (pt + BitVec.ofNat 64 (s.get F.TT_HOP_DELAY_DELAY))
      t.rd R.TT_SYNC_ERROR = BitVec.ofInt 32 e ∧ t.tt.tt = s.tt.tt ∧ t.tt.missed = 0 ∧
        t.tt.slew = (if e = 0 then none else some ⟨-e, 200, false⟩) ∧ Keeps s t [.fil, .tt] [R.TT_STATUS, R.TT_SYNC_ERROR]) ∧
  (s.isActive .us = true → s.get F.TT_CTRL_SOURCE = 2 → flags.getLsbD 1 = false → Answers (.syncPair hops flags pt) s fun t =>
    t.tt.missed = s.tt.missed + 1 ∧ t.tt.tt = s.tt.tt ∧ (7 ≤ s.tt.missed → t.flag F.TT_STATUS_HOLDOVER = true) ∧
      (s.tt.missed < 7 → s.tt.step = none → Keeps s t [.fil, .tt] [])) ∧
  (∀ (q : StepPending), s.isActive .us = true → s.get F.TT_CTRL_SOURCE = 2 → s.tt.step = some q → q.announced = true →
    1 ≤ q.pairsWithout → flags.getLsbD 1 = false → flags.getLsbD 2 = false → Answers (.syncPair hops flags pt) s fun t =>
      t.tt.step = none ∧ t.flag F.TT_STATUS_ADJ_BUSY = false ∧ t.tt.tt = s.tt.tt) ∧
  (s.isActive .us = true → s.get F.TT_CTRL_SOURCE = 2 → s.tt.step = none → s.tt.tt.toNat < pt.toNat →
    Answers (.stepTriple amount pt) s fun t => t.tt.step = some ⟨pt, amount.toInt, true, 0⟩ ∧ t.tt.tt = s.tt.tt ∧
      t.flag F.TT_STATUS_ADJ_BUSY = true ∧ Keeps s t [.fil, .tt] [R.TT_STATUS]) ∧
  (s.isActive .us = true → s.get F.TT_CTRL_SOURCE = 2 → s.tt.echoNext ≤ s.clk.now → Answers .echoMeasurement s fun t =>
    t.fil.us.words = s.fil.us.words ++ [.echoReq (s.tt.echoTag + 1)] ∧
      t.tt.echoTag = s.tt.echoTag + 1 ∧ t.tt.echoNext = s.clk.now + 1000000 ∧ Keeps s t [.fil, .tt] []) ∧
  (s.isActive .us = true → s.fil.us.words.head? = some (.echoReq tag) → Answers (.packetTransmit .us) s fun t =>
    t.fil.us.wire = some (.word (linkWord 0xC3 [tag])) ∧ t.tt.echoAt = some s.clk.now ∧ Keeps s t [.fil, .tt] []) ∧
  (∀ (res : List Byte), s.isActive .ds = true → Answers (.echoReq tag res) s fun t =>
    t.fil.ds.words = s.fil.ds.words ++ [.echoRsp tag s.clk.now] ∧ t.fil.us = s.fil.us ∧ Keeps s t [.fil] []) ∧
  (∀ (t0 : Nat), s.isActive .ds = true → s.fil.ds.words.head? = some (.echoRsp tag t0) → Answers (.packetTransmit .ds) s fun t =>
    t.fil.ds.wire = some (.word (linkWord 0xD2 (tag :: leBytes 4 (64 * (s.clk.now - t0))))) ∧ Keeps s t [.fil] []) ∧
  (∀ (t0 : Nat), s.isActive .us = true → s.tt.echoAt = some t0 → tag = s.tt.echoTag → Answers (.echoRsp tag amount) s fun t =>
    let l := (((64 * (s.clk.now - t0) - amount.toNat) / 2) :: s.tt.hopMeas).take 16
    t.tt.hopMeas = l ∧ t.get F.TT_HOP_DELAY_DELAY = l.sum / l.length % 2 ^ 32 ∧ t.tt.echoAt = none ∧ t.tt.tt = s.tt.tt ∧
      Keeps s t [.fil, .tt] [R.TT_HOP_DELAY])

/-- Requests from the chain (R113, R114, R118, R176, R179): a read or write of a register acts at once, one of another address
goes to the Backbone as master 0; a bulk read starts with its first 256 bytes; each word of a bulk write is a write of its own,
and waits for the words before it. -/
def Obligations.ChainRequests : Prop := ∀ (s : State) (k : Packet),
  (s.rst.coreUp = true → inboxHead s 0x01 = some k → isRegPage k.addr = true → s.gate .fil k.addr = none → k.rlen = 1 →
    Answers .rdReq s fun t => t.fil.inbox = s.fil.inbox.erase k ∧
      (let x := regReadWord 0 k.addr true (inboxDrop k s)
       t.fil.reads = s.fil.reads ++ [⟨s.fil.nextReq, k.tag, k.dest, k.addr, 1, false,
         [(k.addr, 4, some (x.1, leBytes 4 x.2.1.toNat))]⟩])) ∧
  (s.rst.coreUp = true → inboxHead s 0x01 = some k → isRegPage k.addr = false → s.gate .fil k.addr = none → 1 ≤ k.rlen →
    k.addr % 256 + 4 * k.rlen ≤ 256 → isShut s 0 = false → Answers .rdReq s fun t => t.fil.inbox = s.fil.inbox.erase k ∧
      t.fil.reads = s.fil.reads ++ [⟨s.fil.nextReq, k.tag, k.dest, k.addr, 1, false, [(k.addr, 4 * k.rlen, none)]⟩] ∧
      (t.bb.bursts.getLast?.map fun b => (b.req.id, b.req.master, b.req.write, b.req.addr, b.req.len)) =
        some (s.bb.nextId, 0, false, k.addr, 4 * k.rlen) ∧ t.bb.nextId = s.bb.nextId + 1 ∧ Keeps s t [.fil, .bb] []) ∧
  (s.rst.coreUp = true → inboxHead s 0x02 = some k → isRegPage k.addr = true → s.gate .fil k.addr = none → k.payload.length = 4 →
    Answers .wrReq s fun t =>
      (let x := regWriteWord 0 k.addr true (BitVec.ofNat 32 (leNat k.payload)) { inboxDrop k s with fil := { (inboxDrop k s).fil with nextReq := s.fil.nextReq + 1 } }
       t.regs = x.2.regs ∧ t.fil.writes = x.2.fil.writes ++ [⟨s.fil.nextReq, k.tag, k.dest, k.addr, 1, false,
         [(k.addr, 4, some (x.1, []))]⟩])) ∧
  (s.rst.coreUp = true → inboxHead s 0x02 = some k → isRegPage k.addr = false → s.gate .fil k.addr = none →
    k.payload ≠ [] → k.addr % 256 + k.payload.length ≤ 256 → isShut s 0 = false → Answers .wrReq s fun t =>
      t.fil.inbox = s.fil.inbox.erase k ∧
      t.fil.writes = s.fil.writes ++ [⟨s.fil.nextReq, k.tag, k.dest, k.addr, 1, false, [(k.addr, k.payload.length, none)]⟩] ∧
      (t.bb.bursts.getLast?.map fun b => (b.req.id, b.req.master, b.req.write, b.req.addr, b.req.data)) =
        some (s.bb.nextId, 0, true, k.addr, k.payload) ∧ Keeps s t [.fil, .bb] []) ∧
  (s.rst.coreUp = true → inboxHead s 0x04 = some k → isRegPage k.addr = false → s.gate .fil k.addr = none →
    s.fil.bulkRds = [] → k.addr % 256 = 0 → leAt k.payload 0 4 ≠ 0 → isShut s 0 = false → Answers .bulkRd s fun t =>
      let n := min 256 (leAt k.payload 0 4)
      t.fil.inbox = s.fil.inbox.erase k ∧
      t.fil.reads = s.fil.reads ++ [⟨s.fil.nextReq, k.tag, k.dest, k.addr, 3, n == leAt k.payload 0 4, [(k.addr, n, none)]⟩] ∧
      t.fil.bulkRds = (if leAt k.payload 0 4 ≤ 256 then [] else [⟨k.tag, k.dest, k.addr + 256, leAt k.payload 0 4 - 256⟩]) ∧
      Keeps s t [.fil, .bb] []) ∧
  (s.rst.coreUp = true → inboxHead s 0x03 = some k → isRegPage k.addr = false → s.gate .fil k.addr = none → s.bb.done = [] →
    s.fil.bulkTodo = [] → bulkBusy s = false → s.fil.bulks.any (fun b => b.tag == k.tag) = false → s.fil.bulks.length < 16 →
    k.addr % 4 = 0 → k.len = 4 → k.payload.length = 4 → isShut s 0 = false → Answers .bulkWr s fun t => t.fil.inbox = s.fil.inbox.erase k ∧
      t.fil.bulks = s.fil.bulks ++ [⟨k.tag, k.dest, 1, 0, 1, none, k.lastFlag⟩] ∧
      (t.bb.bursts.getLast?.map fun b => (b.req.master, b.req.write, b.req.addr, b.req.data)) = some (0, true, k.addr, k.payload) ∧
      Keeps s t [.fil, .bb] []) ∧
  (s.rst.coreUp = true → inboxHead s 0x03 = some k → s.bb.done = [] → bulkBusy s = true →
    s.fil.bulks.any (fun b => b.tag == k.tag) = false → s.fil.bulks.length < 16 → Answers .bulkWr s fun t =>
      t.fil.inbox = s.fil.inbox.erase k ∧ t.fil.bulkTodo = s.fil.bulkTodo ++ bulkWords k 0 ∧ Keeps s t [.fil] [])

/-- Answers, enumeration and control messages (R25, R27, R35, R114, R127, R130, R132, R177, R182, R183, R185): a finished request is
answered upstream; an ENUM gives an unaddressed unit its address, an addressed one passes it on or holds it until its downstream
link is Active; OWN takes the token, and comes before a Service Port Take of the same cycle; STAT_REQ and RESET are answered. -/
def Obligations.ChainAnswers : Prop := ∀ (s : State) (k : Packet),
  (∀ (r : OpenReq), s.rst.coreUp = true → s.bb.done = [] → s.fil.reads.find? OpenReq.complete = some r → r.vc ≠ 3 ∨ r.last = true →
    Answers .rdRsp s fun t => t.fil.reads = s.fil.reads.erase r ∧ t.fil.us.queue = s.fil.us.queue ++
      [mkPacket s r.vc 0x10 r.tag r.status.code (if r.last then 1 else 0) r.addr r.orig r.bytes] ∧ Keeps s t [.fil] []) ∧
  (∀ (r : OpenReq), s.rst.coreUp = true → s.bb.done = [] → s.fil.writes.find? OpenReq.complete = some r →
    Answers .wrRsp s fun t => t.fil.writes = s.fil.writes.erase r ∧ t.fil.us.queue = s.fil.us.queue ++
      [mkPacket s 1 0x11 r.tag r.status.code 0 r.addr r.orig []] ∧ Keeps s t [.fil] []) ∧
  (∀ (b : Bulk), s.rst.coreUp = true → s.bb.done = [] → s.fil.bulkTodo = [] →
    s.fil.bulks.find? (fun b => b.last && b.waiting == 0) = some b →
    Answers .bulkRsp s fun t => t.fil.bulks = s.fil.bulks.erase b ∧ t.fil.us.queue = s.fil.us.queue ++
      [match b.fail with
        | none => mkPacket s 1 0x12 b.tag 0 0 0 b.orig (leBytes 4 b.written ++ leBytes 6 0 ++ [0, 0])
        | some (_, a, st) => mkPacket s 1 0x12 b.tag st.code 0 0 b.orig (leBytes 4 b.written ++ leBytes 6 a ++ [st.code, 0])] ∧
      Keeps s t [.fil] []) ∧
  (s.rst.coreUp = true → s.fil.enumHeld = none → inboxHead s 0x20 = some k → s.fil.addr = 0 → s.flag F.SHD_STATUS_HALTED = false →
    badPacketRule k = false → byteAt k.payload 0 ≠ 0 → byteAt k.payload 0 ≠ 0xFF → s.fil.behind = [] → Answers .enumPkt s fun t =>
      t.fil.addr = byteAt k.payload 0 ∧ t.flag F.OWN_STATUS_ADDRESSED = true ∧
      t.flag F.OWN_STATUS_OWNER = (s.flag F.OWN_STATUS_OWNER || !s.flag F.SVP_HOLD_HOLD) ∧
      (t.fil.us.queue.getLast?.map fun x => (x.type, x.tag, x.src, byteAt x.bytes 6)) = some (0x21, k.tag, byteAt k.payload 0, 0)) ∧
  (s.rst.coreUp = true → s.fil.enumHeld = none → inboxHead s 0x20 = none → s.fil.behind.head? = some k → k.type = 0x20 →
    18 ≤ k.bytes.length → s.fil.ds.state = .active →
    Answers .enumPkt s fun t => t.fil.addr = s.fil.addr ∧ s.fil.ds.queue ++
      [{ k with bytes := splice k.bytes 17 [byteAt k.bytes 17 + 1] }] <+: t.fil.ds.queue ∧
      (s.fil.behind.tail = [] → Keeps s t [.fil] [])) ∧
  (s.rst.coreUp = true → s.fil.enumHeld = none → inboxHead s 0x20 = none → s.fil.behind.head? = some k → k.type = 0x20 →
    18 ≤ k.bytes.length → s.fil.ds.state ≠ .active →
    Answers .enumPkt s fun t => t.fil.addr = s.fil.addr ∧ t.fil.ds.queue = s.fil.ds.queue ∧ t.fil.us.queue = s.fil.us.queue ∧
      t.fil.enumHeld = some ({ k with bytes := splice k.bytes 17 [byteAt k.bytes 17 + 1] }, s.clk.now) ∧
      t.fil.behind = s.fil.behind.tail ∧ Keeps s t [.fil] []) ∧
  (∀ (h : Packet × Nat), s.rst.coreUp = true → s.fil.enumHeld = some h → h.2 + 1000000 ≤ s.clk.now → Answers .enumTimeout s fun t =>
    t.fil.enumHeld = none ∧ s.fil.us.queue ++ [enumResponse s h.1.tag .noUnit (byteAt h.1.bytes 17 - 1)] <+: t.fil.us.queue ∧
      (s.fil.behind = [] → Keeps s t [.fil] [])) ∧
  (s.rst.coreUp = true → s.fil.us.state = .active → s.fil.addr = 0 → s.fil.enumSeen = false → s.fil.enumTold ≠ some s.fil.us.activeAt →
    s.fil.us.activeAt + 500000000 ≤ s.clk.now → Answers .enumWait s fun t => t.flag F.FIL_STATUS_ENUM_WAIT = true ∧
      t.evc = (raise 224 s).evc ∧ Keeps s t [.fil, .evc] [R.FIL_STATUS]) ∧
  (s.rst.coreUp = true → inboxHead s 0x30 = some k → s.rst.warm = none → (∀ q ∈ s.svp.takeAt, q.1 ≠ s.clk.now) →
    Answers .own s fun t => t.owner = .fil ∧
    t.get F.OWN_STATUS_MOVE_COUNT = (s.get F.OWN_STATUS_MOVE_COUNT + (if s.owner = .fil then 0 else 1)) % 65536 ∧
      (t.fil.us.queue.getLast?.map fun x => (x.type, x.tag)) = some (0x31, k.tag) ∧
      Keeps s t [.fil, .evc] [R.OWN_STATUS]) ∧
  (s.rst.coreUp = true → inboxHead s 0x30 = some k → s.rst.warm = none → s.svp.takeAt = some (s.clk.now, false) →
    Answers .own s fun t => t.owner = .svp ∧
      (t.fil.us.queue.getLast?.map fun x => (x.type, x.tag)) = some (0x31, k.tag) ∧
      t.get F.OWN_STATUS_MOVE_COUNT = (s.get F.OWN_STATUS_MOVE_COUNT + (if s.owner = .fil then 1 else 2)) % 65536 ∧
      Keeps s t [.fil, .evc, .svp] [R.OWN_STATUS]) ∧
  (s.rst.coreUp = true → inboxHead s 0x32 = some k → Answers .statReq s fun t =>
    (t.fil.us.queue.getLast?.map fun x => (x.type, x.tag, (byteAt x.payload 0).toNat, (byteAt x.payload 1).getLsbD 3)) =
      some (0x33, k.tag, s.get F.OWN_STATUS_OWNER, s.flag F.CFG_STATUS_DONE) ∧ Keeps s t [.fil] []) ∧
  (s.rst.coreUp = true → inboxHead s 0x34 = some k → Answers .chainReset s fun t =>
    (t.fil.us.queue.getLast?.map fun x => (x.type, x.tag, byteAt x.bytes 6)) =
      some (0x35, k.tag, if s.owner = .fil then 0 else 1) ∧ Keeps s t [.fil] [])

/-! ### Service Port and Boot Flash Port (05_service_boot_ports.md) -/

/-- Service Port frames (R263, R264, R266 to R274, R277 to R280): a read frame returns its words and a status word; write frames
wait in order, each word committed in turn, a failing one recorded once; STATUS and TAKE answer, and a TAKE behind write frames
waits for them; a bad frame is rejected with its code and returns nothing. -/
def Obligations.ServiceFrames : Prop := ∀ (s : State) (f : List Byte) (n : Nat),
  (s.svpUp = true → s.svp.rd = none → s.svp.take = false → f.length = 12 → byteAt f 0 = 1 → 1 ≤ (byteAt f 1).toNat →
    (byteAt f 1).toNat ≤ 64 → exec (.svpRd (f.take 4) (f.drop 4)) s = .next { s with svp := { s.svp with
      rd := some ⟨leAt f 4 6, 0, (byteAt f 1).toNat, none, .ok, 0⟩, ret := [] } }) ∧
  (s.svpUp = true → s.svp.rd = none → s.svp.take = false → f.length = 12 + 4 * (byteAt f 1).toNat → byteAt f 0 = 2 →
    1 ≤ (byteAt f 1).toNat → (byteAt f 1).toNat ≤ 64 → s.svp.wr.length < 4 →
    Answers (.svpWr (f.take 4) (f.drop 4)) s fun t => t.svp = { s.svp with ret := [], wr := s.svp.wr ++ [⟨leAt f 4 6, 0,
        (List.range (byteAt f 1).toNat).map fun i => BitVec.ofNat 32 (leAt f (12 + 4 * i) 4)⟩] } ∧
      t.get F.SVP_FRAMES_ACCEPTED = satInc (s.get F.SVP_FRAMES_ACCEPTED) 65535 ∧ Keeps s t [.svp] [R.SVP_FRAMES]) ∧
  (s.svpUp = true → s.svp.rd = none → s.svp.take = false → f.length = 12 + 4 * (byteAt f 1).toNat → byteAt f 0 = 2 →
    1 ≤ (byteAt f 1).toNat → (byteAt f 1).toNat ≤ 64 → 4 ≤ s.svp.wr.length →
    Answers (.svpWr (f.take 4) (f.drop 4)) s fun t => t.svp = { s.svp with ret := [] } ∧ t.flag F.SVP_STATUS_FRAME_ERR = true ∧
      t.get F.SVP_STATUS_ERR_CODE = 5 ∧ t.get F.SVP_FRAMES_REJECTED = satInc (s.get F.SVP_FRAMES_REJECTED) 65535 ∧
      Keeps s t [.svp] [R.SVP_STATUS, R.SVP_FRAMES]) ∧
  (∀ (r : RdFrame), s.svpUp = true → s.svp.rd = some r → r.waiting = none → s.svp.wr = [] → r.left = 1 →
    r.addr = R.TT_EPOCH_LO → s.gate .svp r.addr = none → r.failStatus = .ok → Answers .svpReadWordReturn s fun t =>
      t.svp.ret = s.svp.ret ++ [s.rd R.TT_EPOCH_LO, 0] ∧ t.svp.rd = none ∧
      t.get F.SVP_FRAMES_ACCEPTED = satInc (s.get F.SVP_FRAMES_ACCEPTED) 65535 ∧ Keeps s t [.svp] [R.SVP_FRAMES]) ∧
  (∀ (r : RdFrame) (y : List Nat × Nat), s.svpUp = true → s.svp.rd = some r → r.waiting = some y →
    y.2 + 1000000 ≤ s.clk.now → allDone s y.1 = false → Answers .svpReadTimeout s fun t =>
      t.svp.ret = s.svp.ret ++ [0] ++ (if r.left ≤ 1 then
        [BitVec.ofNat 32 (if r.failStatus = .ok then 10 + 256 * r.index else r.failStatus.code.toNat + 256 * r.failIndex)] else []) ∧
      Keeps s t [.svp, .bb] [R.SVP_FRAMES]) ∧
  (∀ (w : WrFrame), s.svpUp = true → s.svp.wr.head? = some w → s.svp.wrWait = [] → w.words ≠ [] → w.addr = R.TT_EPOCH_LO →
    s.gate .svp w.addr = none → Answers .svpWriteWordCommit s fun t => t.rd R.TT_EPOCH_LO = w.words.headD 0 ∧
      t.svp.wr = (if w.words.length ≤ 1 then s.svp.wr.tail else ⟨w.addr + 4, w.index + 1, w.words.tail⟩ :: s.svp.wr.tail) ∧
      (s.svp.take = true → t.svp.wr = [] → t.svp.take = false ∧ t.owner = .svp ∧
        t.svp.ret = [BitVec.ofNat 32 (65536 * t.get F.OWN_STATUS_MOVE_COUNT)]) ∧
      (s.svp.take = false ∨ t.svp.wr ≠ [] → Keeps s t [.svp] [R.TT_EPOCH_LO])) ∧
  (∀ (w : WrFrame), s.svpUp = true → s.svp.wr.head? = some w → s.svp.wrWait = [] → w.words ≠ [] → s.svp.take = false →
    s.gate .svp w.addr = some .notOwner → s.flag F.SVP_STATUS_WR_FAIL = false → Answers .svpWriteWordCommit s fun t =>
      t.flag F.SVP_STATUS_WR_FAIL = true ∧ t.get F.SVP_STATUS_WR_STATUS = 1 ∧
      t.get F.SVP_STATUS_WR_INDEX = w.index % 64 ∧ Keeps s t [.svp] [R.SVP_STATUS]) ∧
  (s.svpUp = true → s.svp.rd = none → s.svp.take = false → f.length = 4 → byteAt f 0 = 3 → byteAt f 1 = 0 →
    Answers (.svpStatus f) s fun t => t.svp.ret = [svpStatusWord s] ∧
      t.get F.SVP_FRAMES_ACCEPTED = satInc (s.get F.SVP_FRAMES_ACCEPTED) 65535 ∧
      ((byteAt f 2).getLsbD 0 = true → t.flag F.SVP_STATUS_FRAME_ERR = false ∧ t.flag F.SVP_STATUS_WR_FAIL = false ∧
        t.get F.SVP_STATUS_ERR_CODE = 0) ∧
      ((byteAt f 2).getLsbD 0 = false → t.rd R.SVP_STATUS = s.rd R.SVP_STATUS) ∧ Keeps s t [.svp] [R.SVP_STATUS, R.SVP_FRAMES]) ∧
  (s.svpUp = true → s.svp.rd = none → s.svp.take = false → s.rst.warm = none → s.svp.wr = [] →
    Answers .svpTake s fun t => t.owner = .svp ∧
      t.svp.ret = [BitVec.ofNat 32 (65536 * t.get F.OWN_STATUS_MOVE_COUNT)] ∧
      t.get F.OWN_STATUS_MOVE_COUNT = (s.get F.OWN_STATUS_MOVE_COUNT + (if s.owner = .svp then 0 else 1)) % 65536 ∧
      Keeps s t [.svp, .evc] [R.OWN_STATUS, R.SVP_FRAMES]) ∧
  (s.svpUp = true → s.svp.rd = none → s.svp.take = false → s.rst.warm = none → s.svp.wr ≠ [] →
    exec .svpTake s = .next { s with svp := { s.svp with take := true, ret := [] } }) ∧
  (∀ (c : Nat), s.svpUp = true → rejectCode s (byteAt f 0).toNat (byteAt f 1).toNat n = some c →
    Answers (.svpFrameRejected (f.take 4) (f.drop 4) n) s fun t => t.flag F.SVP_STATUS_FRAME_ERR = true ∧ t.get F.SVP_STATUS_ERR_CODE = c ∧
      t.get F.SVP_FRAMES_REJECTED = satInc (s.get F.SVP_FRAMES_REJECTED) 65535 ∧ t.svp.ret = [] ∧ t.svp.rd = none ∧
      (s.svp.rd = none → t.bb = s.bb) ∧ Keeps s t [.svp, .bb] [R.SVP_STATUS, R.SVP_FRAMES])

/-- The Boot Flash Port (R284, R285, R287, R288, R292): EN stays set once written, a command runs when none runs and no load
reads through the port, its end clears BUSY and fills BFP_BUF, and a read without a strobe sets ERR. -/
def Obligations.BootFlash : Prop := ∀ (s : State) (p : Partner) (v : Word) (data : List Byte),
  (s.admits p R.BFP_CTRL → s.flag F.BFP_CTRL_EN = true → Answers (.bfpEnable p v) s fun t => t.told p .ok 0 ∧
    t.flag F.BFP_CTRL_EN = true ∧ Keeps s t [.resp] [R.BFP_CTRL]) ∧
  (s.admits p R.BFP_CMD → s.flag F.BFP_STATUS_BUSY = false → s.flag F.BFP_STATUS_CFG_ACTIVE = false →
    F.BFP_CMD_PROTO.of v ≠ 0 ∨ F.BFP_CMD_LEN.of v % 2 = 0 → Answers (.bfpCmd p v) s fun t => t.told p .ok 0 ∧
      t.flag F.BFP_STATUS_BUSY = true ∧ (t.bfp.cmd.map fun c => (c.write, c.len, c.opcode.headD 0)) =
        some (F.BFP_CMD_DIR.on v, min 256 (F.BFP_CMD_LEN.of v), BitVec.ofNat 8 (F.BFP_CMD_OPCODE.of v)) ∧
      Keeps s t [.resp, .bfp] [R.BFP_CMD, R.BFP_STATUS]) ∧
  (s.admits p R.BFP_CMD → s.flag F.BFP_STATUS_BUSY = true ∨ s.flag F.BFP_STATUS_CFG_ACTIVE = true →
    Answers (.bfpCmd p v) s fun t => t.flag F.BFP_STATUS_REFUSED = true ∧ Keeps s t [.resp] [R.BFP_CMD, R.BFP_STATUS]) ∧
  (∀ (c : FlashCmd), s.bfp.cmd = some c → c.write = false → c.len ≤ 256 → Answers (.bfpCommandComplete data) s fun t =>
    t.bfp.cmd = none ∧ t.flag F.BFP_STATUS_BUSY = false ∧ (bfpBuf t).take c.len = padTo c.len data ∧
      (bfpBuf t).drop c.len = (bfpBuf s).drop c.len ∧ Keeps s t [.bfp] (R.BFP_STATUS :: (List.range 64).map R.BFP_BUF)) ∧
  (∀ (c : FlashCmd), s.bfp.cmd = some c → c.octal = true → c.write = false → c.len ≠ 0 → Answers .bfpReadStrobeTimeout s fun t =>
    t.bfp.cmd = none ∧ t.flag F.BFP_STATUS_BUSY = false ∧ t.flag F.BFP_STATUS_ERR = true ∧ Keeps s t [.bfp] [R.BFP_STATUS])

/-! ### Reset and power (04_bringup_reset.md) -/

/-- A Warm reset (R185, R195, R225, R249): it keeps Tester Time, the chain address, the Pilot registers, block RAM (log 9), the
active region set and the queue, records its cause and scope and clears the engines, and bring-up begins 10 us after the request;
a chain RESET asks for one 1 us after its answer has left; during a Psiom pulse it waits, and is taken when the pulse has ended. -/
def Obligations.WarmReset : Prop := ∀ (s : State),
  (∀ (c : Cause), s.rst.coreUp = true → s.rst.warm = some c → s.psm.cmd = none → Answers .warmReset s fun t =>
    t.get F.RST_CAUSE_LAST_CAUSE = c.code ∧ t.flag F.RST_CAUSE_LAST_SCOPE = true ∧ t.rst.coreUp = false ∧
      t.rst.bringFrom = some (s.rst.warmAt + 10000) ∧ t.rst.warm = none ∧ t.tt.tt = s.tt.tt ∧ t.tt.lsc = 0 ∧ t.tt.step = none ∧
      t.fil.addr = (if s.rst.addrBad then 0 else s.fil.addr) ∧ t.fil.us.state = .training ∧
      t.rd (R.PLT_RET_USER 0) = s.rd (R.PLT_RET_USER 0) ∧ t.rd R.TT_CTRL = s.rd R.TT_CTRL ∧
      (∀ n : Fin 16, vget t.bcn n = BcnS.init ∧ vget t.lnt n = LntS.init ∧ t.flag (F.BCN_CTRL_EN n.val) = false ∧
        t.flag (F.LNT_CTRL_EN n.val) = false) ∧ t.fab.bram = s.fab.bram ∧ t.shd.regions = s.shd.regions ∧ t.jtag = s.jtag ∧
      t.psm.bytes = s.psm.bytes ∧ t.clk = s.clk ∧ t.pending = s.pending) ∧
  (∀ (c : Cause), s.rst.coreUp = true → s.rst.warm = some c → s.psm.cmd ≠ none → exec .warmReset s = .next { s with
    rst := { s.rst with warm := none, deferred := some (s.rst.deferred.getD (false, c)) }, fil := { s.fil with resetAt := none } }) ∧
  (∀ (t0 : Nat), s.rst.coreUp = true → s.rst.warm = none → s.fil.resetAt = some t0 → t0 + 1000 ≤ s.clk.now → s.psm.cmd = none →
    Answers .warmReset s fun t => t.get F.RST_CAUSE_LAST_CAUSE = 7 ∧ t.flag F.RST_CAUSE_LAST_SCOPE = true ∧
      t.rst.coreUp = false ∧ t.rst.bringFrom = some (t0 + 11000) ∧ t.fil.resetAt = none) ∧
  (∀ (c : Cause), s.rst.deferred = some (false, c) → s.psm.cmd = none → Answers .deferredReset s fun t =>
    t.get F.RST_CAUSE_LAST_CAUSE = c.code ∧ t.flag F.RST_CAUSE_LAST_SCOPE = true ∧ t.rst.coreUp = false ∧
      t.rst.bringFrom = some (s.clk.now + 10000) ∧ t.tt.tt = s.tt.tt ∧ t.rst.deferred = none)

/-- A Cold reset and the rails (R43, R194, R209, R210, R225, R228, R232, R246, R247, R936 to R938): a RESET_N pulse under 1 us is
ignored, a longer one resets the core until it rises; a failing rail resets it until the rails return; the loss of VCC_PILOT
ends Tester Time too; a wake from deep sleep is a Cold reset of its own cause. -/
def Obligations.ColdReset : Prop := ∀ (s : State) (ns : Nat),
  (ns < 1000 → exec (.resetNLow ns) s = .next s) ∧
  (1000 ≤ ns → s.rst.coreUp = true ∨ s.rst.bringFrom ≠ none → s.get F.PWR_STATUS_STATE ≠ 2 → s.psm.cmd = none →
    Answers (.resetNLow ns) s fun t =>
    t.rst.coreUp = false ∧ t.rst.resetN = false ∧ t.get F.RST_CAUSE_LAST_CAUSE = 3 ∧ t.flag F.RST_CAUSE_LAST_SCOPE = false ∧
      t.rst.bringFrom = none ∧ t.fil.addr = 0 ∧ t.tt.tt = s.tt.tt ∧ t.mem.bytes = [] ∧ t.mem.attr = [] ∧
      t.mem.lost = s.mem.lost.map (· + 1) ∧ t.stg.lost = s.stg.lost.map (· + 1) ∧ t.ras.log = [] ∧ t.shd.regions = [] ∧
      t.psm.bytes = s.psm.bytes ∧ t.rd (R.PLT_RET_USER 0) = s.rd (R.PLT_RET_USER 0) ∧ t.jtag = s.jtag ∧ t.clk = s.clk ∧
      t.pending = s.pending) ∧
  (1000 ≤ ns → s.rst.coreUp = true ∨ s.rst.bringFrom ≠ none → s.get F.PWR_STATUS_STATE ≠ 2 → s.psm.cmd ≠ none →
    exec (.resetNLow ns) s = .next { s with rst := { s.rst with resetN := false, deferred := some (true, .resetPin) } }) ∧
  (∀ (c : Cause), s.rst.deferred = some (true, c) → s.psm.cmd = none → Answers .deferredReset s fun t =>
    t.get F.RST_CAUSE_LAST_CAUSE = c.code ∧ t.flag F.RST_CAUSE_LAST_SCOPE = false ∧ t.fil.addr = 0 ∧ t.tt.tt = s.tt.tt ∧
      t.rst.coreUp = (s.rst.powered && s.rst.resetN && s.rst.corePwrEn) ∧ t.rst.deferred = none) ∧
  (s.rst.coreUp = false → s.rst.bringFrom = none → s.rst.powered = true → s.rst.corePwrEn = true →
    Answers .resetNRise s fun t => t.rst.coreUp = true ∧ t.rst.resetN = true ∧ t.rst.bringAt = s.clk.now ∧ t.rst.phase = 1 ∧
      t.tt.tt = s.tt.tt) ∧
  (s.get F.PWR_STATUS_STATE ≠ 2 → s.rst.coreUp = false → s.rst.bringFrom = none → s.rst.powered = false → s.rst.corePwrEn = true →
    s.rst.resetN = true → Answers .corePorRelease s fun t => t.rst.coreUp = true ∧ t.rst.powered = true ∧
      t.rst.bringAt = s.clk.now ∧ t.rst.phase = 1) ∧
  (s.rst.powered = true → s.rst.corePwrEn = true → Answers .vccCoreBrownout s fun t => t.rst.coreUp = false ∧
    t.rst.powered = false ∧ t.get F.RST_CAUSE_LAST_CAUSE = 2 ∧ t.flag F.RST_CAUSE_LAST_SCOPE = false ∧ t.tt.tt = s.tt.tt) ∧
  (s.rst.powered = true → s.rst.corePwrEn = true → Answers .railFailure s fun t => t.rst.coreUp = false ∧
    t.rst.powered = false ∧ t.get F.RST_CAUSE_LAST_CAUSE = 1 ∧ t.flag F.RST_CAUSE_LAST_SCOPE = false ∧ t.tt.tt = s.tt.tt) ∧
  (s.psm.cmd = none → Answers .pilotPowerFail s fun t => t.rst.coreUp = false ∧ t.rst.corePwrEn = false ∧ t.tt.tt = 0 ∧
    t.get F.RST_CAUSE_LAST_CAUSE = 0 ∧ t.flag F.RST_CAUSE_LAST_SCOPE = false ∧ t.get F.TT_CTRL_SOURCE = 0 ∧ t.get F.TT_CTRL_RELOCK_US = 1 ∧
    t.psm.bytes = s.psm.bytes ∧ t.jtag = TapS.init) ∧
  (s.rst.corePwrEn = false → s.get F.PWR_STATUS_STATE = 0 → exec .pilotPorRelease s = .next { s with
    rst := { s.rst with corePwrEn := true } }) ∧
  (s.get F.PWR_STATUS_STATE = 2 → s.rst.corePwrEn = true → Answers .deepWake s fun t => t.rst.coreUp = false ∧
    t.rst.powered = false ∧ t.get F.RST_CAUSE_LAST_CAUSE = 4 ∧ t.flag F.RST_CAUSE_LAST_SCOPE = false ∧ t.tt.tt = s.tt.tt ∧
    t.get F.PWR_STATUS_STATE = 0)

/-- What asks for a reset (R193, R195, R197, R199, R213 to R217, R224, R225, R233, R248, R250, R251): RST_CTRL and NL_EXIT only with
KEY 0xA5, a failed start, the debug port, a recovered brown-out; the first cause stands, and during a Psiom pulse the request is
deferred. An Engine reset fences its engine until it is complete; a request for an engine in reset has no effect. A cycle of
TCK moves the JTAG port as IEEE 1149.1 says, in every power state but deep sleep, and five with TMS high return its controller to
the reset state (R239, log 125). -/
def Obligations.ResetRequests : Prop := ∀ (s : State) (p : Partner) (v : Word),
  (s.admits p R.RST_CTRL → v.toNat / 256 % 256 = 0xA5 → exec (.rstCtrl p v) s = .next
    ({ s with rst := s.warmAsked .software }.answer (.partner p) .ok 0)) ∧
  (s.admits p R.RST_CTRL → v.toNat / 256 % 256 ≠ 0xA5 → exec (.rstCtrl p v) s = .next (s.answer (.partner p) .ok 0)) ∧
  (s.admits p R.NL_EXIT → v.toNat / 256 % 256 = 0xA5 → Answers (.nlExit p v) s fun t => t.told p .ok 0 ∧
    t.get F.RST_FAIL_FAIL_COUNT = 0 ∧ t.rst = s.warmAsked .nlExit ∧ Keeps s t [.resp, .rst] [R.RST_FAIL]) ∧
  (s.admits p R.NL_EXIT → v.toNat / 256 % 256 ≠ 0xA5 → exec (.nlExit p v) s = .next (s.answer (.partner p) .ok 0)) ∧
  (s.admits p R.RST_START_OK → exec (.rstStartOk p v) s = .next ((s.set F.RST_FAIL_FAIL_COUNT 0).answer (.partner p) .ok 0)) ∧
  (s.rst.coreUp = true → exec .jtagDebugRequest s = .next { s with rst := s.warmAsked .debug }) ∧
  (s.rst.coreUp = false → exec .jtagDebugRequest s = .next s) ∧
  (s.get F.PWR_STATUS_STATE ≠ 2 → (tapTick s).jtag = (match Config.tapEdge s.clk.now with
      | some x => ({ s.jtag with tdo := [] } : TapS).clock ((List.range Config.tapBoundaryLength).map fun i => bitOf s.free i) x
      | none => s.jtag) ∧ Keeps s (tapTick s) [.jtag, .clk] []) ∧
  (s.get F.PWR_STATUS_STATE = 2 → tapTick s = s) ∧
  (∀ (pins : List Bool) (b : Bool),
    let t := (List.replicate 5 (true, b)).foldl (fun t x => t.clock pins x) s.jtag
    t.state = .reset ∧ t.ir = tapBypass) ∧
  (s.rst.coreUp = true → s.flag F.RST_FAIL_NIGHTLIGHT = false → s.rst.doneAt = none → s.get F.RST_START_TIMEOUT_MS ≠ 0 →
    s.rst.warm = none → s.rst.deferred = none →
    s.rst.bringAt + 1000000 * s.get F.RST_START_TIMEOUT_MS < s.clk.now →
    Answers .startTimeout s fun t => t.get F.RST_FAIL_FAIL_COUNT = min 7 (s.get F.RST_FAIL_FAIL_COUNT + 1) ∧
      t.rst = s.warmAsked .startTimeout ∧ t.evc = (raise 245 s).evc ∧ Keeps s t [.rst, .evc] [R.RST_FAIL]) ∧
  (∀ (t0 : Nat), s.rst.bowAt = some t0 → s.rst.coreUp = true → t0 + 1000000 ≤ s.clk.now →
    Answers .bowRecover s fun t => t.rst = s.warmAsked .bowRecover ∧ Keeps s t [.rst] []) ∧
  (s.admits p R.RST_ENGINE → v.toNat % 64 ∉ s.rst.engines → v.toNat % 64 < 0x28 → Answers (.rstEngine p v) s fun t => t.told p .ok 0 ∧
    t.rst.engines = s.rst.engines ++ [v.toNat % 64] ∧ t.flag F.RST_ENGINE_BUSY = true ∧
    isFenced t (if v.toNat % 64 < 0x20 then 16 + v.toNat % 64 else v.toNat % 64 - 0x18) = true) ∧
  (s.admits p R.RST_ENGINE → v.toNat % 64 ∉ s.rst.engines → 0x28 ≤ v.toNat % 64 → v.toNat % 64 < 0x2C →
    Answers (.rstEngine p v) s fun t => t.told p .ok 0 ∧
    t.rst.engines = s.rst.engines ++ [v.toNat % 64] ∧ t.flag F.RST_ENGINE_BUSY = true) ∧
  (s.admits p R.RST_ENGINE → v.toNat % 64 ∈ s.rst.engines → exec (.rstEngine p v) s = .next (s.answer (.partner p) .ok 0)) ∧
  (∀ (e : Nat), s.rst.engines.head? = some e → e < 0x28 → Answers .engineResetComplete s fun t => t.rst.engines = s.rst.engines.tail ∧
    t.flag F.RST_ENGINE_BUSY = !s.rst.engines.tail.isEmpty ∧ isFenced t (if e < 0x20 then 16 + e else e - 0x18) = false)

/-- Power states and the brown-out warning (R229, R230, R233, R240 to R244): Standby is refused while a Lantern, a Beacon or a
lane is enabled, deep sleep outside Standby; RUN starts the return to Run; the warning sets BOW and freezes the Schedule Unit. -/
def Obligations.PowerStates : Prop := ∀ (s : State) (p : Partner) (v : Word),
  (s.admits p R.PWR_CTRL → s.get F.PWR_STATUS_STATE = 0 → anyEnabled s = false → Answers (.standby p v) s fun t =>
    t.told p .ok 0 ∧ t.get F.PWR_STATUS_STATE = 1 ∧ t.get F.PWR_CTRL_STATE = 1 ∧ t.tt.tt = s.tt.tt ∧ t.fab = s.fab) ∧
  (s.admits p R.PWR_CTRL → anyEnabled s = true → Answers (.standby p v) s fun t =>
    t.told p .ok 0 ∧ t.get F.PWR_STATUS_STATE = s.get F.PWR_STATUS_STATE ∧ t.flag F.PWR_STATUS_REFUSED = true ∧ t.evc = (raise 248 s).evc ∧
      t.get F.PWR_CTRL_STATE = s.get F.PWR_CTRL_STATE ∧ Keeps s t [.resp, .evc] [R.PWR_CTRL, R.PWR_STATUS]) ∧
  (s.admits p R.PWR_CTRL → s.get F.PWR_STATUS_STATE = 1 → Answers (.run p v) s fun t => t.told p .ok 0 ∧ t.rst.exiting = true ∧
    t.get F.PWR_STATUS_STATE = 1 ∧ Keeps s t [.resp, .rst] [R.PWR_CTRL]) ∧
  (s.admits p R.PWR_CTRL → (s.get F.PWR_STATUS_STATE ≠ 1 ∨ s.evc.held.isSome = true ∨ s.psm.cmd.isSome = true ∨
      s.psm.suspended.isSome = true) → Answers (.deep p v) s fun t => t.told p .ok 0 ∧ t.flag F.PWR_STATUS_REFUSED = true ∧ t.evc = (raise 248 s).evc ∧
      t.get F.PWR_STATUS_STATE = s.get F.PWR_STATUS_STATE ∧ Keeps s t [.resp, .evc] [R.PWR_CTRL, R.PWR_STATUS]) ∧
  (s.get F.PWR_STATUS_STATE = 1 → s.rst.exiting = true → Answers .standbyExitComplete s fun t =>
    t.get F.PWR_STATUS_STATE = 0 ∧ t.rst.exiting = false ∧ t.tt.tt = s.tt.tt) ∧
  (s.admits p R.PWR_CTRL → s.get F.PWR_STATUS_STATE = 1 → s.evc.held = none → s.psm.cmd = none → s.psm.suspended = none →
    Answers (.deep p v) s fun t => t.told p .ok 0 ∧ t.get F.PWR_STATUS_STATE = 2 ∧ t.rst.corePwrEn = false ∧
    t.rst.coreUp = false ∧ t.tt = { s.tt with slew := none, slewAcc := 0, step := none }) ∧
  (s.rst.coreUp = true → s.rst.bowAt = none → Answers .brownoutWarning s fun t => t.flag F.PWR_STATUS_BOW = true ∧
    t.flag F.SCH_STATUS_FROZEN = true ∧ t.rst.bowAt = some s.clk.now ∧ t.sch.frozenTt = ttFloor s.tt.tt ∧
    t.sch.frozenLsc = s.tt.lsc ∧ t.evc = (raise 244 s).evc ∧ Keeps s t [.rst, .sch, .evc] [R.PWR_STATUS, R.SCH_STATUS])

/-! ### Configuration and regions (06_zenum_images.md, 07_regions.md) -/

/-- CFG_CTRL, the FIFO and reloads (R329, R332, R335 to R339, R341, R342, R347): GO starts a load when none runs; FIFO words join a
running FIFO load and fail with BUS_ERR otherwise; ABORT fails the load; RELEASE starts the held regions, and a full
image is DONE 1 us later; a waiting reload starts when the engine is free; 50 ms of TT with input and no progress ask for a Warm
reset. -/
def Obligations.ConfigCommands : Prop := ∀ (s : State) (p : Partner) (v : Word),
  (s.admits p R.CFG_CTRL → s.cfg.load = none → F.CFG_CTRL_SRC.of v ≠ 3 → F.CFG_CTRL_RELEASE.on v = false →
    Answers (.cfgGo p v) s fun t => t.told p .ok 0 ∧ t.flag F.CFG_STATUS_BUSY = true ∧
      t.get F.CFG_STATUS_ACTIVE_SRC = F.CFG_CTRL_SRC.of v ∧ t.get F.CFG_PROGRESS_FRAMES = 0 ∧
      (t.cfg.load.map fun l => (l.src, l.cs, l.addr, l.raw, l.blocks, l.error)) =
        some (F.CFG_CTRL_SRC.of v, F.CFG_CTRL_CS.of v, (s.rd R.CFG_SRC_ADDR).toNat, [], 0, none) ∧
      (F.CFG_CTRL_SRC.of v = 1 → t.flag F.BFP_STATUS_CFG_ACTIVE = true) ∧
      Keeps s t [.resp, .cfg, .psm, .bfp] [R.CFG_CTRL, R.CFG_STATUS, R.CFG_PROGRESS, R.BFP_STATUS]) ∧
  (s.admits p R.CFG_CTRL → s.cfg.load.isSome = true → F.CFG_CTRL_RELEASE.on v = false → Answers (.cfgGo p v) s fun t =>
    t.told p .ok 0 ∧ t.flag F.CFG_STATUS_REFUSED = true ∧ (F.CFG_CTRL_ABORT.on v = false → t.cfg = s.cfg) ∧
      (F.CFG_CTRL_ABORT.on v = true → ∀ l ∈ s.cfg.load, l.error = none →
        t.cfg.load = some { l with error := some (0xB, l.stream.length), abortAt := some s.clk.now }) ∧
      Keeps s t [.resp, .cfg] [R.CFG_CTRL, R.CFG_STATUS]) ∧
  (∀ (l : Load), s.admits p R.CFG_CTRL → s.cfg.load = some l → l.src = 0 → l.error = none → allReceived l = false →
    exec (.cfgFifoWrite p v) s = .next ({ s with cfg := { s.cfg with load := some { l with
      raw := l.raw ++ leBytes 4 v.toNat, got := l.got + 4 } } }.answer (.partner p) .ok 0)) ∧
  (s.admits p R.CFG_CTRL → (∀ l ∈ s.cfg.load, l.src ≠ 0 ∨ l.error ≠ none ∨ allReceived l = true) →
    exec (.cfgFifoWrite p v) s = .next (s.answer (.partner p) .busErr 0)) ∧
  (∀ (l : Load), s.admits p R.CFG_CTRL → s.cfg.load = some l → l.error = none → F.CFG_CTRL_RELEASE.on v = false →
    Answers (.cfgAbort p v) s fun t => t.told p .ok 0 ∧ t.cfg.load = some { l with
        error := some (0xB, l.stream.length), abortAt := some s.clk.now } ∧
      Keeps s t [.resp, .cfg] [R.CFG_CTRL]) ∧
  (s.admits p R.CFG_CTRL → s.flag F.CFG_STATUS_HELD = true → (∀ r ∈ s.cfg.held, r.1 ≤ 24) → Answers (.cfgRelease p v) s fun t =>
    t.told p .ok 0 ∧ t.flag F.CFG_STATUS_HELD = false ∧ t.cfg.held = [] ∧
      (∀ r ∈ s.cfg.held, r.1 < 24 → t.get (F.RGN_STATUS_STATE r.1) = 4 ∧ (vget t.rgn (finOf 23 r.1)).initAt = some s.clk.now ∧
        (vget t.rgn (finOf 23 r.1)).clocks = true) ∧
      t.cfg.starting = s.cfg.starting ++ [(s.cfg.heldFull, s.clk.now, s.cfg.held.map (·.1))]) ∧
  (∀ (r : Nat), s.cfg.load = none → s.cfg.waiting.head? = some r → r < 24 → Answers .configReloadStart s fun t =>
    t.cfg.waiting = s.cfg.waiting.tail ∧ t.flag F.CFG_STATUS_BUSY = true ∧
      (t.cfg.load.map fun l => (l.src, l.addr, l.reload)) =
        some (if s.flag (F.CFG_RELOAD_SRC r) then 2 else 1, 16 * s.get (F.CFG_RELOAD_ADDR16 r), some r)) ∧
  (∀ (l : Load), s.cfg.load = some l → unconsumed l = true → l.lastProgress + 50000000 ≤ s.elapsed →
    Answers .configLockup s fun t => t.rst = s.warmAsked .cfgLockup ∧ Keeps s t [.rst] []) ∧
  (∀ (t0 : Nat) (l : List Nat) (rest : List (Bool × Nat × List Nat)), s.cfg.starting = (true, t0, l) :: rest → s.fabricOn = true →
    t0 + 1000 ≤ s.clk.now → (∀ r ∈ l, r = 24 ∨ (s.rgnOf r).initAt = none) → (cfgTick s).flag F.CFG_STATUS_DONE = true ∧
      (cfgTick s).rst.ioReleased = true ∧ (cfgTick s).cfg.starting = rest)

/-- A load's steps (R301, R302, R319 to R323, R328, R329, R331, R343, R345, R348, R349): a block counts only after its CRC-32, an
unplaced logic frame is written with zeros and no other frame changes, the digest decides whether the regions enter Initializing
and start or are held, the first error ends the load, and the readback pass marks exactly the Running regions that differ from their reference. -/
def Obligations.ConfigSteps : Prop := ∀ (s : State),
  (∀ (l : Load) (h : ZHdr), s.cfg.load = some l → l.hdr = some h → l.checked = true → l.error = none → l.src = 0 → l.blocks = 0 →
    h.streamLen = 128 → l.stream = [] → l.raw.length = 132 → Answers (.configBlockCheck []) s fun t =>
      t.cfg.load = (if leAt l.raw 128 4 = (crc32 (l.raw.take 128)).toNat then
          some { l with raw := [], stream := l.raw.take 128, blocks := 1, lastProgress := s.elapsed }
        else some { l with raw := [], error := some (7, 0) }) ∧ Keeps s t [.cfg] []) ∧
  (∀ (l : Load) (h : ZHdr) (z : ZRgn) (f : Nat), s.cfg.load = some l → l.hdr = some h → l.todo.head? = some z → l.checked = true →
    l.error = none → h.full = false → z.region < 24 → s.get (F.RGN_STATUS_STATE z.region) = 3 → frameAtCursor z l.frame = some (f, none) →
    f < 0x32800 → Answers .configFrameWrite s fun t =>
      (∀ i : Fin 256, sget (fun _ => (0 : Byte)) t.cfg.frames (256 * f + i.val) = 0) ∧
      (∀ a : Fin 53000000, a.val / 256 ≠ f → sget (fun _ => (0 : Byte)) t.cfg.frames a.val = sget (fun _ => 0) s.cfg.frames a.val) ∧
      (t.cfg.load.map (·.frame)) = some (l.frame + 1) ∧
      t.get F.CFG_PROGRESS_FRAMES = (s.get F.CFG_PROGRESS_FRAMES + 1) % 2 ^ 32 ∧
      Keeps s t [.cfg] [R.CFG_PROGRESS]) ∧
  (∀ (l : Load) (h : ZHdr) (z : ZRgn), s.cfg.load = some l → l.hdr = some h → l.todo.head? = some z → l.checked = true →
    l.error = none → h.full = false → z.region < 24 → s.get (F.RGN_STATUS_STATE z.region) = 3 → frameAtCursor z l.frame = none →
    Answers .configFrameWrite s fun t => sget (fun _ => []) t.cfg.refs z.region = sha256 l.refIn ∧
      (t.cfg.load.map fun x => (x.todo, x.frame)) = some (l.todo.tail, 0) ∧ t.cfg.frames = s.cfg.frames) ∧
  (∀ (l : Load) (h : ZHdr), s.cfg.load = some l → l.hdr = some h → l.checked = true → l.error = none → l.todo = [] →
    l.tokPos = h.dictLen → l.dictOut.length = 256 * h.dictFrames → sha256 l.digestIn = h.digest → (∀ r ∈ l.names, r.1 ≤ 24) →
    (l.names.map (·.1)).Nodup →
    Answers .configDigestCheck s fun t => t.cfg.load = none ∧ t.flag F.CFG_STATUS_BUSY = false ∧
      (∀ r ∈ l.names, r.1 < 24 → t.flag (F.RGN_STATUS_FRAMES_VALID r.1) = true ∧
        t.flag (F.RGN_STATUS_START_STATE r.1) = r.2 ∧ t.get (F.RGN_STATUS_STATE r.1) = 4) ∧
      (h.hold = true → t.flag F.CFG_STATUS_HELD = true ∧ t.cfg.held = s.cfg.held ++ l.names) ∧
      (h.hold = false → t.cfg.starting = s.cfg.starting ++ [(h.full, s.clk.now, l.names.map (·.1))] ∧
        ∀ r ∈ l.names, r.1 < 24 → (vget t.rgn (finOf 23 r.1)).initAt = some s.clk.now)) ∧
  (∀ (l : Load) (e : Nat × Nat), s.cfg.load = some l → l.error = some e → l.names = [] → Answers .configLoadError s fun t =>
    t.cfg.load = none ∧ t.flag F.CFG_STATUS_ERR = true ∧ t.get F.CFG_STATUS_ERR_CODE = e.1 % 16 ∧
      t.rd R.CFG_ERR_OFFSET = BitVec.ofNat 32 e.2 ∧ t.flag F.CFG_STATUS_BUSY = false ∧ t.evc = (raise 251 s).evc) ∧
  (s.works = true → s.flag F.CFG_VERIFY_EN = true → s.flag F.CFG_VERIFY_ACTION = false → s.flag F.RAS_INJ_CTRL_ARM = false →
    s.cfg.lastVerify + 1000000000 * s.get F.CFG_VERIFY_INTERVAL_S ≤ s.elapsed → Answers .readbackVerifyPass s fun t =>
      t.cfg.lastVerify = s.elapsed ∧ t.cfg.frames = s.cfg.frames ∧ t.cfg.refs = s.cfg.refs ∧
      ∀ r : Fin 25, (t.rd R.CFG_VERIFY_STATUS).getLsbD r.val = ((s.rd R.CFG_VERIFY_STATUS).getLsbD r.val ||
        (regionRunning s r.val && decide (regionSha s r.val ≠ sget (fun _ => []) s.cfg.refs r.val))))

/-- Region commands (R359, R365, R366, R370 to R376): UNLOAD isolates a Running region and fences its port until it has drained; START
puts an Unloaded region with valid frames into Initializing, whose clocks run with the clamps on until it is Running 1 us later,
and is refused without valid frames; RESTART goes through Unloaded and starts again. -/
def Obligations.RegionCommands : Prop := ∀ (s : State) (p : Partner) (n : Fin 24) (v : Word),
  (s.admits p (R.RGN_CTRL n.val) → s.get (F.RGN_STATUS_STATE n.val) = 1 → masterIdle (64 + n.val) s = false →
    Answers (.unload p n v) s fun t => t.told p .ok 0 ∧ t.get (F.RGN_STATUS_STATE n.val) = 2 ∧
      t.get (F.RGN_STATUS_LAST_CAUSE n.val) = 1 ∧ (vget t.rgn n).drainAt = some s.clk.now ∧ isFenced t (64 + n.val) = true ∧
      t.bb = s.bb ∧ Keeps s t [.resp, .rgn] [R.RGN_CTRL n.val, R.RGN_STATUS n.val, R.BB_FENCED 2]) ∧
  (s.admits p (R.RGN_CTRL n.val) → s.get (F.RGN_STATUS_STATE n.val) = 1 → masterIdle (64 + n.val) s = true →
    s.flag (F.RGN_STATUS_ENABLE_PENDING n.val) = false → Answers (.unload p n v) s fun t => t.told p .ok 0 ∧
      t.get (F.RGN_STATUS_STATE n.val) = 0 ∧ (vget t.rgn n).clamped = true ∧ (vget t.rgn n).clocks = false ∧
      isFenced t (64 + n.val) = true) ∧
  (s.admits p (R.RGN_CTRL n.val) → s.get (F.RGN_STATUS_STATE n.val) = 3 ∨ s.get (F.RGN_STATUS_STATE n.val) = 4 →
    Answers (.unload p n v) s fun t => t.told p .ok 0 ∧ t.flag (F.RGN_STATUS_REFUSED n.val) = true ∧
      Keeps s t [.resp] [R.RGN_CTRL n.val, R.RGN_STATUS n.val]) ∧
  (s.admits p (R.RGN_CTRL n.val) → s.get (F.RGN_STATUS_STATE n.val) = 0 → s.flag (F.RGN_STATUS_FRAMES_VALID n.val) = true →
    Answers (.start p n v) s fun t => t.told p .ok 0 ∧ t.get (F.RGN_STATUS_STATE n.val) = 4 ∧
      (vget t.rgn n).clamped = (vget s.rgn n).clamped ∧ (vget t.rgn n).clocks = true ∧ (vget t.rgn n).initAt = some s.clk.now ∧
      (s.flag (F.RGN_STATUS_START_STATE n.val) = false → vget t.fab.flops (finOf 24 n.val) = []) ∧
      t.fab.bram = s.fab.bram ∧ Keeps s t [.resp, .rgn, .fab] [R.RGN_CTRL n.val, R.RGN_STATUS n.val]) ∧
  (∀ (t0 : Nat), s.fabricOn = true → s.get (F.RGN_STATUS_STATE n.val) = 4 → (vget s.rgn n).initAt = some t0 →
    (vget s.rgn n).nextCause = none → t0 + 1000 ≤ s.clk.now → (finishInit n.val s).get (F.RGN_STATUS_STATE n.val) = 1 ∧
      (vget (finishInit n.val s).rgn n).clamped = false ∧ isFenced (finishInit n.val s) (64 + n.val) = false ∧
      ((finishInit n.val s).rd R.RGN_EVENT).getLsbD n.val = true ∧
      Keeps s (finishInit n.val s) [.rgn, .evc, .bb] [R.RGN_STATUS n.val, R.BB_FENCED 2, R.RGN_EVENT]) ∧
  (s.admits p (R.RGN_CTRL n.val) → s.get (F.RGN_STATUS_STATE n.val) = 0 → s.flag (F.RGN_STATUS_FRAMES_VALID n.val) = false →
    Answers (.start p n v) s fun t => t.told p .ok 0 ∧ t.flag (F.RGN_STATUS_REFUSED n.val) = true ∧
      t.get (F.RGN_STATUS_STATE n.val) = 0 ∧ Keeps s t [.resp] [R.RGN_CTRL n.val, R.RGN_STATUS n.val]) ∧
  (s.admits p (R.RGN_CTRL n.val) → s.get (F.RGN_STATUS_STATE n.val) = 2 → Answers (.start p n v) s fun t => t.told p .ok 0 ∧
    t.flag (F.RGN_STATUS_ENABLE_PENDING n.val) = true ∧ t.get (F.RGN_STATUS_STATE n.val) = 2 ∧
      Keeps s t [.resp] [R.RGN_CTRL n.val, R.RGN_STATUS n.val]) ∧
  (s.admits p (R.RGN_CTRL n.val) → s.get (F.RGN_STATUS_STATE n.val) = 1 → masterIdle (64 + n.val) s = true →
    s.flag (F.RGN_STATUS_ENABLE_PENDING n.val) = false → s.flag (F.RGN_STATUS_FRAMES_VALID n.val) = true →
    (vget s.rgn n).claimed = false → Answers (.restart p n v) s fun t => t.told p .ok 0 ∧ t.get (F.RGN_STATUS_STATE n.val) = 4 ∧
      t.get (F.RGN_STATUS_LAST_CAUSE n.val) = 2 ∧ (vget t.rgn n).clamped = true ∧ (vget t.rgn n).clocks = true ∧
      (vget t.rgn n).initAt = some s.clk.now ∧ isFenced t (64 + n.val) = true) ∧
  (∀ (t0 : Nat), (vget s.rgn n).drainAt = some t0 → s.get (F.RGN_STATUS_STATE n.val) = 2 →
    t0 + 1000 * s.get (F.RGN_CTRL_DRAIN_US n.val) ≤ s.clk.now → s.flag (F.RGN_STATUS_ENABLE_PENDING n.val) = false →
    (vget s.rgn n).again = false → Answers (.drainUsExpiry n) s fun t => t.get (F.RGN_STATUS_STATE n.val) = 0 ∧
      (vget t.rgn n).clamped = true ∧ (vget t.rgn n).clocks = false ∧
      (∀ b ∈ t.bb.bursts, b.req.master = 64 + n.val → b.req.origin = .nobody) ∧
      (∀ k : Fin 64, (vget t.bb.locks k).owner ≠ some (64 + n.val)))

/-! ### Probe lanes (09_probe_lanes.md) -/

/-- The life of a lane (R200, R453, R454, R456, R458, R459, R464, R483): an accepted EN powers the lane, calibration starts 50 us
later and Running raises the lane event with the latency known, a free value (log 57); an enable on a refusal ground sets REFUSED
and the lane stays Off; EN 0 in a lane that is neither Off nor Stopping stops it, and Off is reached with the locks gone; EN written
while it stops is held and applied at Off, or dropped by EN 0. XCVn_CFG and XCVn_RATE change only while the lane is Off, and a write
at any other time, or of another REF_SEL, sets IGNORED; TX_SRC may change while Running and acts at the next word boundary. -/
def Obligations.LaneLife : Prop := ∀ (s : State) (p : Partner) (n : Fin 64) (v : Word),
  (s.admits p (R.XCV_CTRL n.val) → laneState s n.val = 0 → s.flag (F.XCV_CTRL_EN n.val) = false → (F.XCV_CTRL_REF_SEL n.val).of v < 3 →
    laneRefuses (s.set (F.XCV_CTRL_REF_SEL n.val) 0) n.val = false → Answers (.laneEnable p n v) s fun t => t.told p .ok 0 ∧
      laneState t n.val = 1 ∧ t.flag (F.XCV_CTRL_EN n.val) = true ∧ t.get (F.XCV_CTRL_REF_SEL n.val) = (F.XCV_CTRL_REF_SEL n.val).of v ∧
      (vget t.xcv n).since = s.clk.now ∧ (vget t.xcv n).txLive = (F.XCV_CTRL_TX_SRC n.val).of v ∧
      (∀ m : Fin 64, m ≠ n → vget t.xcv m = vget s.xcv m) ∧ Keeps s t [.resp, .xcv] [R.XCV_CTRL n.val, R.XCV_STATUS n.val]) ∧
  (s.admits p (R.XCV_CTRL n.val) → laneState s n.val = 0 → s.flag (F.XCV_CTRL_EN n.val) = false →
    s.flag F.CFG_STATUS_DONE = false ∨ (F.XCV_CTRL_REF_SEL n.val).of v = 3 ∨ 4 ≤ s.get (F.XCV_CFG_PCS n.val) ∨ s.get (F.XCV_CFG_FEC n.val) = 3 ∨
      s.flag (F.XCV_CFG_FEC n.val) = true ∧ s.flag (F.XCV_CFG_MOD n.val) = false ∨
      s.flag (F.XCV_CFG_FEC n.val) = true ∧ s.get (F.XCV_CFG_PCS n.val) ≠ 2 ∨
      s.flag (F.XCV_CFG_MOD n.val) = true ∧ ¬ (13281250 ≤ s.get (F.XCV_RATE_BAUD_KBD n.val) ∧ s.get (F.XCV_RATE_BAUD_KBD n.val) ≤ 28125000) ∨
      s.flag (F.XCV_CFG_MOD n.val) = false ∧ ¬ (1250000 ≤ s.get (F.XCV_RATE_BAUD_KBD n.val) ∧ s.get (F.XCV_RATE_BAUD_KBD n.val) ≤ 32500000) ∨
      (∃ g, groupOf s n.val = some g ∧ (s.flag (F.XCV_CFG_FEC4 n.val) = true ∧ (groupMembers s g).length ≠ 4 ∨
        ∃ m ∈ groupMembers s g, s.get (F.XCV_CFG_PCS m) ≠ s.get (F.XCV_CFG_PCS n.val) ∨ s.get (F.XCV_CFG_MOD m) ≠ s.get (F.XCV_CFG_MOD n.val) ∨
          s.get (F.XCV_RATE_BAUD_KBD m) ≠ s.get (F.XCV_RATE_BAUD_KBD n.val))) ∨
      groupOf s n.val = none ∧ s.flag (F.XCV_CFG_FEC4 n.val) = true →
    Answers (.laneEnable p n v) s fun t => t.told p .ok 0 ∧ t.flag (F.XCV_STATUS_REFUSED n.val) = true ∧ laneState t n.val = 0 ∧
      t.flag (F.XCV_CTRL_EN n.val) = false ∧ Keeps s t [.resp] [R.XCV_CTRL n.val, R.XCV_STATUS n.val]) ∧
  (laneState s n.val = 1 → (vget s.xcv n).since + 50000 ≤ s.clk.now → Answers (.laneCalibrateStart n) s fun t =>
    laneState t n.val = 2 ∧ (vget t.xcv n).since = s.clk.now ∧ SameBut s t (R.XCV_STATUS n.val) 0x7 ∧ Keeps s t [.xcv] [R.XCV_STATUS n.val]) ∧
  (laneState s n.val = 2 → Answers (.laneRunning n) s fun t => laneState t n.val = 3 ∧
    t.rd (R.XCV_LAT n.val) = BitVec.ofNat 32 (Config.laneLatency n.val (s.rd (R.XCV_CFG n.val)) (s.rd (R.XCV_RATE n.val))) ∧
    (t.rd (R.XCV_EVT (n.val / 32))).getLsbD (n.val % 32) = true ∧
    SameBut s t (R.XCV_EVT (n.val / 32)) (BitVec.ofNat 32 (2 ^ (n.val % 32))) ∧
    t.evc = (if s.evcEnv.level255 then s.evc else (raise 255 { s with regs := t.regs }).evc) ∧
    Keeps s t [.xcv, .evc] [R.XCV_STATUS n.val, R.XCV_LAT n.val, R.XCV_EVT (n.val / 32)]) ∧
  (s.admits p (R.XCV_CTRL n.val) → laneState s n.val ≠ 0 → laneState s n.val ≠ 4 → Answers (.laneDisable p n v) s fun t => t.told p .ok 0 ∧
      laneState t n.val = 4 ∧ t.flag (F.XCV_CTRL_EN n.val) = false ∧ (vget t.xcv n).since = s.clk.now ∧
      t.get (F.XCV_CTRL_REF_SEL n.val) = s.get (F.XCV_CTRL_REF_SEL n.val) ∧
      ((F.XCV_CTRL_REF_SEL n.val).of v ≠ s.get (F.XCV_CTRL_REF_SEL n.val) → t.flag (F.XCV_STATUS_IGNORED n.val) = true) ∧
      (∀ m : Fin 64, m ≠ n → vget t.xcv m = vget s.xcv m) ∧ Keeps s t [.resp, .xcv] [R.XCV_CTRL n.val, R.XCV_STATUS n.val]) ∧
  (s.admits p (R.XCV_CTRL n.val) → laneState s n.val = 4 → Answers (.laneEnable p n v) s fun t => t.told p .ok 0 ∧
      laneState t n.val = 4 ∧ t.flag (F.XCV_STATUS_ENABLE_PENDING n.val) = true ∧ t.flag (F.XCV_CTRL_EN n.val) = true ∧
      t.get (F.XCV_CTRL_TX_SRC n.val) = s.get (F.XCV_CTRL_TX_SRC n.val) ∧ Keeps s t [.resp] [R.XCV_CTRL n.val, R.XCV_STATUS n.val]) ∧
  (s.admits p (R.XCV_CTRL n.val) → laneState s n.val = 4 → Answers (.laneDisable p n v) s fun t => t.told p .ok 0 ∧
      laneState t n.val = 4 ∧ t.flag (F.XCV_STATUS_ENABLE_PENDING n.val) = false ∧ t.flag (F.XCV_CTRL_EN n.val) = false ∧
      Keeps s t [.resp] [R.XCV_CTRL n.val, R.XCV_STATUS n.val]) ∧
  (laneState s n.val = 4 → s.flag (F.XCV_STATUS_ENABLE_PENDING n.val) = false → groupOf s n.val = none → Answers (.laneOff n) s fun t =>
    laneState t n.val = 0 ∧ t.flag (F.XCV_STATUS_CDR_LOCK n.val) = false ∧ t.flag (F.XCV_STATUS_PCS_LOCK n.val) = false ∧
      t.flag (F.XCV_STATUS_FEC_LOCK n.val) = false ∧ t.flag (F.XCV_PRBS_STATUS_LOCKED n.val) = false ∧
      (t.rd (R.XCV_EVT (n.val / 32))).getLsbD (n.val % 32) = true ∧
      Keeps s t [.xcv, .evc, .tt] [R.XCV_STATUS n.val, R.XCV_PRBS_STATUS n.val, R.XCV_EVT (n.val / 32), R.TT_LSC_STATUS]) ∧
  (laneState s n.val = 4 → s.flag (F.XCV_STATUS_ENABLE_PENDING n.val) = true → groupOf s n.val = none → laneRefuses s n.val = false →
    Answers (.laneOff n) s fun t => laneState t n.val = 1 ∧ t.flag (F.XCV_CTRL_EN n.val) = true ∧
      t.flag (F.XCV_STATUS_ENABLE_PENDING n.val) = false ∧ (vget t.xcv n).since = s.clk.now) ∧
  (∀ (rate : Bool), s.admits p (if rate then R.XCV_RATE n.val else R.XCV_CFG n.val) → laneState s n.val = 0 →
    Answers (.laneConfigWrite p n rate v) s fun t => t.told p .ok 0 ∧
      t.rd (if rate then R.XCV_RATE n.val else R.XCV_CFG n.val) =
        (let k : Word := if rate then 0x01FFFFFF else 0xFF000000
         (s.rd (if rate then R.XCV_RATE n.val else R.XCV_CFG n.val) &&& ~~~ k) ||| (v &&& k)) ∧
      Keeps s t [.resp] [if rate then R.XCV_RATE n.val else R.XCV_CFG n.val]) ∧
  (∀ (rate : Bool), s.admits p (if rate then R.XCV_RATE n.val else R.XCV_CFG n.val) → laneState s n.val ≠ 0 →
    Answers (.laneConfigWrite p n rate v) s fun t => t.told p .ok 0 ∧ t.flag (F.XCV_STATUS_IGNORED n.val) = true ∧
      SameBut s t (R.XCV_STATUS n.val) 0x1000 ∧ Keeps s t [.resp] [R.XCV_STATUS n.val]) ∧
  (s.admits p (R.XCV_CTRL n.val) → laneState s n.val = 3 → Answers (.txSrcChange p n v) s fun t => t.told p .ok 0 ∧
      t.get (F.XCV_CTRL_TX_SRC n.val) = (F.XCV_CTRL_TX_SRC n.val).of v ∧ laneState t n.val = (if (F.XCV_CTRL_EN n.val).on v then 3 else 4) ∧
      (vget t.xcv n).txLive = (vget s.xcv n).txLive ∧
      ((F.XCV_CTRL_REF_SEL n.val).of v ≠ s.get (F.XCV_CTRL_REF_SEL n.val) → t.flag (F.XCV_STATUS_IGNORED n.val) = true) ∧
      ((F.XCV_CTRL_EN n.val).on v = true → (F.XCV_CTRL_REF_SEL n.val).of v = s.get (F.XCV_CTRL_REF_SEL n.val) →
        Keeps s t [.resp] [R.XCV_CTRL n.val]) ∧
      Keeps s t [.resp, .xcv] [R.XCV_CTRL n.val, R.XCV_STATUS n.val]) ∧
  (∀ x : XcvS, (takeSource s n.val x).txLive = if x.txPos = 0 then s.get (F.XCV_CTRL_TX_SRC n.val) else x.txLive)

/-- Locks and their loss (R84, R455, R460, R462 to R464, R467, R468, R982 to R984): CDR lock comes in Running, code or block
lock and FEC lock after it; a loss clears the lock, and with CDR the others, sets LOL, raises the lane event, unaligns the lane's
group and freezes an LSC that follows the lane; a group is aligned when its members are locked, and the latency each lane
compensates then takes in its deskew delay, a free value (log 57); MASK changes only while every lane of the old mask and the new is
Off and none of the new one belongs to another group. -/
def Obligations.LaneLocks : Prop := ∀ (s : State) (p : Partner) (n : Fin 64) (g : Fin 16) (v : Word),
  (laneState s n.val = 3 → s.flag (F.XCV_STATUS_CDR_LOCK n.val) = false → s.flag F.TT_LSC_CTRL_EN = false → Answers (.cdrLock n) s fun t =>
    t.flag (F.XCV_STATUS_CDR_LOCK n.val) = true ∧ (vget t.xcv n).marked = false ∧ SameBut s t (R.XCV_STATUS n.val) 0x40 ∧
      Keeps s t [.xcv] [R.XCV_STATUS n.val]) ∧
  (s.flag (F.XCV_STATUS_CDR_LOCK n.val) = true → s.get (F.XCV_CFG_PCS n.val) ≠ 0 → s.flag F.TT_LSC_CTRL_EN = false →
    Answers (.pcsLock n false) s fun t => t.flag (F.XCV_STATUS_PCS_LOCK n.val) = true ∧ SameBut s t (R.XCV_STATUS n.val) 0x80 ∧
      Keeps s t [.xcv] [R.XCV_STATUS n.val]) ∧
  (s.flag (F.XCV_STATUS_CDR_LOCK n.val) = true → s.get (F.XCV_CFG_PCS n.val) ≠ 0 → s.flag (F.XCV_CFG_FEC n.val) = true →
    s.flag F.TT_LSC_CTRL_EN = false → Answers (.pcsLock n true) s fun t => t.flag (F.XCV_STATUS_FEC_LOCK n.val) = true ∧
      SameBut s t (R.XCV_STATUS n.val) 0x100 ∧ Keeps s t [.xcv] [R.XCV_STATUS n.val]) ∧
  (s.flag (F.XCV_STATUS_CDR_LOCK n.val) = true → (vget s.xcv n).eye = none → Answers (.laneLossOfLock n 0) s fun t =>
    t.flag (F.XCV_STATUS_CDR_LOCK n.val) = false ∧ t.flag (F.XCV_STATUS_PCS_LOCK n.val) = false ∧
      t.flag (F.XCV_STATUS_FEC_LOCK n.val) = false ∧ t.flag (F.XCV_STATUS_LOL n.val) = true ∧ (vget t.xcv n).marked = true ∧
      (t.rd (R.XCV_EVT (n.val / 32))).getLsbD (n.val % 32) = true ∧
      (s.flag F.TT_LSC_CTRL_EN = true → s.get F.TT_LSC_CTRL_LANE = n.val → s.flag F.TT_LSC_STATUS_FROZEN = false →
        t.flag F.TT_LSC_STATUS_FROZEN = true)) ∧
  (s.flag (F.XCV_STATUS_PCS_LOCK n.val) = true → (vget s.xcv n).eye = none → groupOf s n.val = none → s.flag F.TT_LSC_CTRL_EN = false →
    Answers (.laneLossOfLock n 1) s fun t => t.flag (F.XCV_STATUS_PCS_LOCK n.val) = false ∧ t.flag (F.XCV_STATUS_LOL n.val) = true ∧
      SameBut s t (R.XCV_STATUS n.val) 0x280 ∧ Keeps s t [.xcv, .evc, .lnt] [R.XCV_STATUS n.val, R.XCV_EVT (n.val / 32)]) ∧
  (s.flag (F.XCV_STATUS_FEC_LOCK n.val) = true → (vget s.xcv n).eye = none → groupOf s n.val = none → s.flag F.TT_LSC_CTRL_EN = false →
    Answers (.laneLossOfLock n 2) s fun t => t.flag (F.XCV_STATUS_FEC_LOCK n.val) = false ∧ t.flag (F.XCV_STATUS_LOL n.val) = true ∧
      SameBut s t (R.XCV_STATUS n.val) 0x300 ∧ Keeps s t [.xcv, .evc, .lnt] [R.XCV_STATUS n.val, R.XCV_EVT (n.val / 32)]) ∧
  (s.flag (F.XCV_STATUS_PCS_LOCK n.val) = true → groupOf s n.val = some g.val → s.flag (F.XCV_GRP_CTRL_ALIGNED g.val) = true →
    Answers (.laneLossOfLock n 1) s fun t => t.flag (F.XCV_GRP_CTRL_ALIGNED g.val) = false ∧
      (∀ m : Fin 64, m.val ∈ groupMembers s g.val → (t.rd (R.XCV_EVT (m.val / 32))).getLsbD (m.val % 32) = true)) ∧
  (groupMembers s g.val ≠ [] → (∀ m ∈ groupMembers s g.val, memberLocked s m = true) → Answers (.deskewAligned g) s fun t =>
    t.flag (F.XCV_GRP_CTRL_ALIGNED g.val) = true ∧ SameBut s t (R.XCV_GRP_CTRL g.val) 0x80000000 ∧
      (∀ m ∈ groupMembers s g.val, t.get (F.XCV_LAT_RX m) = ((F.XCV_LAT_RX m).of (BitVec.ofNat 32
        (Config.laneLatency m (s.rd (R.XCV_CFG m)) (s.rd (R.XCV_RATE m)))) + Config.deskewDelay m s.clk.now % 12801) % 65536) ∧
      Keeps s t [] (R.XCV_GRP_CTRL g.val :: (groupMembers s g.val).map R.XCV_LAT)) ∧
  (s.flag (F.XCV_GRP_CTRL_ALIGNED g.val) = true → Answers (.deskewMarkerDisagree g) s fun t =>
    t.flag (F.XCV_GRP_CTRL_ALIGNED g.val) = false ∧ SameBut s t (R.XCV_GRP_CTRL g.val) 0x80000000 ∧
      (∀ m : Fin 64, m.val ∈ groupMembers s g.val → (t.rd (R.XCV_EVT (m.val / 32))).getLsbD (m.val % 32) = true) ∧
      Keeps s t [.evc] [R.XCV_GRP_CTRL g.val, R.XCV_EVT 0, R.XCV_EVT 1]) ∧
  (s.admits p (R.XCV_GRP_CTRL g.val) →
    (∀ i : Fin 16, (s.get (F.XCV_GRP_CTRL_MASK g.val)).testBit i.val = true ∨ v.getLsbD i.val = true → laneState s (16 * (g.val / 4) + i.val) = 0) →
    (∀ h : Fin 16, h ≠ g → h.val / 4 = g.val / 4 → (s.get (F.XCV_GRP_CTRL_MASK h.val) &&& (F.XCV_GRP_CTRL_MASK g.val).of v) = 0) →
    Answers (.deskewMaskWrite p g v) s fun t => t.told p .ok 0 ∧ t.get (F.XCV_GRP_CTRL_MASK g.val) = v.toNat % 65536 ∧
      t.flag (F.XCV_GRP_CTRL_REFUSED g.val) = (s.flag (F.XCV_GRP_CTRL_REFUSED g.val) && !v.getLsbD 30) ∧
      Keeps s t [.resp] [R.XCV_GRP_CTRL g.val]) ∧
  (∀ (h : Fin 16) (i : Fin 16), s.admits p (R.XCV_GRP_CTRL g.val) → h ≠ g → h.val / 4 = g.val / 4 → bitOf (s.get (F.XCV_GRP_CTRL_MASK h.val)) i.val = true →
    v.getLsbD i.val = true → (F.XCV_GRP_CTRL_MASK g.val).of v ≠ s.get (F.XCV_GRP_CTRL_MASK g.val) → Answers (.deskewMaskWrite p g v) s fun t =>
      t.told p .ok 0 ∧ t.flag (F.XCV_GRP_CTRL_REFUSED g.val) = true ∧
        t.get (F.XCV_GRP_CTRL_MASK g.val) = s.get (F.XCV_GRP_CTRL_MASK g.val) ∧ Keeps s t [.resp] [R.XCV_GRP_CTRL g.val]) ∧
  (∀ (i : Fin 16), s.admits p (R.XCV_GRP_CTRL g.val) →
    (s.get (F.XCV_GRP_CTRL_MASK g.val)).testBit i.val = true ∨ v.getLsbD i.val = true → laneState s (16 * (g.val / 4) + i.val) ≠ 0 →
    (F.XCV_GRP_CTRL_MASK g.val).of v ≠ s.get (F.XCV_GRP_CTRL_MASK g.val) → Answers (.deskewMaskWrite p g v) s fun t =>
      t.told p .ok 0 ∧ t.flag (F.XCV_GRP_CTRL_REFUSED g.val) = true ∧
        t.get (F.XCV_GRP_CTRL_MASK g.val) = s.get (F.XCV_GRP_CTRL_MASK g.val) ∧ Keeps s t [.resp] [R.XCV_GRP_CTRL g.val]) ∧
  (s.flag (F.XCV_STATUS_FEC_LOCK n.val) = true → Answers (.fecUncorrectable n) s fun t =>
    t.get (F.XCV_FEC_UNCORR_CW n.val) = min (s.get (F.XCV_FEC_UNCORR_CW n.val) + 1) (2 ^ 32 - 1) ∧
      (s.flag (F.XCV_CFG_FEC4 n.val) = false → (∀ m : Fin 64, (vget t.xcv m).fecBad = (vget s.xcv m).fecBad + if m = n then 80 else 0) ∧
        ∀ (l : Fin 16) (k : Fin 4), (vget (vget t.lnt l).taps k).fecBad = (vget (vget s.lnt l).taps k).fecBad +
          if tapLane s l.val k.val = n.val ∧ s.flag (F.LNT_TAP_CFG_PRE l.val k.val) = false then 80 else 0) ∧
      (s.flag (F.XCV_CFG_FEC4 n.val) = true → groupOf s n.val = some g.val → ∀ m : Fin 64,
        (vget t.xcv m).fecBad = (vget s.xcv m).fecBad + if m.val ∈ groupMembers s g.val then 20 else 0) ∧
      Keeps s t [.xcv, .lnt] [R.XCV_FEC_UNCORR n.val])

/-- PRBS counting and eye scans (R475 to R479): the generator's next bits follow its pattern; the checker locks after 128 matching
bits in Running and loses lock at 32 errors of its window, a bit it compares while locked is counted and so is its error; CLR zeroes
its counts, a read of BITS_LO latches the count's halves and the errors of one instant; GO starts a scan, which takes one comparison
every 32 UI and is done at 2^(16 + PRESCALE) of them; loss of CDR lock stops it with EYE_ABORT. What the line brings and the errors
a scan finds are free values of the model (log 57). -/
def Obligations.LaneTests : Prop := ∀ (s : State) (p : Partner) (n : Fin 64) (v : Word),
  (∀ (x : XcvS), (prbsBit 1 x.gen = (x.gen.getLsbD 6 ^^ x.gen.getLsbD 5)) ∧ (prbsBit 2 x.gen = (x.gen.getLsbD 8 ^^ x.gen.getLsbD 4)) ∧
    (prbsBit 3 x.gen = (x.gen.getLsbD 14 ^^ x.gen.getLsbD 13)) ∧ (prbsBit 4 x.gen = (x.gen.getLsbD 22 ^^ x.gen.getLsbD 17)) ∧
    (prbsBit 5 x.gen = (x.gen.getLsbD 30 ^^ x.gen.getLsbD 27)) ∧ (genBits s n.val 1 x).2.gen = shiftIn x.gen (prbsBit (s.get (F.XCV_PRBS_GEN_PATT n.val)) x.gen)) ∧
  (∀ (x : XcvS) (patt : Nat) (inv b : Bool), (checkBit patt inv true x b).bits = x.bits + 1 ∧
    (checkBit patt inv true x b).errs = (if (b ^^ inv ^^ prbsInverted patt) = prbsBit patt x.chk then x.errs
      else BitVec.ofNat 32 (min (x.errs.toNat + 1) (2 ^ 32 - 1))) ∧ (checkBit patt inv false x b).bits = x.bits ∧
    (checkBit patt inv false x b).errs = x.errs) ∧
  (laneState s n.val = 3 → s.flag (F.XCV_PRBS_CHK_EN n.val) = true → s.flag (F.XCV_PRBS_STATUS_LOCKED n.val) = false →
    128 ≤ (vget s.xcv n).chkRun → Answers (.prbsCheckerLock n) s fun t => t.flag (F.XCV_PRBS_STATUS_LOCKED n.val) = true ∧
      SameBut s t (R.XCV_PRBS_STATUS n.val) 1 ∧ Keeps s t [.xcv] [R.XCV_PRBS_STATUS n.val]) ∧
  (s.flag (F.XCV_PRBS_STATUS_LOCKED n.val) = true → 32 ≤ (vget s.xcv n).chkErrs → Answers (.prbsCheckerLoss n) s fun t =>
    t.flag (F.XCV_PRBS_STATUS_LOCKED n.val) = false ∧
      t.get (F.XCV_PRBS_STATUS_LOSSES n.val) = min (s.get (F.XCV_PRBS_STATUS_LOSSES n.val) + 1) 255 ∧
      Keeps s t [.xcv] [R.XCV_PRBS_STATUS n.val]) ∧
  (s.admits p (R.XCV_PRBS n.val) → Answers (.prbsClr p n v) s fun t => t.told p .ok 0 ∧ (vget t.xcv n).bits = 0 ∧ (vget t.xcv n).errs = 0 ∧
    t.rd (R.XCV_PRBS_BITS_LO n.val) = 0 ∧ t.get (F.XCV_PRBS_BITS_HI_BITS n.val) = 0 ∧ t.rd (R.XCV_PRBS_ERR n.val) = 0 ∧
    (∀ m : Fin 64, m ≠ n → vget t.xcv m = vget s.xcv m) ∧ Keeps s t [.resp, .xcv] [R.XCV_PRBS n.val, R.XCV_PRBS_STATUS n.val,
      R.XCV_PRBS_BITS_LO n.val, R.XCV_PRBS_BITS_HI n.val, R.XCV_PRBS_ERR n.val]) ∧
  (s.admits p (R.XCV_PRBS_BITS_LO n.val) → Answers (.prbsBitsRead p n) s fun t =>
    t.told p .ok ((vget s.xcv n).bits.setWidth 32) ∧ t.rd (R.XCV_PRBS_BITS_LO n.val) = (vget s.xcv n).bits.setWidth 32 ∧
      t.get (F.XCV_PRBS_BITS_HI_BITS n.val) = (vget s.xcv n).bits.toNat / 2 ^ 32 ∧ t.rd (R.XCV_PRBS_ERR n.val) = (vget s.xcv n).errs ∧
      Keeps s t [.resp] [R.XCV_PRBS_BITS_LO n.val, R.XCV_PRBS_BITS_HI n.val, R.XCV_PRBS_ERR n.val]) ∧
  (s.admits p (R.XCV_EYE_CTRL n.val) → (vget s.xcv n).eye = none → Answers (.eyeScanGo p n v) s fun t => t.told p .ok 0 ∧
    (vget t.xcv n).eye = some s.clk.now ∧ t.flag (F.XCV_EYE_CTRL_EYE_DONE n.val) = false ∧ t.flag (F.XCV_EYE_CTRL_EYE_ABORT n.val) = false ∧
    t.rd (R.XCV_EYE_SAMPLES n.val) = 0 ∧ t.rd (R.XCV_EYE_ERRORS n.val) = 0 ∧ t.get (F.XCV_EYE_CTRL_PRESCALE n.val) = (F.XCV_EYE_CTRL_PRESCALE n.val).of v ∧
    (∀ m : Fin 64, m ≠ n → vget t.xcv m = vget s.xcv m) ∧
    Keeps s t [.resp, .xcv] [R.XCV_EYE_CTRL n.val, R.XCV_EYE_SAMPLES n.val, R.XCV_EYE_ERRORS n.val]) ∧
  (s.admits p (R.XCV_EYE_CTRL n.val) → (vget s.xcv n).eye ≠ none → exec (.eyeScanGo p n v) s = .next (s.answer (.partner p) .ok 0)) ∧
  (∀ (t0 : Nat), (vget s.xcv n).eye = some t0 →
    2 ^ (16 + s.get (F.XCV_EYE_CTRL_PRESCALE n.val)) ≤ s.get (F.XCV_RATE_BAUD_KBD n.val) * (s.clk.now - t0) / 1000000 / 32 →
    Answers (.eyeDone n) s fun t => t.flag (F.XCV_EYE_CTRL_EYE_DONE n.val) = true ∧ (vget t.xcv n).eye = none ∧
      t.get (F.XCV_EYE_SAMPLES_COUNT n.val) = min (2 ^ (16 + s.get (F.XCV_EYE_CTRL_PRESCALE n.val))) (2 ^ 32 - 1) ∧
      t.get (F.XCV_EYE_ERRORS_COUNT n.val) ≤ t.get (F.XCV_EYE_SAMPLES_COUNT n.val) ∧
      Keeps s t [.xcv, .clk] [R.XCV_EYE_CTRL n.val, R.XCV_EYE_SAMPLES n.val, R.XCV_EYE_ERRORS n.val]) ∧
  (∀ (t0 : Nat), (vget s.xcv n).eye = some t0 → s.flag (F.XCV_STATUS_CDR_LOCK n.val) = true → Answers (.laneLossOfLock n 0) s fun t =>
    t.flag (F.XCV_EYE_CTRL_EYE_ABORT n.val) = true ∧ (vget t.xcv n).eye = none ∧
      t.get (F.XCV_EYE_SAMPLES_COUNT n.val) = s.get (F.XCV_RATE_BAUD_KBD n.val) * (s.clk.now - t0) / 1000000 / 32 % 2 ^ 32)

/-! ### Lanterns (10_lanterns.md) -/

/-- The life of a Lantern (R200, R488, R498, R513, R519, R522, R526, R527, R537 to R542, R546): an accepted EN restarts SEQ, TSC and
the sequencer, lays a START record at WR_PTR and arms; a missing ring, index ring or FIFO refuses it; EN 0 ends every frame and
loss episode, lays the STOP record up to a line boundary and stops; Idle is reached when all is committed. -/
def Obligations.LanternLife : Prop := ∀ (s : State) (p : Partner) (n : Fin 16) (tap : Fin 4) (v : Word),
  (s.admits p (R.LNT_CTRL n.val) → lntState s n.val = 0 → n.val ∉ s.rst.engines → (F.LNT_CTRL_PTR_RESET n.val).on v = false →
    lntRefuses (s.wr (R.LNT_CTRL n.val) (v &&& 0x11F30)) n.val = false → Answers (.lanternEnable p n v) s fun t => t.told p .ok 0 ∧
      lntState t n.val = 1 ∧ t.rd (R.LNT_CTRL n.val) = (v &&& 0x11F30) ||| 1 ∧ t.get (F.LNT_STATUS_SEQ_STATE n.val) = 0 ∧
      (∀ c : Fin 4, t.rd (R.LNT_CNT_VALUE n.val c.val) = 0 ∧ (vget (vget t.lnt n).taps c).tsc = 0 ∧ (vget (vget t.lnt n).taps c).keeping = false) ∧
      (v.getLsbD 16 = true → 32 ≤ ringSize s n.val - s.get64 (R.LNT_WR_PTR_LO n.val) (R.LNT_WR_PTR_HI n.val) % ringSize s n.val →
        s.portAIdle →
        (fifoGet n.val (s.get64 (R.LNT_WR_PTR_LO n.val) (R.LNT_WR_PTR_HI n.val)) 32 t).1 =
          ([3, 0, 4, 0, 0, 0, 0, 0] ++ leBytes 8 s.tt.tt.toNat ++ (leBytes 6 s.tt.lsc.toNat ++
            [BitVec.ofNat 8 ((F.LNT_CTRL_MODE n.val).of v), if (vget s.lnt n).prevReset then 1 else 0] ++ List.replicate 8 0), []) ∧
          (vget t.lnt n).fifoLen = 32 ∧ (vget t.lnt n).seq = 1) ∧
      (∀ m : Fin 16, m ≠ n → vget t.lnt m = vget s.lnt m) ∧
      Keeps s t [.resp, .lnt, .evc, .stg] [R.LNT_CTRL n.val, R.LNT_STATUS n.val, R.LNT_CNT_VALUE n.val 0, R.LNT_CNT_VALUE n.val 1,
        R.LNT_CNT_VALUE n.val 2, R.LNT_CNT_VALUE n.val 3, R.STG_COLLIDED]) ∧
  (s.admits p (R.LNT_CTRL n.val) → lntState s n.val = 0 → n.val ∉ s.rst.engines → (F.LNT_CTRL_PTR_RESET n.val).on v = false →
    s.get (F.LNT_RING_SIZE_MIB n.val) = 0 ∨ s.get (F.LNT_IDX_SIZE_SIZE n.val) = 0 ∨ s.get (F.LNT_FIFO_SIZE n.val) = 0 →
    Answers (.lanternEnable p n v) s fun t => t.told p .ok 0 ∧ t.flag (F.LNT_STATUS_REFUSED n.val) = true ∧ lntState t n.val = 0 ∧
      Keeps s t [.resp] [R.LNT_CTRL n.val, R.LNT_STATUS n.val]) ∧
  (s.admits p (R.LNT_CTRL n.val) → lntState s n.val = 1 ∨ lntState s n.val = 2 → n.val ∉ s.rst.engines → (vget s.lnt n).layPos % 8 = 0 →
    Answers (.lanternDisable p n v) s fun t => t.told p .ok 0 ∧ lntState t n.val = 3 ∧ t.flag (F.LNT_CTRL_EN n.val) = false ∧
      (vget t.lnt n).stopping = some 1 ∧ (vget t.lnt n).layPos % 64 = 0 ∧ (vget t.lnt n).flushTo = (vget t.lnt n).layPos ∧
      (∀ k : Fin 4, (vget (vget t.lnt n).taps k).frame = none ∧ (vget (vget t.lnt n).taps k).loss = none) ∧
      ((s.rd (R.LNT_CTRL n.val) ^^^ v) &&& 0x11F30 ≠ 0 → t.flag (F.LNT_STATUS_IGNORED n.val) = true) ∧
      (∀ m : Fin 16, m ≠ n → vget t.lnt m = vget s.lnt m) ∧ Keeps s t [.resp, .lnt, .evc, .stg] (R.STG_COLLIDED :: lanternRegs n.val)) ∧
  (s.admits p (R.LNT_CTRL n.val) → lntState s n.val = 3 → Answers (.lanternEnable p n v) s fun t => t.told p .ok 0 ∧ lntState t n.val = 3 ∧
      t.flag (F.LNT_STATUS_ENABLE_PENDING n.val) = true ∧ t.flag (F.LNT_CTRL_EN n.val) = true ∧
      Keeps s t [.resp] [R.LNT_CTRL n.val, R.LNT_STATUS n.val]) ∧
  (lntState s n.val = 3 → (vget s.lnt n).fifoLen = 0 → (vget s.lnt n).bursts = [] → (vget s.lnt n).partialOut = true →
    s.flag (F.LNT_STATUS_ENABLE_PENDING n.val) = false → Answers (.lanternStopComplete n) s fun t => lntState t n.val = 0 ∧
      vget t.lnt n = { vget s.lnt n with stopping := none } ∧ t.evc = (raise (67 + 4 * n.val) { s with regs := t.regs }).evc ∧
      SameBut s t (R.LNT_STATUS n.val) 7 ∧ Keeps s t [.lnt, .evc] [R.LNT_STATUS n.val]) ∧
  (lntState s n.val = 3 → (vget s.lnt n).fifoLen = 0 → (vget s.lnt n).bursts = [] → (vget s.lnt n).partialOut = true →
    s.flag (F.LNT_STATUS_ENABLE_PENDING n.val) = true → n.val ∉ s.rst.engines → lntRefuses s n.val = false →
    Answers (.lanternStopComplete n) s fun t => lntState t n.val = 1 ∧ t.flag (F.LNT_STATUS_ENABLE_PENDING n.val) = false ∧
      t.flag (F.LNT_CTRL_EN n.val) = true) ∧
  (∀ (high : Bool), s.admits p (R.LNT_RD_PTR_LO n.val) → Answers (.lanternRdPtrWrite p n high v) s fun t => t.told p .ok 0 ∧
      (high = false → t.rd (R.LNT_RD_PTR_LO n.val) = v ∧ t.rd (R.LNT_RD_PTR_HI n.val) = s.rd (R.LNT_RD_PTR_HI n.val)) ∧
      (high = true → t.get (F.LNT_RD_PTR_HI_PTR n.val) = v.toNat % 64 ∧ t.rd (R.LNT_RD_PTR_LO n.val) = s.rd (R.LNT_RD_PTR_LO n.val)) ∧
      (rdPtr t n.val ≠ rdPtr s n.val → t.flag (F.LNT_STATUS_RING_FULL n.val) = false ∧ ∀ k : Fin 4,
        ((vget (vget s.lnt n).taps k).loss.map Episode.cause) = some 2 → (vget (vget s.lnt n).taps k).frame = none →
          (vget (vget t.lnt n).taps k).loss = none) ∧
      ((∀ k : Fin 4, ((vget (vget s.lnt n).taps k).loss.map Episode.cause) ≠ some 2) →
        Keeps s t [.resp] [R.LNT_RD_PTR_LO n.val, R.LNT_RD_PTR_HI n.val, R.LNT_STATUS n.val]) ∧
      (∀ m : Fin 16, m ≠ n → vget t.lnt m = vget s.lnt m) ∧
      Keeps s t [.resp, .lnt, .evc, .stg] [R.LNT_RD_PTR_LO n.val, R.LNT_RD_PTR_HI n.val, R.LNT_STATUS n.val, R.STG_COLLIDED]) ∧
  (s.admits p (R.LNT_CTRL n.val) → lntState s n.val = 0 → n.val ∉ s.rst.engines → Answers (.ptrReset p n v) s fun t => t.told p .ok 0 ∧
    t.rd (R.LNT_WR_PTR_LO n.val) = 0 ∧ t.get (F.LNT_WR_PTR_HI_PTR n.val) = 0 ∧ t.rd (R.LNT_RD_PTR_LO n.val) = 0 ∧
    t.get (F.LNT_RD_PTR_HI_PTR n.val) = 0 ∧ t.rd (R.LNT_WRAPS n.val) = 0 ∧ t.get (F.LNT_IDX_PTR_ENTRY n.val) = 0 ∧
    Keeps s t [.resp] [R.LNT_CTRL n.val, R.LNT_WR_PTR_LO n.val, R.LNT_WR_PTR_HI n.val, R.LNT_RD_PTR_LO n.val, R.LNT_RD_PTR_HI n.val,
      R.LNT_WRAPS n.val, R.LNT_IDX_PTR n.val]) ∧
  (s.admits p (R.LNT_CTRL n.val) → lntState s n.val = 3 → Answers (.ptrReset p n v) s fun t => t.told p .ok 0 ∧
    t.flag (F.LNT_STATUS_IGNORED n.val) = true ∧ t.rd (R.LNT_WR_PTR_LO n.val) = s.rd (R.LNT_WR_PTR_LO n.val) ∧
    t.rd (R.LNT_RD_PTR_LO n.val) = s.rd (R.LNT_RD_PTR_LO n.val) ∧ lntState t n.val = 3) ∧
  (s.admits p (R.LNT_TAP_BYTES_LO n.val tap.val) → Answers (.lanternBytesRead p n tap) s fun t =>
    t.told p .ok (s.rd (R.LNT_TAP_BYTES_LO n.val tap.val)) ∧
      (vget (vget t.lnt n).taps tap).bytesHi = (s.rd (R.LNT_TAP_BYTES_HI n.val tap.val)).setWidth 16 ∧
      (∀ m : Fin 16, m ≠ n → vget t.lnt m = vget s.lnt m) ∧ Keeps s t [.resp, .lnt] [])

/-- Units and the sequencer (R80, R485, R488, R489, R491 to R497, R508, R514): a unit of a locked, enabled tap of a running Lantern
enters the window with its TT and its LSC at the pins, the lane's latency earlier; when 32 bytes stand from the oldest unit's start, that unit is counted and joins its
frame, and under CHUNK framing starts one if none is open; a sequencer cycle takes transition A before B and applies its action.
A tap with no lock delivers nothing.
The ring (R507 to R510, R520, R522 to R524, R528 to R530, R535, R544): a burst leaves the FIFO to the ring at its issue position
with the deadline TT plus SLACK; a commit moves WR_PTR to the end of the last committed record; a committed index entry moves
IDX_PTR and raises the chunk event; a failed burst sets WR_ERR and the fourth in a row stops the Lantern, WR_PTR stays where the
last committed record ends, and the ring bursts on their way then count for nothing (log 64); a FIFO word that cannot be read does
the same without WR_ERR (R785); records that waited FLUSH_US are flushed to a line boundary. -/
def Obligations.LanternRecords : Prop :=
  (∀ (s : State) (n : Fin 16) (tap : Fin 4) (bytes : List Byte) (bad : Bool),
  (lntRuns s n.val = true → s.flag (F.LNT_TAP_CFG_EN n.val tap.val) = true → tapLocked s n.val tap.val = true →
    bytes.length = tapU s n.val tap.val → ((vget (vget s.lnt n).taps tap).window.map (fun u => u.bytes.length)).sum + bytes.length < 32 →
    Answers (.tapUnit n tap bytes bad) s fun t =>
      let x := vget (vget s.lnt n).taps tap
      (vget (vget t.lnt n).taps tap).window.map (fun u => (u.bytes, u.tt, u.tsc, u.lsc)) = x.window.map (fun u => (u.bytes, u.tt, u.tsc, u.lsc)) ++
        [(fecMarked (decide (0 < x.fecBad)) bytes, (arrival s (tapLatency s n.val tap.val)).1, x.tsc, (arrival s (tapLatency s n.val tap.val)).2)] ∧
      (bad = true → ((vget (vget t.lnt n).taps tap).window.getLast?.map TapUnit.bad) = some true) ∧
      (vget (vget t.lnt n).taps tap).tsc = (x.tsc + unitSymbols s n.val tap.val) % 2 ^ 48 ∧ (vget (vget t.lnt n).taps tap).frame = x.frame ∧
      (∀ m : Fin 16, m ≠ n → vget t.lnt m = vget s.lnt m) ∧ Keeps s t [.lnt] []) ∧
  (∀ (hd : TapUnit) (rest : List TapUnit), lntRuns s n.val = true → s.flag (F.LNT_TAP_CFG_EN n.val tap.val) = true →
    tapLocked s n.val tap.val = true → bytes.length = tapU s n.val tap.val → (vget (vget s.lnt n).taps tap).window = hd :: rest →
    (rest.map (fun u => u.bytes.length)).sum + bytes.length < 32 → 32 ≤ hd.bytes.length + (rest.map (fun u => u.bytes.length)).sum + bytes.length →
    Answers (.tapUnit n tap bytes bad) s fun t =>
      t.get64 (R.LNT_TAP_BYTES_LO n.val tap.val) (R.LNT_TAP_BYTES_HI n.val tap.val) =
        (s.get64 (R.LNT_TAP_BYTES_LO n.val tap.val) (R.LNT_TAP_BYTES_HI n.val tap.val) + hd.bytes.length) % 2 ^ 48 ∧
      (vget (vget t.lnt n).taps tap).window.length = rest.length + 1 ∧
      (s.flag (F.LNT_TAP_CFG_FRAMING n.val tap.val) = false → (vget (vget s.lnt n).taps tap).frame = none →
        t.rd (R.LNT_TAP_FRAMES n.val tap.val) = s.rd (R.LNT_TAP_FRAMES n.val tap.val) + 1) ∧
      (∀ m : Fin 16, m ≠ n → vget t.lnt m = vget s.lnt m) ∧ Keeps s t [.lnt, .evc, .stg] (R.STG_COLLIDED :: lanternRegs n.val)) ∧
  (∀ (lat k : Nat) (a : TT64) (l : BitVec 48), arrival s 0 = (s.tt.tt, s.tt.lsc) ∧
    (s.tt.ttHist[k]? = some a → s.tt.lscHist[k]? = some l → s.flag F.TT_LSC_CTRL_EN = true → 64 * k < lat → lat ≤ 64 * (k + 1) →
      arrival s lat = (a + BitVec.ofNat 64 (64 * (k + 1) - lat), l))) ∧
  (lntRuns s n.val = false ∨ s.flag (F.LNT_TAP_CFG_EN n.val tap.val) = false ∨ s.flag (F.XCV_STATUS_CDR_LOCK (tapLane s n.val tap.val)) = false →
    exec (.tapUnit n tap bytes bad) s = .next s) ∧
  (let w := s.rd (R.LNT_SEQ_COND_A n.val (s.get (F.LNT_STATUS_SEQ_STATE n.val)))
   let a := s.rd (R.LNT_SEQ_ACT_A n.val (s.get (F.LNT_STATUS_SEQ_STATE n.val)))
   lntRuns s n.val = true → w.getLsbD 31 = true → w.getLsbD 12 = false →
    w.toNat % 256 = 0 ∨ (if w.getLsbD 8 then Nat.land (vget s.lnt n).cycleHits (w.toNat % 256) = w.toNat % 256
      else Nat.land (vget s.lnt n).cycleHits (w.toNat % 256) ≠ 0) → Answers (.sequencerTransition n) s fun t =>
    t.get (F.LNT_STATUS_SEQ_STATE n.val) = a.toNat % 16 ∧ (vget t.lnt n).cycleHits = 0 ∧ (vget t.lnt n).seqAt = s.elapsed ∧
      (a.toNat / 16 % 4 = 1 → lntState t n.val = 2 ∧ ∀ k : Fin 4, (vget (vget t.lnt n).taps k).keeping = true) ∧
      (a.toNat / 16 % 4 = 2 → lntState t n.val = 1 ∧ ∀ k : Fin 4, (vget (vget t.lnt n).taps k).keeping = false) ∧
      (a.toNat / 16 % 4 = 0 ∨ a.toNat / 16 % 4 = 3 → lntState t n.val = lntState s n.val ∧
        ∀ k : Fin 4, (vget (vget t.lnt n).taps k).keeping = (vget (vget s.lnt n).taps k).keeping) ∧
      (∀ c : Fin 4, a.getLsbD (8 + c.val) = true → t.rd (R.LNT_CNT_VALUE n.val c.val) = 0) ∧
      (a.getLsbD 12 = true → t.flag (F.LNT_STATUS_TRIGGERED n.val) = true ∧
        t.get64 (R.LNT_TRIG_TT n.val 0) (R.LNT_TRIG_TT n.val 1) = s.tt.tt.toNat) ∧
      (a.getLsbD 12 = false → t.rd (R.LNT_TRIG_TT n.val 0) = s.rd (R.LNT_TRIG_TT n.val 0)) ∧
      (∀ m : Fin 16, m ≠ n → vget t.lnt m = vget s.lnt m) ∧
      Keeps s t [.lnt, .evc, .stg] [R.LNT_STATUS n.val, R.LNT_TRIG_TT n.val 0, R.LNT_TRIG_TT n.val 1, R.LNT_CNT_VALUE n.val 0,
        R.LNT_CNT_VALUE n.val 1, R.LNT_CNT_VALUE n.val 2, R.LNT_CNT_VALUE n.val 3, R.STG_COLLIDED]) ∧
  (lntRuns s n.val = true → (s.rd (R.LNT_SEQ_COND_A n.val (s.get (F.LNT_STATUS_SEQ_STATE n.val)))).getLsbD 31 = false →
    (s.rd (R.LNT_SEQ_COND_B n.val (s.get (F.LNT_STATUS_SEQ_STATE n.val)))).toNat = 2 ^ 31 → Answers (.sequencerTransition n) s fun t =>
      t.get (F.LNT_STATUS_SEQ_STATE n.val) = (s.rd (R.LNT_SEQ_ACT_B n.val (s.get (F.LNT_STATUS_SEQ_STATE n.val)))).toNat % 16) ∧
  (lntRuns s n.val = true → (s.rd (R.LNT_SEQ_COND_A n.val (s.get (F.LNT_STATUS_SEQ_STATE n.val)))).getLsbD 31 = false →
    (s.rd (R.LNT_SEQ_COND_B n.val (s.get (F.LNT_STATUS_SEQ_STATE n.val)))).getLsbD 31 = false → Answers (.sequencerTransition n) s fun t =>
      t.rd (R.LNT_STATUS n.val) = s.rd (R.LNT_STATUS n.val) ∧ (vget t.lnt n).cycleHits = 0 ∧
        (∀ c : Fin 4, bitOf (s.rd (R.LNT_SEQ_RUN n.val (s.get (F.LNT_STATUS_SEQ_STATE n.val)))).toNat c.val = false →
          t.rd (R.LNT_CNT_VALUE n.val c.val) = s.rd (R.LNT_CNT_VALUE n.val c.val)) ∧
        Keeps s t [.lnt] [R.LNT_CNT_VALUE n.val 0, R.LNT_CNT_VALUE n.val 1, R.LNT_CNT_VALUE n.val 2, R.LNT_CNT_VALUE n.val 3])) ∧
  (∀ (s : State) (n : Fin 16),
  (s.works = true → burstLen (vget s.lnt n) ≠ 0 → s.get (F.LNT_RING_SIZE_MIB n.val) ≠ 0 →
    (fifoGet n.val (vget s.lnt n).issuePos (burstLen (vget s.lnt n)) s).1.2 = [] → Answers (.lanternBurstIssue n) s fun t =>
    let l := vget s.lnt n
    let k := burstLen l
    let data := (fifoGet n.val l.issuePos k s).1.1
    k ≤ 256 ∧ (l.issuePos % 256 + k ≤ 256) ∧
    vget t.lnt n = { l with
      sent := l.sent ++ data, issuePos := l.issuePos + k, fifoSince := s.elapsed, bursts := l.bursts ++ [⟨s.bb.nextId, l.issuePos, k, false, false⟩] } ∧
    t.bb = (bbIssue (16 + n.val) true (s.get (F.LNT_RING_BASE_MIB n.val) * 2 ^ 20 + l.issuePos % (s.get (F.LNT_RING_SIZE_MIB n.val) * 2 ^ 20))
      data k (s.deadlineIn (s.get (F.LNT_RT_SLACK_NS n.val))) (.lantern n.val) s).bb ∧
    SameBut (fifoGet n.val l.issuePos k s).2 t (R.LNT_STATUS n.val) 0x10 ∧ (∀ m : Fin 16, m ≠ n → vget t.lnt m = vget s.lnt m) ∧
    Keeps (fifoGet n.val l.issuePos k s).2 t [.lnt, .bb] (R.LNT_STATUS n.val :: requestRegs)) ∧
  (∀ (p k : Nat), (∀ i : Fin 32, stgReadWord (fifoOff s n.val (p + 8 * i.val) / 8) s = (some (stgRaw s (fifoOff s n.val (p + 8 * i.val) / 8)), s)) →
    k ≤ 256 → (fifoGet n.val p k s) = ((((List.range ((k + 7) / 8)).map fun i => stgRaw s (fifoOff s n.val (p + 8 * i) / 8)).flatten, []), s)) ∧
  (s.works = true → burstLen (vget s.lnt n) ≠ 0 → s.get (F.LNT_RING_SIZE_MIB n.val) ≠ 0 →
    (fifoGet n.val (vget s.lnt n).issuePos (burstLen (vget s.lnt n)) s).1.2 ≠ [] → Answers (.lanternBurstIssue n) s fun t =>
      t.bb = s.bb ∧ (vget t.lnt n).issuePos = (vget s.lnt n).wrPos ∧ (vget t.lnt n).wrPos = (vget s.lnt n).wrPos ∧
      (∀ b ∈ (vget t.lnt n).bursts, b.index = false → b.void = true) ∧ (∀ m : Fin 16, m ≠ n → vget t.lnt m = vget s.lnt m)) ∧
  (∀ (b : LntBurst), finishedBurst s n.val false true = some b → s.get (F.LNT_RING_SIZE_MIB n.val) ≠ 0 →
    Answers (.lanternBurstCommit n) s fun t => (vget t.lnt n).fails = (if b.void then (vget s.lnt n).fails else 0) ∧
      (b ∉ (vget t.lnt n).bursts ∨ 1 < (vget s.lnt n).bursts.count b) ∧ (vget s.lnt n).wrPos ≤ (vget t.lnt n).wrPos ∧
      t.get64 (R.LNT_WR_PTR_LO n.val) (R.LNT_WR_PTR_HI n.val) = (vget t.lnt n).wrPos % (s.get (F.LNT_RING_SIZE_MIB n.val) * 2 ^ 20) % 2 ^ 64 ∧
      (∀ m : Fin 16, m ≠ n → vget t.lnt m = vget s.lnt m)) ∧
  (∀ (b : LntBurst), finishedBurst s n.val true true = some b → 0 < s.get (F.LNT_IDX_SIZE_SIZE n.val) → Answers (.lanternIndexCommit n) s fun t =>
    t.get (F.LNT_IDX_PTR_ENTRY n.val) = (if s.get (F.LNT_IDX_SIZE_SIZE n.val) * 128 ≤ s.get (F.LNT_IDX_PTR_ENTRY n.val) + 1 then 0
      else s.get (F.LNT_IDX_PTR_ENTRY n.val) + 1) ∧ vget t.lnt n = { vget s.lnt n with bursts := (vget s.lnt n).bursts.erase b } ∧
      t.evc = (raise (64 + 4 * n.val) s).evc ∧ Keeps s t [.lnt, .bb, .evc] [R.LNT_IDX_PTR n.val]) ∧
  (∀ (b : LntBurst), finishedBurst s n.val false false = some b → b.void = false → Answers (.lanternBurstError n) s fun t =>
    t.flag (F.LNT_STATUS_WR_ERR n.val) = true ∧ (vget t.lnt n).fails = (vget s.lnt n).fails + 1 ∧ (vget t.lnt n).wrPos = (vget s.lnt n).wrPos ∧
      (∀ c ∈ (vget t.lnt n).bursts, c.index = false → c.void = true) ∧
      (3 ≤ (vget s.lnt n).fails → lntRuns s n.val = true → lntState t n.val = 3 ∧ (vget t.lnt n).stopping = some 3) ∧
      ((vget s.lnt n).fails < 3 → lntState t n.val = lntState s n.val)) ∧
  (∀ (b : LntBurst), finishedBurst s n.val false false = some b → b.void = true → Answers (.lanternBurstError n) s fun t =>
    (vget t.lnt n).fails = (vget s.lnt n).fails ∧ (vget t.lnt n).wrPos = (vget s.lnt n).wrPos ∧ lntState t n.val = lntState s n.val ∧
      t.flag (F.LNT_STATUS_WR_ERR n.val) = s.flag (F.LNT_STATUS_WR_ERR n.val)) ∧
  (lntRuns s n.val = true → (vget s.lnt n).fifoLen ≠ 0 → (vget s.lnt n).layPos % 8 = 0 →
    (vget s.lnt n).fifoSince + 1000 * s.get (F.LNT_RT_FLUSH_US n.val) ≤ s.elapsed →
    Answers (.lanternFlushTimeout n) s fun t => (vget t.lnt n).layPos % 64 = 0 ∧ (vget t.lnt n).flushTo = (vget t.lnt n).layPos ∧
      (vget s.lnt n).layPos ≤ (vget t.lnt n).layPos ∧ (vget t.lnt n).layPos < (vget s.lnt n).layPos + 64 ∧
      (∀ m : Fin 16, m ≠ n → vget t.lnt m = vget s.lnt m) ∧ Keeps s t [.lnt, .evc, .stg] [R.STG_COLLIDED]))

/-! ### Beacons (11_beacons_schedule.md, first part) -/

/-- Control of a Beacon (R200, R553 to R557, R559, R561, R562, R564, R565, R576): an accepted EN copies the program and the fill unit from the
pattern area and, if the program is good, loads; a bad program or a missing setting refuses; START plays a Ready Beacon with
START_TT at TT and is held in Loading; STOP ends Playing in Loading; EN 0 stops, and Idle applies a held enable. -/
def Obligations.BeaconControl : Prop := ∀ (s : State) (p : Partner) (n : Fin 16) (v : Word),
  (let s1 := s.wr (R.BCN_CTRL n.val) ((v &&& 0x3F07F0) ||| 1)
   let prog := stgBytes s (65536 * s.get (F.BCN_PMEM_BASE n.val)) 2048
   s.admits p (R.BCN_CTRL n.val) → bcnState s n.val = 0 → 16 + n.val ∉ s.rst.engines →
    s.sound (65536 * s.get (F.BCN_PMEM_BASE n.val)) (0x800 + bcnU s1 n.val) → s.portAIdle →
    bcnRefuses s1 n.val = false → programBad s1 n.val prog = false → Answers (.beaconEnable p n v) s fun t => t.told p .ok 0 ∧
      bcnState t n.val = 1 ∧ t.rd (R.BCN_CTRL n.val) = (v &&& 0x3F07F0) ||| 1 ∧ (vget t.bcn n).prog = prog ∧
      (vget t.bcn n).fill = stgBytes s (65536 * s.get (F.BCN_PMEM_BASE n.val) + 0x800) (bcnU s1 n.val) ∧
      ((vget t.bcn n).streamSeg = if (segAt prog ((F.BCN_CTRL_START_SEG n.val).of v)).stream then some ((F.BCN_CTRL_START_SEG n.val).of v) else none) ∧
      (∀ m : Fin 16, m ≠ n → vget t.bcn m = vget s.bcn m) ∧ Keeps s t [.resp, .bcn, .evc] [R.BCN_CTRL n.val, R.BCN_STATUS n.val]) ∧
  (let s1 := s.wr (R.BCN_CTRL n.val) ((v &&& 0x3F07F0) ||| 1)
   s.admits p (R.BCN_CTRL n.val) → bcnState s n.val = 0 → 16 + n.val ∉ s.rst.engines →
    s.sound (65536 * s.get (F.BCN_PMEM_BASE n.val)) (0x800 + bcnU s1 n.val) → s.portAIdle →
    bcnRefuses s1 n.val = false → programBad s1 n.val (stgBytes s (65536 * s.get (F.BCN_PMEM_BASE n.val)) 2048) = true →
    Answers (.beaconEnable p n v) s fun t => t.told p .ok 0 ∧ bcnState t n.val = 0 ∧ t.flag (F.BCN_CTRL_EN n.val) = false ∧
      t.flag (F.BCN_STATUS_BAD_PROGRAM n.val) = true ∧ t.flag (F.BCN_STATUS_REFUSED n.val) = true ∧
      (∀ m : Fin 16, m ≠ n → vget t.bcn m = vget s.bcn m) ∧ Keeps s t [.resp, .bcn, .evc] [R.BCN_CTRL n.val, R.BCN_STATUS n.val]) ∧
  (s.admits p (R.BCN_CTRL n.val) → bcnState s n.val = 0 → 16 + n.val ∉ s.rst.engines →
    s.get (F.BCN_PMEM_SIZE n.val) = 0 ∨ (F.BCN_CTRL_LANES n.val).of v = 0 → Answers (.beaconEnable p n v) s fun t => t.told p .ok 0 ∧
      t.flag (F.BCN_STATUS_REFUSED n.val) = true ∧ bcnState t n.val = 0 ∧ Keeps s t [.resp] [R.BCN_CTRL n.val, R.BCN_STATUS n.val]) ∧
  (s.admits p (R.BCN_CTRL n.val) → bcnState s n.val = 4 → Answers (.beaconEnable p n v) s fun t => t.told p .ok 0 ∧ bcnState t n.val = 4 ∧ t.flag (F.BCN_STATUS_ENABLE_PENDING n.val) = true ∧
      t.flag (F.BCN_CTRL_EN n.val) = true ∧ Keeps s t [.resp] [R.BCN_CTRL n.val, R.BCN_STATUS n.val]) ∧
  (s.admits p (R.BCN_CTRL n.val) → 1 ≤ bcnState s n.val → bcnState s n.val ≤ 3 → 16 + n.val ∉ s.rst.engines →
    Answers (.beaconDisable p n v) s fun t => t.told p .ok 0 ∧ bcnState t n.val = 4 ∧
      t.flag (F.BCN_CTRL_EN n.val) = false ∧ (vget t.bcn n).held = none ∧ (vget t.bcn n).streamSeg = none ∧ (vget t.bcn n).buf = [] ∧
      ((s.rd (R.BCN_CTRL n.val) ^^^ v) &&& 0x3F07F0 ≠ 0 → t.flag (F.BCN_STATUS_IGNORED n.val) = true) ∧
      t.rd (R.BCN_CTRL n.val) = s.rd (R.BCN_CTRL n.val) &&& 0xFFFFFFFE ∧
      (∀ m : Fin 16, m ≠ n → vget t.bcn m = vget s.bcn m)) ∧
  (s.works = true → bcnState s n.val = 4 → s.flag (F.BCN_STATUS_ENABLE_PENDING n.val) = false → Answers (.beaconIdle n) s fun t =>
    bcnState t n.val = 0 ∧ t.evc = (raise (128 + 2 * n.val) { s with regs := t.regs }).evc ∧ SameBut s t (R.BCN_STATUS n.val) 7 ∧
      Keeps s t [.evc] [R.BCN_STATUS n.val]) ∧
  (let prog := stgBytes s (65536 * s.get (F.BCN_PMEM_BASE n.val)) 2048
   s.works = true → bcnState s n.val = 4 → s.flag (F.BCN_STATUS_ENABLE_PENDING n.val) = true → 16 + n.val ∉ s.rst.engines →
    s.sound (65536 * s.get (F.BCN_PMEM_BASE n.val)) (0x800 + bcnU s n.val) → s.portAIdle → bcnRefuses s n.val = false →
    programBad s n.val prog = false → Answers (.beaconIdle n) s fun t => bcnState t n.val = 1 ∧ t.flag (F.BCN_CTRL_EN n.val) = true ∧
      t.flag (F.BCN_STATUS_ENABLE_PENDING n.val) = false ∧ (vget t.bcn n).prog = prog) ∧
  (s.works = true → bcnState s n.val = 1 → prefetched s n.val = true → (vget s.bcn n).held = none → Answers (.beaconReady n) s fun t =>
    bcnState t n.val = 2 ∧ SameBut s t (R.BCN_STATUS n.val) 7 ∧ Keeps s t [.evc] [R.BCN_STATUS n.val]) ∧
  (∀ (x : Option Nat × Bool), (vget s.bcn n).held = some x → s.works = true → bcnState s n.val = 1 → prefetched s n.val = true →
    Answers (.beaconReady n) s fun t => bcnState t n.val = 3 ∧ (vget t.bcn n).held = none ∧ (vget t.bcn n).ran = 0 ∧
      t.get64 (R.BCN_START_TT n.val 0) (R.BCN_START_TT n.val 1) = s.tt.tt.toNat ∧ (x.2 = true → t.flag (F.BCN_STATUS_LATE_START n.val) = true)) ∧
  (s.admits p (R.BCN_CMD n.val) → bcnState s n.val = 2 → Answers (.beaconCmdStart p n) s fun t => t.told p .ok 0 ∧ bcnState t n.val = 3 ∧
    t.get64 (R.BCN_START_TT n.val 0) (R.BCN_START_TT n.val 1) = s.tt.tt.toNat ∧ (vget t.bcn n).ran = 0 ∧
    t.get (F.BCN_STATUS_SEG n.val) = s.get (F.BCN_CTRL_START_SEG n.val) ∧ (vget t.bcn n).pass = 0 ∧
    (∀ k : Fin 8, vget (vget t.bcn n).lineAt k = none) ∧ (∀ m : Fin 16, m ≠ n → vget t.bcn m = vget s.bcn m) ∧
    (∀ m : Fin 64, m.val ∉ bcnLanes s n.val → vget t.xcv m = vget s.xcv m) ∧
    Keeps s t [.resp, .bcn, .xcv, .evc] [R.BCN_STATUS n.val, R.BCN_START_TT n.val 0, R.BCN_START_TT n.val 1]) ∧
  (s.admits p (R.BCN_CMD n.val) → bcnState s n.val = 1 → Answers (.beaconCmdStart p n) s fun t => t.told p .ok 0 ∧
    vget t.bcn n = { vget s.bcn n with held := some (none, false) } ∧ (∀ m : Fin 16, m ≠ n → vget t.bcn m = vget s.bcn m) ∧ Keeps s t [.resp, .bcn] []) ∧
  (s.admits p (R.BCN_CMD n.val) → bcnState s n.val = 3 → Answers (.beaconCmdStop p n) s fun t => t.told p .ok 0 ∧
    (bcnState t n.val = 1 ∨ bcnState t n.val = 0 ∧ t.flag (F.BCN_STATUS_BAD_PROGRAM n.val) = true) ∧
    t.get (F.BCN_STATUS_ENABLE_PENDING n.val) = s.get (F.BCN_STATUS_ENABLE_PENDING n.val) ∧ (vget s.bcn n).sent ≤ (vget t.bcn n).sent ∧
    (∀ m : Fin 16, m ≠ n → vget t.bcn m = vget s.bcn m)) ∧
  (s.admits p (R.BCN_CMD n.val) → bcnState s n.val ≠ 3 → exec (.beaconCmdStop p n) s = .next (s.answer (.partner p) .ok 0))

/-- A program at play (R552, R558, R560, R567, R568, R611): a pass ends when its units have been sent; after LOOPS passes NEXT follows; a set
jump line takes a JUMP_EN segment to JUMP_TO at the first unit boundary 64 ns later, or at the pass's end, and is cleared;
writes and edges set lines, BCNn_JUMP_CLR clears them; a read of UNITS_LO latches the high half.
Streaming (R570, R571, R573, R574): the next burst of the segment goes out as the Beacon's master when the buffer has room for it; a
unit whose data has not arrived when it is due is an underrun, counted, latched and flagged; a failed burst sets RD_ERR, and the
fourth in a row ends the program. -/
def Obligations.BeaconPlayAndStream : Prop :=
  (∀ (s : State) (p : Partner) (n : Fin 16) (k : Fin 8) (v : Word),
  (let u := catchUnderrun n.val s
   Keeps s u [.bcn, .evc] [R.BCN_STATUS n.val, R.BCN_UNDERRUNS n.val, R.BCN_UNDERRUN_TT n.val 0, R.BCN_UNDERRUN_TT n.val 1] ∧
     (vget u.bcn n).pass = (vget s.bcn n).pass ∧ (vget u.bcn n).sent = (vget s.bcn n).sent ∧ (vget u.bcn n).base = (vget s.bcn n).base ∧
     (∀ m : Fin 16, m ≠ n → vget u.bcn m = vget s.bcn m)) ∧
  (let u := catchUnderrun n.val s
   s.works = true → bcnState s n.val = 3 → passEnd u n.val ≤ slotsNow s n.val → jumpSlot u n.val = none →
    (curSeg s n.val).loops = 0 ∨ (vget s.bcn n).pass + 1 < (curSeg s n.val).loops → Answers (.beaconPassEnd n) s fun t =>
      (vget t.bcn n).pass = (vget s.bcn n).pass + 1 ∧ (vget t.bcn n).base = passEnd u n.val ∧ (vget t.bcn n).late = 0 ∧
      (vget t.bcn n).sent = (vget s.bcn n).sent + (curSeg s n.val).units ∧
      t.rd (R.BCN_LOOPS n.val) = s.rd (R.BCN_LOOPS n.val) + 1 ∧ bcnState t n.val = 3 ∧ t.get (F.BCN_STATUS_SEG n.val) = s.get (F.BCN_STATUS_SEG n.val) ∧
      t.evc = (if (curSeg s n.val).evtStart then (raise (129 + 2 * n.val) { u with regs := t.regs }).evc else u.evc) ∧
      (∀ m : Fin 16, m ≠ n → vget t.bcn m = vget s.bcn m) ∧ Keeps u t [.bcn, .evc] [R.BCN_LOOPS n.val]) ∧
  (let u := catchUnderrun n.val s
   s.works = true → bcnState s n.val = 3 → passEnd u n.val ≤ slotsNow s n.val → jumpSlot u n.val = none →
    0 < (curSeg s n.val).loops → (curSeg s n.val).loops ≤ (vget s.bcn n).pass + 1 → (curSeg s n.val).last = false → Answers (.beaconPassEnd n) s fun t =>
      t.get (F.BCN_STATUS_SEG n.val) = (curSeg s n.val).next ∧ (vget t.bcn n).pass = 0 ∧ (vget t.bcn n).base = passEnd u n.val ∧ bcnState t n.val = 3 ∧
      t.rd (R.BCN_LOOPS n.val) = s.rd (R.BCN_LOOPS n.val) + 1 ∧ (∀ m : Fin 16, m ≠ n → vget t.bcn m = vget s.bcn m) ∧
      Keeps u t [.bcn, .evc] [R.BCN_LOOPS n.val, R.BCN_STATUS n.val]) ∧
  (let u := catchUnderrun n.val s
   s.works = true → bcnState s n.val = 3 → passEnd u n.val ≤ slotsNow s n.val → jumpSlot u n.val = none →
    0 < (curSeg s n.val).loops → (curSeg s n.val).loops ≤ (vget s.bcn n).pass + 1 → (curSeg s n.val).last = true → Answers (.beaconPassEnd n) s fun t =>
      (bcnState t n.val = 1 ∨ bcnState t n.val = 0 ∧ t.flag (F.BCN_STATUS_BAD_PROGRAM n.val) = true) ∧
      (vget t.bcn n).sent = (vget s.bcn n).sent + (curSeg s n.val).units) ∧
  (∀ (j : Nat),
   let u := catchUnderrunTo n.val (if (curSeg s n.val).jumpAtEnd then slotsNow s n.val + 1 else min j (slotsNow s n.val + 1)) s
   jumpSlot s n.val = some j → s.works = true → bcnState s n.val = 3 → jumpSlot u n.val = some j → j ≤ slotsNow s n.val →
    Answers (.beaconJump n) s fun t => t.get (F.BCN_STATUS_SEG n.val) = (curSeg s n.val).target ∧
      t.rd (R.BCN_JUMPS n.val) = s.rd (R.BCN_JUMPS n.val) + 1 ∧ vget (vget t.bcn n).lineAt (finOf 7 (curSeg s n.val).line) = none ∧
      (∀ i : Fin 8, i.val ≠ (curSeg s n.val).line → vget (vget t.bcn n).lineAt i = vget (vget s.bcn n).lineAt i) ∧
      (vget t.bcn n).base = j ∧ (vget t.bcn n).pass = 0 ∧ bcnState t n.val = 3 ∧ (∀ m : Fin 16, m ≠ n → vget t.bcn m = vget s.bcn m) ∧
      Keeps u t [.bcn, .evc] [R.BCN_JUMPS n.val, R.BCN_LOOPS n.val, R.BCN_STATUS n.val]) ∧
  (∀ (t0 : Nat), vget (vget s.bcn n).lineAt (finOf 7 (curSeg s n.val).line) = some t0 → bcnState s n.val = 3 → (curSeg s n.val).jumpEn = true →
    ((curSeg s n.val).jumpAtEnd = true → t0 ≤ unitTime s n.val (passEnd s n.val) → jumpSlot s n.val = some (passEnd s n.val)) ∧
    ((curSeg s n.val).jumpAtEnd = false → ∀ j, jumpSlot s n.val = some j → j ≤ passEnd s n.val ∧ (vget s.bcn n).base < j ∧
      (lineRate s n.val ≠ 0 → t0 + 4096 ≤ unitTime s n.val j))) ∧
  (s.admits p (R.BCN_JUMP n.val) → Answers (.bcnnJump p n v) s fun t => t.told p .ok 0 ∧
    (∀ i : Fin 8, vget (vget t.bcn n).lineAt i = if v.getLsbD i.val then some ((vget (vget s.bcn n).lineAt i).getD (vget s.bcn n).ran)
      else vget (vget s.bcn n).lineAt i) ∧ (∀ m : Fin 16, m ≠ n → vget t.bcn m = vget s.bcn m) ∧ Keeps s t [.resp, .bcn] []) ∧
  (s.admits p (R.BCN_JUMP_CLR n.val) → Answers (.bcnnJumpClr p n v) s fun t => t.told p .ok 0 ∧
    (∀ i : Fin 8, vget (vget t.bcn n).lineAt i = if v.getLsbD i.val then none else vget (vget s.bcn n).lineAt i) ∧
      (∀ m : Fin 16, m ≠ n → vget t.bcn m = vget s.bcn m) ∧ Keeps s t [.resp, .bcn] []) ∧
  (s.fabricOn = true → s.flag F.CFG_STATUS_DONE = true → Answers (.bcnJmpEdge n k) s fun t =>
    (vget (vget t.bcn n).lineAt k).isSome = true ∧ (∀ i : Fin 8, i ≠ k → vget (vget t.bcn n).lineAt i = vget (vget s.bcn n).lineAt i) ∧
      (∀ m : Fin 16, m ≠ n → vget t.bcn m = vget s.bcn m) ∧ Keeps s t [.bcn] []) ∧
  (s.admits p (R.BCN_UNITS_LO n.val) → Answers (.beaconUnitsRead p n) s fun t => t.told p .ok (BitVec.ofNat 32 (unitsSent s n.val)) ∧
    vget t.bcn n = { vget s.bcn n with unitsHi := BitVec.ofNat 16 (unitsSent s n.val / 2 ^ 32) } ∧
      (∀ m : Fin 16, m ≠ n → vget t.bcn m = vget s.bcn m) ∧ Keeps s t [.resp, .bcn] [])) ∧
  (∀ (s : State) (n : Fin 16),
  (∀ (a len : Nat),
   let u := streamOnward n.val (bcnTrim n.val s)
   nextBurst u n.val = some (a, len) → s.works = true → 1 ≤ bcnState s n.val → bcnState s n.val ≤ 3 → burstRoom u n.val len = true →
    Answers (.beaconStreamBurst n) s fun t => (vget t.bcn n).next = (vget s.bcn n).next + len ∧
      (vget t.bcn n).out = (vget s.bcn n).out ++ [(s.bb.nextId, len)] ∧ (vget t.bcn n).buf = (vget u.bcn n).buf ∧
      t.bb = (bbIssue (32 + n.val) false a [] len (s.deadlineIn (s.get (F.BCN_RT_SLACK_NS n.val))) (.beacon n.val) u).bb ∧
      (∀ m : Fin 16, m ≠ n → vget t.bcn m = vget s.bcn m) ∧ SameBut s t (R.BCN_STATUS n.val) 0x10 ∧
      Keeps s t [.bcn, .bb] (R.BCN_STATUS n.val :: requestRegs)) ∧
  (∀ (a len : Nat),
   let u := streamOnward n.val (bcnTrim n.val s)
   nextBurst u n.val = some (a, len) → s.works = true → 1 ≤ bcnState s n.val → bcnState s n.val ≤ 3 → burstRoom u n.val len = false →
    Answers (.beaconStreamBurst n) s fun t => (vget t.bcn n).out = (vget s.bcn n).out ∧
      SameBut s t (R.BCN_STATUS n.val) 0x10 ∧ Keeps s t [.bcn] [R.BCN_STATUS n.val]) ∧
  (let x := vget s.bcn n
   let got := (x.used + x.buf.length - x.segPos) / unitBytes s n.val
   s.works = true → bcnState s n.val = 3 → (curSeg s n.val).stream = true → unitBytes s n.val ≠ 0 →
    x.used + x.buf.length - x.segPos < unitBytes s n.val * min (slotsNow s n.val + 1 - x.base - x.late) (curSeg s n.val).units →
    Answers (.beaconUnderrun n) s fun t => t.flag (F.BCN_STATUS_UNDERRUN n.val) = true ∧
      (vget t.bcn n).late = x.late + (min (slotsNow s n.val + 1 - x.base - x.late) (curSeg s n.val).units - got) ∧
      t.rd (R.BCN_UNDERRUNS n.val) = s.rd (R.BCN_UNDERRUNS n.val) + BitVec.ofNat 32 ((vget t.bcn n).late - x.late) ∧
      (s.flag (F.BCN_STATUS_UNDERRUN n.val) = false → t.get64 (R.BCN_UNDERRUN_TT n.val 0) (R.BCN_UNDERRUN_TT n.val 1) =
        (slotTt s n.val (x.base + x.late + got)).toNat) ∧
      (s.flag (F.BCN_STATUS_UNDERRUN n.val) = true → t.rd (R.BCN_UNDERRUN_TT n.val 0) = s.rd (R.BCN_UNDERRUN_TT n.val 0)) ∧
      t.evc = (raise (129 + 2 * n.val) { s with regs := t.regs }).evc ∧ (∀ m : Fin 16, m ≠ n → vget t.bcn m = vget s.bcn m) ∧
      Keeps s t [.bcn, .evc] [R.BCN_STATUS n.val, R.BCN_UNDERRUNS n.val, R.BCN_UNDERRUN_TT n.val 0, R.BCN_UNDERRUN_TT n.val 1]) ∧
  (∀ (st : Status), ((vget s.bcn n).out.head?.bind fun q => doneStatus s q.1) = some st → st ≠ .ok → s.works = true →
    Answers (.beaconReadError n) s fun t => t.flag (F.BCN_STATUS_RD_ERR n.val) = true ∧
      t.flag (F.BCN_STATUS_UNDERRUN n.val) = true ∧ (vget t.bcn n).fails = (vget s.bcn n).fails + 1 ∧
      ((vget s.bcn n).fails < 3 → bcnState t n.val = bcnState s n.val ∧ (vget t.bcn n).out = (vget s.bcn n).out.drop 1) ∧
      (3 ≤ (vget s.bcn n).fails → bcnState t n.val ≠ 3) ∧ (∀ m : Fin 16, m ≠ n → vget t.bcn m = vget s.bcn m)) ∧
  (∀ (w units : Nat), badWordOf s n.val = some (w, units) → s.works = true → bcnState s n.val = 3 → (curSeg s n.val).stream = false →
    (vget s.bcn n).out = [] → Answers (.beaconReadError n) s fun t => t.flag (F.BCN_STATUS_RD_ERR n.val) = true ∧
      t.flag (F.BCN_STATUS_UNDERRUN n.val) = true ∧ t.rd (R.BCN_UNDERRUNS n.val) = s.rd (R.BCN_UNDERRUNS n.val) + BitVec.ofNat 32 units ∧
      bcnState t n.val = 3 ∧ badWordOf t n.val ≠ some (w, units) ∧ (∀ m : Fin 16, m ≠ n → vget t.bcn m = vget s.bcn m)))

/-! ### Schedule Unit (11_beacons_schedule.md, second part) -/

namespace Sys2Proof.Machine

/-- What an entry that is late with LATE_POL SKIP does (R585 to R588): RESULT becomes SKIPPED, LATE sets, SCH_LATE names the entry, event
168 is raised, and its action does nothing. -/
abbrev EntrySkipped (s t : State) (k : Nat) : Prop :=
  t.entry k = { s.entry k with result := 3, late := false } ∧ t.flag F.SCH_STATUS_LATE = true ∧
    t.get F.SCH_LATE_TABLE = k / 1024 ∧ t.get F.SCH_LATE_INDEX = k % 1024 ∧
    (∀ j : Fin 2048, j.val ≠ k → t.entry j.val = s.entry j.val) ∧ Keeps s t [.sch, .evc] [R.SCH_STATUS, R.SCH_LATE]

/-- The entry may act now with the action given, and is not to be skipped. -/
abbrev State.fires (s : State) (k act : Nat) : Prop :=
  entryMay s k = true ∧ (s.entry k).action = act ∧ ((s.entry k).late && (s.entry k).skips) = false

end Sys2Proof.Machine

/-- Entries (R577 to R580, R585 to R590): a write of word 2 commits the staging copy, late if its time comes within 2 us or its LSC value
is reached; a word outside the action table, or an LSC time of 2^48 or more, is stored with VALID 0 and sets BAD_ENTRY; a late entry with SKIP is skipped whatever its action; an EVENT entry
raises its source and sets its jump line, a RELOAD entry asks the engine for its region. -/
def Obligations.ScheduleEntries : Prop := ∀ (s : State) (p : Partner) (entry : Fin 2048) (v : Word),
  (let st := sget entryZero s.sch.stage entry.val
   s.admits p (R.SCH_TABLE (4 * entry.val + 2)) → actionOk (v.toNat / 2 ^ 24 % 16) (v.toNat % 2 ^ 24) st.arg2 = true →
    (v.getLsbD 30 = true → st.time.toNat < 2 ^ 48) → Answers (.schEntryCommit p entry v) s fun t => t.told p .ok 0 ∧
      t.entry entry.val = ⟨st.time, v &&& 0xEFFFFFFF, 0, st.arg2, v.getLsbD 31 && (if v.getLsbD 30 then
        lscRunning s && lscReached s.tt.lsc (st.time.setWidth 48) else decide (st.time.toNat < s.tt.tt.toNat + 128000))⟩ ∧
      (∀ j : Fin 2048, j ≠ entry → t.entry j.val = s.entry j.val) ∧ Keeps s t [.resp, .sch] []) ∧
  (let st := sget entryZero s.sch.stage entry.val
   s.admits p (R.SCH_TABLE (4 * entry.val + 2)) → actionOk (v.toNat / 2 ^ 24 % 16) (v.toNat % 2 ^ 24) st.arg2 = false ∨
      v.getLsbD 30 = true ∧ 2 ^ 48 ≤ st.time.toNat →
    Answers (.schEntryCommit p entry v) s fun t => t.told p .ok 0 ∧ t.flag F.SCH_STATUS_BAD_ENTRY = true ∧
      t.entry entry.val = ⟨st.time, v &&& 0x6FFFFFFF, 0, st.arg2, false⟩ ∧
      (∀ j : Fin 2048, j ≠ entry → t.entry j.val = s.entry j.val) ∧ Keeps s t [.resp, .sch] [R.SCH_STATUS]) ∧
  (entryMay s entry.val = true → (s.entry entry.val).action = 1 → ((s.entry entry.val).late && (s.entry entry.val).skips) = true →
    Answers (.lntStart entry) s fun t => EntrySkipped s t entry.val) ∧
  (entryMay s entry.val = true → (s.entry entry.val).action = 2 → ((s.entry entry.val).late && (s.entry entry.val).skips) = true →
    Answers (.lntStop entry) s fun t => EntrySkipped s t entry.val) ∧
  (entryMay s entry.val = true → (s.entry entry.val).action = 3 → ((s.entry entry.val).late && (s.entry entry.val).skips) = true →
    Answers (.bcnStart entry) s fun t => EntrySkipped s t entry.val) ∧
  (entryMay s entry.val = true → (s.entry entry.val).action = 4 → ((s.entry entry.val).late && (s.entry entry.val).skips) = true →
    Answers (.bcnStop entry) s fun t => EntrySkipped s t entry.val) ∧
  (entryMay s entry.val = true → (s.entry entry.val).action = 5 → ((s.entry entry.val).late && (s.entry entry.val).skips) = true →
    Answers (.schEvent entry) s fun t => EntrySkipped s t entry.val) ∧
  (entryMay s entry.val = true → (s.entry entry.val).action = 6 → ((s.entry entry.val).late && (s.entry entry.val).skips) = true →
    Answers (.schPin entry) s fun t => EntrySkipped s t entry.val) ∧
  (entryMay s entry.val = true → (s.entry entry.val).action = 7 → ((s.entry entry.val).late && (s.entry entry.val).skips) = true →
    Answers (.schReload entry) s fun t => EntrySkipped s t entry.val) ∧
  (entryMay s entry.val = true → (s.entry entry.val).action = 8 → ((s.entry entry.val).late && (s.entry entry.val).skips) = true →
    Answers (.schSnap entry) s fun t => EntrySkipped s t entry.val) ∧
  (let e := s.entry entry.val
   s.fires entry.val 5 → Answers (.schEvent entry) s fun t =>
    t.entry entry.val = { e with result := if e.late then 2 else 1, late := false } ∧
      (bitOf e.arg 11 = true → (vget (vget t.bcn (finOf 15 (e.arg / 16 % 16))).lineAt (finOf 7 (e.arg / 256 % 8))).isSome = true) ∧
      (bitOf e.arg 11 = false → t.bcn = s.bcn) ∧
      (e.late = false → t.evc = (if bitOf e.arg 3 then (raise (160 + e.arg % 8) s).evc else s.evc) ∧
        t.rd R.SCH_STATUS = s.rd R.SCH_STATUS ∧ Keeps s t [.sch, .evc, .bcn] []) ∧
      (e.late = true → t.flag F.SCH_STATUS_LATE = true) ∧ (∀ j : Fin 2048, j ≠ entry → t.entry j.val = s.entry j.val)) ∧
  (s.fires entry.val 7 → s.cfg.load = none → Answers (.schReload entry) s fun t =>
    (t.cfg.load.map fun l => (l.src, l.addr, l.reload)) =
        some (if s.flag (F.CFG_RELOAD_SRC ((s.entry entry.val).arg % 24)) then 2 else 1, 16 * s.get (F.CFG_RELOAD_ADDR16 ((s.entry entry.val).arg % 24)),
          some ((s.entry entry.val).arg % 24)) ∧ (t.entry entry.val).result = (if (s.entry entry.val).late then 2 else 1) ∧ t.flag F.CFG_STATUS_BUSY = true) ∧
  (s.fires entry.val 7 → s.cfg.load ≠ none → Answers (.schReload entry) s fun t => t.cfg.load = s.cfg.load ∧
    t.cfg.waiting = s.cfg.waiting ++ [(s.entry entry.val).arg] ∧ (t.entry entry.val).result = (if (s.entry entry.val).late then 2 else 1) ∧
    (∀ j : Fin 2048, j ≠ entry → t.entry j.val = s.entry j.val))

/-- Entries with targets (R538, R540, R557, R561, R575, R580, R582, R589, R590, R610): LNT_START arms and LNT_STOP stops each Lantern of ARG,
BCN_START plays each Ready Beacon with START_TT at the entry's time, or at TT for one that is late or follows LSC, and BCN_STOP ends each playing program, PIN drives its pin
and PULSE returns it after ARG2 ns, SNAP samples the groups that run and finds no target in the others. -/
def Obligations.ScheduleTargets : Prop := ∀ (s : State) (entry : Fin 2048) (pin : Fin 16),
  (∀ (m : Fin 16), s.fires entry.val 1 → bitOf (s.entry entry.val).arg m.val = true → lntState s m.val = 0 → m.val ∉ s.rst.engines →
    lntRefuses s m.val = false → Answers (.lntStart entry) s fun t => lntState t m.val = 1 ∧ t.flag (F.LNT_CTRL_EN m.val) = true ∧
      (∀ k : Fin 16, bitOf (s.entry entry.val).arg k.val = false → vget t.lnt k = vget s.lnt k) ∧
      (∀ j : Fin 2048, j ≠ entry → t.entry j.val = s.entry j.val)) ∧
  (∀ (m : Fin 16), s.fires entry.val 2 → bitOf (s.entry entry.val).arg m.val = true → lntState s m.val = 1 ∨ lntState s m.val = 2 →
    m.val ∉ s.rst.engines → Answers (.lntStop entry) s fun t => lntState t m.val = 3 ∧ t.flag (F.LNT_CTRL_EN m.val) = false ∧
      (vget t.lnt m).stopping = some 2 ∧ (t.entry entry.val).result = (if (s.entry entry.val).late then 2 else 1) ∧
      (∀ k : Fin 16, bitOf (s.entry entry.val).arg k.val = false → vget t.lnt k = vget s.lnt k)) ∧
  (∀ (m : Fin 16), s.fires entry.val 3 → bitOf (s.entry entry.val).arg m.val = true → bcnState s m.val = 2 →
    Answers (.bcnStart entry) s fun t => bcnState t m.val = 3 ∧ (vget t.bcn m).ran = 0 ∧
      t.get64 (R.BCN_START_TT m.val 0) (R.BCN_START_TT m.val 1) =
        (if (s.entry entry.val).late || (s.entry entry.val).onLsc then s.tt.tt else (s.entry entry.val).time).toNat ∧
      (∀ k : Fin 16, bitOf (s.entry entry.val).arg k.val = false → vget t.bcn k = vget s.bcn k)) ∧
  (∀ (m : Fin 16), s.fires entry.val 4 → bitOf (s.entry entry.val).arg m.val = true → bcnState s m.val = 3 → Answers (.bcnStop entry) s fun t =>
    (bcnState t m.val = 1 ∨ bcnState t m.val = 0 ∧ t.flag (F.BCN_STATUS_BAD_PROGRAM m.val) = true) ∧
      (∀ k : Fin 16, bitOf (s.entry entry.val).arg k.val = false → vget t.bcn k = vget s.bcn k)) ∧
  (let e := s.entry entry.val
   let q := (s.entry entry.val).arg % 16
   s.fires entry.val 6 → Answers (.schPin entry) s fun t =>
    (t.rd R.SCH_PINS).getLsbD q = (if e.arg / 16 % 4 = 0 then true else if e.arg / 16 % 4 = 1 then false else !(s.rd R.SCH_PINS).getLsbD q) ∧
      SameBut s t R.SCH_PINS (BitVec.ofNat 32 (2 ^ q)) ∧
      vget t.sch.pulse (finOf 15 q) = (if e.arg / 16 % 4 = 3 then some (s.elapsed + e.arg2, (s.rd R.SCH_PINS).getLsbD q) else none) ∧
      t.entry entry.val = { e with result := if e.late then 2 else 1, late := false } ∧
      (e.late = false → Keeps s t [.sch] [R.SCH_PINS]) ∧ (e.late = true → t.flag F.SCH_STATUS_LATE = true ∧ Keeps s t [.sch, .evc] [R.SCH_PINS, R.SCH_STATUS, R.SCH_LATE])) ∧
  (∀ (t0 : Nat) (level : Bool), vget s.sch.pulse pin = some (t0, level) → s.works = true → t0 ≤ s.elapsed →
    (∀ x ∈ s.sch.tab, (dueKey s x.1 x.2).isSome = true → x.2.action = 6 → x.2.arg % 16 ≠ pin.val) →
    Answers (.schPulseEnd pin) s fun t => (t.rd R.SCH_PINS).getLsbD pin.val = level ∧ SameBut s t R.SCH_PINS (BitVec.ofNat 32 (2 ^ pin.val)) ∧
      vget t.sch.pulse pin = none ∧ (∀ k : Fin 16, k ≠ pin → vget t.sch.pulse k = vget s.sch.pulse k) ∧ Keeps s t [.sch] [R.SCH_PINS]) ∧
  (∀ (t0 : Nat) (level : Bool), vget s.sch.pulse pin = some (t0, level) → s.elapsed < t0 → exec (.schPulseEnd pin) s = .next s) ∧
  (∀ (g : Fin 16), s.fires entry.val 8 → bitOf (s.entry entry.val).arg g.val = true → s.flag (F.SCH_GRP_CTRL_EN g.val) = true →
    Answers (.schSnap entry) s fun t => t.rd (R.SCH_GRP_SEQ g.val) = s.rd (R.SCH_GRP_SEQ g.val) + 1 ∧
      ((vget s.sch.grps g).busy = [] → (vget t.sch.grps g).prevTt = s.tt.tt ∧ (vget t.sch.grps g).busy ≠ []) ∧
      ((vget s.sch.grps g).busy ≠ [] → t.get (F.SCH_GRP_MISSED_COUNT g.val) = min (s.get (F.SCH_GRP_MISSED_COUNT g.val) + 1) 65535) ∧
      (∀ k : Fin 16, bitOf (s.entry entry.val).arg k.val = false → vget t.sch.grps k = vget s.sch.grps k)) ∧
  (∀ (g : Fin 16), s.fires entry.val 8 → bitOf (s.entry entry.val).arg g.val = true → s.flag (F.SCH_GRP_CTRL_EN g.val) = false →
    Answers (.schSnap entry) s fun t => (t.entry entry.val).result = 4 ∧ t.flag F.SCH_STATUS_LATE = true ∧
      t.rd (R.SCH_GRP_SEQ g.val) = s.rd (R.SCH_GRP_SEQ g.val) ∧ vget t.sch.grps g = vget s.sch.grps g)

namespace Sys2Proof.Machine

/-- What holds when entry `k` has got its RESULT (R581, R584, R604): it was armed, in the active table and due, no sample was due, and no
other armed TT entry of that table that is not late had an earlier nanosecond, or the same one and a lower index. -/
abbrev ActedInOrder (s t : State) (k : Nat) : Prop :=
  (t.entry k).result ≠ (s.entry k).result → (s.entry k).armed = true ∧ k / 1024 = s.get F.SCH_STATUS_ACTIVE ∧ sampleDue s = false ∧
    ((s.entry k).late = true ∨ (s.entry k).onLsc = true ∨ ttNs (s.entry k).time ≤ ttNs s.tt.tt) ∧
    ∀ x ∈ s.sch.tab, x.1 ≠ k → x.1 / 1024 = s.get F.SCH_STATUS_ACTIVE → x.2.armed = true → x.2.late = false → x.2.onLsc = false →
      (s.entry k).late = false → (s.entry k).onLsc = false →
        ttNs (s.entry k).time < ttNs x.2.time ∨ ttNs (s.entry k).time = ttNs x.2.time ∧ k < x.1

end Sys2Proof.Machine

/-- Order among entries (R581, R584, R604): whatever its action, an entry acts only in its turn. -/
def Obligations.ScheduleOrder : Prop := ∀ (s : State) (entry : Fin 2048),
  (swf entryZero s.sch.tab = true → Answers (.lntStart entry) s fun t => ActedInOrder s t entry.val) ∧
  (swf entryZero s.sch.tab = true → Answers (.lntStop entry) s fun t => ActedInOrder s t entry.val) ∧
  (swf entryZero s.sch.tab = true → Answers (.bcnStart entry) s fun t => ActedInOrder s t entry.val) ∧
  (swf entryZero s.sch.tab = true → Answers (.bcnStop entry) s fun t => ActedInOrder s t entry.val) ∧
  (swf entryZero s.sch.tab = true → Answers (.schEvent entry) s fun t => ActedInOrder s t entry.val) ∧
  (swf entryZero s.sch.tab = true → Answers (.schPin entry) s fun t => ActedInOrder s t entry.val) ∧
  (swf entryZero s.sch.tab = true → Answers (.schReload entry) s fun t => ActedInOrder s t entry.val) ∧
  (swf entryZero s.sch.tab = true → Answers (.schSnap entry) s fun t => ActedInOrder s t entry.val)

/-- Table swaps (R591, R592, R593, R595, R596): ARM arms a swap, at the next nanosecond and with SWAP_LATE when its time has passed; CANCEL
disarms it; at SWAP_AT, when no sample and no earlier entry is due, ACTIVE changes, event 169 is raised and the swap is over. -/
def Obligations.ScheduleSwap : Prop := ∀ (s : State) (p : Partner) (v : Word),
  (s.admits p R.SCH_SWAP_CTRL → Answers (.schSwapArm p v) s fun t => t.told p .ok 0 ∧ t.sch.swapArmed = true ∧ t.flag F.SCH_STATUS_SWAP_ARMED = true ∧
    t.flag F.SCH_STATUS_SWAP_LATE = (s.flag F.SCH_STATUS_SWAP_LATE || decide (swapAt s / 64 < ttNs s.tt.tt)) ∧
    t.sch.swapFrom = (if swapAt s / 64 < ttNs s.tt.tt then s.clk.now + 1 else s.clk.now) ∧ t.sch.tab = s.sch.tab ∧
    Keeps s t [.resp, .sch] [R.SCH_SWAP_CTRL, R.SCH_STATUS]) ∧
  (s.admits p R.SCH_SWAP_CTRL → v.getLsbD 0 = false → Answers (.schSwapCancel p v) s fun t => t.told p .ok 0 ∧ t.sch.swapArmed = false ∧
    t.flag F.SCH_STATUS_SWAP_ARMED = false ∧ t.get F.SCH_STATUS_ACTIVE = s.get F.SCH_STATUS_ACTIVE ∧ t.sch.tab = s.sch.tab ∧
    Keeps s t [.resp, .sch] [R.SCH_SWAP_CTRL, R.SCH_STATUS]) ∧
  (swf entryZero s.sch.tab = true → s.works = true → schFrozen s = false → s.sch.swapArmed = true → s.sch.swapFrom ≤ s.clk.now → swapAt s / 64 ≤ ttNs s.tt.tt →
    sampleDue s = false → firstDue s = none → Answers .schTableSwap s fun t => t.get F.SCH_STATUS_ACTIVE = 1 - s.get F.SCH_STATUS_ACTIVE ∧
      t.sch.swapArmed = false ∧ t.flag F.SCH_STATUS_SWAP_ARMED = false ∧ t.evc = (raise 169 { s with regs := t.regs }).evc ∧
      (∀ j : Fin 2048, t.entry j.val = { s.entry j.val with late := (t.entry j.val).late }) ∧
      (∀ j : Fin 2048, j.val / 1024 = s.get F.SCH_STATUS_ACTIVE → t.entry j.val = s.entry j.val) ∧
      (∀ j : Fin 2048, j.val / 1024 = 1 - s.get F.SCH_STATUS_ACTIVE → (s.entry j.val).armed = true → (s.entry j.val).onLsc = false →
        (t.entry j.val).late = ((s.entry j.val).late || decide (ttNs (s.entry j.val).time < ttNs s.tt.tt))) ∧
      Keeps s t [.sch, .evc] [R.SCH_SWAP_CTRL, R.SCH_STATUS]) ∧
  (s.sch.swapArmed = false ∨ ttNs s.tt.tt < swapAt s / 64 → exec .schTableSwap s = .next s)

/-- Statistics groups and the retention record (R195, R231, R597 to R603, R606, R607, R610): EN with a usable interval and some counter starts SEQ at
0 and the intervals after START, else BAD_ENTRY sets; a sample counts SEQ and writes the snapshot, or is missed while the last one
is being written; a committed snapshot raises event 170, a failed write sets WR_ERR and raises 171; after a freeze, when every
snapshot has ended, the retention record with its CRC is written once, and memory goes to self-refresh. -/
def Obligations.Statistics : Prop := ∀ (s : State) (p : Partner) (g : Fin 16) (v : Word),
  (s.admits p (R.SCH_GRP_CTRL g.val) → s.flag (F.SCH_GRP_CTRL_EN g.val) = false → 10000 ≤ grpInterval s g.val →
    s.get (F.SCH_GRP_LNT_MASK g.val) ≠ 0 ∨ s.get (F.SCH_GRP_BCN_MASK g.val) ≠ 0 ∨ grpLanes s g.val ≠ 0 → Answers (.statsGroupEnable p g v) s fun t =>
      let start := s.get64 (R.SCH_GRP_START_LO g.val) (R.SCH_GRP_START_HI g.val)
      let x := vget t.sch.grps g
      t.told p .ok 0 ∧ t.flag (F.SCH_GRP_CTRL_EN g.val) = true ∧ t.rd (R.SCH_GRP_SEQ g.val) = 0 ∧ x.prevTt = BitVec.ofNat 64 start ∧
        (x.nextEnd - start) % (64 * grpInterval s g.val : Int) = 0 ∧ (start : Int) < x.nextEnd ∧ (s.tt.tt.toNat : Int) < x.nextEnd ∧
        (x.nextEnd ≤ max s.tt.tt.toNat start + 64 * grpInterval s g.val) ∧
        (∀ k : Fin 16, k ≠ g → vget t.sch.grps k = vget s.sch.grps k) ∧ Keeps s t [.resp, .sch] [R.SCH_GRP_CTRL g.val, R.SCH_GRP_SEQ g.val]) ∧
  (s.admits p (R.SCH_GRP_CTRL g.val) → s.flag (F.SCH_GRP_CTRL_EN g.val) = false →
    grpInterval s g.val < 10000 ∨ s.get (F.SCH_GRP_LNT_MASK g.val) = 0 ∧ s.get (F.SCH_GRP_BCN_MASK g.val) = 0 ∧ grpLanes s g.val = 0 →
    Answers (.statsGroupEnable p g v) s fun t => t.told p .ok 0 ∧ t.flag F.SCH_STATUS_BAD_ENTRY = true ∧ t.flag (F.SCH_GRP_CTRL_EN g.val) = false ∧
      Keeps s t [.resp] [R.SCH_GRP_CTRL g.val, R.SCH_STATUS]) ∧
  (s.works = true → schFrozen s = false → sampleFirst s g.val = true → (vget s.sch.grps g).busy = [] →
    Answers (.statsSample g) s fun t => t.rd (R.SCH_GRP_SEQ g.val) = s.rd (R.SCH_GRP_SEQ g.val) + 1 ∧
      (vget t.sch.grps g).nextEnd = (vget s.sch.grps g).nextEnd + 64 * grpInterval s g.val ∧ (vget t.sch.grps g).prevTt = s.tt.tt ∧
      (vget t.sch.grps g).busy = (List.range (t.bb.nextId - s.bb.nextId)).map (s.bb.nextId + ·) ∧ s.bb.nextId < t.bb.nextId ∧
      (∀ k : Fin 16, k ≠ g → vget t.sch.grps k = vget s.sch.grps k) ∧ t.sch.tab = s.sch.tab) ∧
  (s.works = true → schFrozen s = false → sampleFirst s g.val = true → (vget s.sch.grps g).busy ≠ [] → Answers (.statsSample g) s fun t =>
    t.rd (R.SCH_GRP_SEQ g.val) = s.rd (R.SCH_GRP_SEQ g.val) + 1 ∧
      t.get (F.SCH_GRP_MISSED_COUNT g.val) = min (s.get (F.SCH_GRP_MISSED_COUNT g.val) + 1) 65535 ∧ t.bb = s.bb ∧ t.evc = (raise 171 s).evc ∧
      Keeps s t [.sch, .evc] [R.SCH_GRP_SEQ g.val, R.SCH_GRP_MISSED g.val]) ∧
  (s.works = true → (vget s.sch.grps g).busy ≠ [] → (∀ i ∈ (vget s.sch.grps g).busy, doneStatus s i = some .ok) → (vget s.sch.grps g).failed = false →
    Answers (.snapshotCommit g) s fun t => (vget t.sch.grps g).busy = [] ∧ t.evc = (raise 170 s).evc ∧
      (vget t.sch.grps g).done = ((vget s.sch.grps g).done || s.flag F.SCH_STATUS_FROZEN) ∧
      (∀ k : Fin 16, k ≠ g → vget t.sch.grps k = vget s.sch.grps k) ∧ Keeps s t [.sch, .bb, .evc] []) ∧
  (∀ (i : Nat), (vget s.sch.grps g).busy.find? (fun i => (doneStatus s i).any (· != .ok)) = some i → s.works = true →
    Answers (.snapshotWriteError g) s fun t => t.flag (F.SCH_GRP_CTRL_WR_ERR g.val) = true ∧
      (vget t.sch.grps g).busy = (vget s.sch.grps g).busy.filter (· ≠ i) ∧
      ((vget t.sch.grps g).busy ≠ [] → (vget t.sch.grps g).failed = true) ∧
      ((vget t.sch.grps g).busy = [] → (vget t.sch.grps g).fail = ((vget s.sch.grps g).fail || s.flag F.SCH_STATUS_FROZEN)) ∧ t.evc = (raise 171 { s with regs := t.regs }).evc ∧
      Keeps s t [.sch, .bb, .evc] [R.SCH_GRP_CTRL g.val]) ∧
  (s.works = true → schFrozen s = true → s.sch.recorded = false → (∀ k : Fin 16, (vget s.sch.grps k).busy = []) →
    Answers .retentionRecordWrite s fun t => t.sch.recorded = true ∧
      (∀ k : Fin 15, t.rd (R.PLT_RET_PART k.val) = BitVec.ofNat 32 (leAt (retentionBytes s) (4 * k.val) 4)) ∧
      t.rd (R.PLT_RET_PART 15) = crc32 (retentionBytes s) ∧
      leAt (retentionBytes s) 2 2 = min (bitsOf (s.rd (R.PLT_RET_PART 0)).toNat 31 16 + 1) 65535 ∧ leAt (retentionBytes s) 8 8 = s.sch.frozenTt.toNat ∧
      t.sch.tab = s.sch.tab ∧ Keeps s t [.sch] (regRange (R.PLT_RET_PART 0) 16)) ∧
  (∀ (k : Fin 8), s.works = true → schFrozen s = true → (∀ k : Fin 16, (vget s.sch.grps k).busy = []) →
    scState s k.val = 2 ∨ scState s k.val = 3 ∨ scState s k.val = 6 → Answers .bowSelfRefresh s fun t =>
      scState s k.val ≠ 4 ∧ scState t k.val = 4)

/-! ### Faults, scrubbing and the watchdog (19_faults_injection.md) -/

namespace Sys2Proof.Machine

/-- An error of a detector is counted and logged (R913, R914, R917): its count rises, and the log takes one entry with TT in whole
nanoseconds, or counts it as dropped when it holds 32. -/
abbrev Logged (s t : State) (det inst kind : Nat) (inj : Bool) : Prop :=
  t.get (F.RAS_DET_UE_COUNT (det - 1)) = min (s.get (F.RAS_DET_UE_COUNT (det - 1)) + 1) (2 ^ 32 - 1) ∧
    (s.ras.log.length < 32 → t.ras.log.length = s.ras.log.length + 1 ∧ ⟨s.clk.now, ttFloor s.tt.tt, inj, det, inst, kind, 0, 0⟩ ∈ t.ras.log ∧
      ∀ e ∈ s.ras.log, e ∈ t.ras.log) ∧
    (32 ≤ s.ras.log.length → t.ras.log = s.ras.log ∧ t.get F.RAS_LOG_STATUS_DROPPED = min (s.get F.RAS_LOG_STATUS_DROPPED + 1) 65535)

end Sys2Proof.Machine

/-- Failures (R193, R213, R913, R923 to R927): a parity error in critical state and a failed main clock are logged and request a Warm
reset with their cause, a monitored oscillator only raises event 254; the watchdog expires after LIMIT_MS without a kick; POP
drops the oldest entry; a kick with the key and a new limit restart the count.
Injection and scrubbing (R908 to R911, R918, R920): an arming write of a listed target arms, without the key where one is needed or
outside the table it sets INJ_REFUSED, and while ARM is 1 nothing but ARM changes; critical-state parity acts at once; the
memory scrubber reads its next line as master 3 and the block RAM scrubber rewrites a correctable word and poisons an uncorrectable one. -/
def Obligations.FailuresAndInjection : Prop :=
  (∀ (s : State) (p : Partner) (item : Fin 8) (c : Fin 4) (v : Word),
  (s.rst.coreUp = true → Answers (.criticalParityError item) s fun t => Logged s t 8 item.val 4 false ∧
    t.rst = { s.warmAsked .critParity with addrBad := s.rst.addrBad || decide (item.val = 0) } ∧
    Keeps s t [.ras, .rst] [R.RAS_DET_UE 7, R.RAS_LOG_STATUS]) ∧
  (s.rst.coreUp = true → s.rst.warm = none → s.rst.deferred = none → s.get F.RAS_WDOG_LIMIT_MS ≠ 0 → s.flag F.TT_STATUS_RUNNING = true →
    s.nightlight = false → s.get F.PWR_STATUS_STATE = 0 → s.halted = false → 64000000 * s.get F.RAS_WDOG_LIMIT_MS ≤ s.ras.wdogRun →
    Answers .systemWatchdogExpiry s fun t => Logged s t 9 0 4 false ∧ t.rst = s.warmAsked .watchdog) ∧
  (∀ (d : Nat), s.rst.coreUp = true → s.get F.RAS_WDOG_LIMIT_MS ≠ 0 → s.flag F.TT_STATUS_RUNNING = true → s.nightlight = false →
    s.get F.PWR_STATUS_STATE = 0 → s.halted = false → wdogTick d s = { s with ras := { s.ras with wdogRun := s.ras.wdogRun + d } }) ∧
  (∀ (d : Nat), s.rst.coreUp = false ∨ s.get F.RAS_WDOG_LIMIT_MS = 0 ∨ s.flag F.TT_STATUS_RUNNING = false ∨ s.nightlight = true ∨
    s.get F.PWR_STATUS_STATE ≠ 0 ∨ s.halted = true → wdogTick d s = s) ∧
  (s.ras.wdogRun < 64000000 * s.get F.RAS_WDOG_LIMIT_MS → exec .systemWatchdogExpiry s = .next s) ∧
  (s.rst.coreUp = true → c.val < 2 → Answers (.clockFailure c) s fun t => Logged s t 10 c.val 4 false ∧
    t.rst = s.warmAsked .clockFail ∧ Keeps s t [.ras, .rst] [R.RAS_DET_UE 9, R.RAS_LOG_STATUS]) ∧
  (s.rst.coreUp = true → 2 ≤ c.val → Answers (.clockFailure c) s fun t => Logged s t 10 c.val 4 false ∧
    t.flag (if c.val = 2 then F.CLK_OSC_STATUS_FAIL_400 else F.CLK_OSC_STATUS_FAIL_100) = true ∧ t.evc = (raise 254 { s with regs := t.regs }).evc ∧
    Keeps s t [.ras, .evc] [R.RAS_DET_UE 9, R.RAS_LOG_STATUS, R.CLK_OSC_STATUS]) ∧
  (s.admits p R.RAS_LOG_POP → exec (.rasPop p v) s = .next ({ s with ras := { s.ras with log := s.ras.log.drop 1 } }.answer (.partner p) .ok 0)) ∧
  (s.admits p R.RAS_WDOG_KICK → v.toNat / 256 % 256 = 0xA5 → exec (.rasWdogKick p v) s = .next ({ s with ras := { s.ras with wdogRun := 0 } }.answer (.partner p) .ok 0)) ∧
  (s.admits p R.RAS_WDOG_KICK → v.toNat / 256 % 256 ≠ 0xA5 → exec (.rasWdogKick p v) s = .next (s.answer (.partner p) .ok 0)) ∧
  (s.admits p R.RAS_WDOG → Answers (.rasWdogLimitWrite p v) s fun t => t.told p .ok 0 ∧ t.get F.RAS_WDOG_LIMIT_MS = v.toNat % 65536 ∧
    t.ras = { s.ras with wdogRun := 0 } ∧ Keeps s t [.resp, .ras] [R.RAS_WDOG])) ∧
  (∀ (s : State) (p : Partner) (v : Word),
  (s.admits p R.RAS_INJ_CTRL → s.flag F.RAS_INJ_CTRL_ARM = false → v.toNat / 2 ^ 16 % 256 ≠ 8 → v.toNat / 2 ^ 16 % 256 ≠ 9 →
    v.toNat / 2 ^ 16 % 256 ≠ 10 → injInstanceOk (v.toNat / 2 ^ 16 % 256) (v.toNat % 4096) = true → v.toNat / 2 ^ 24 % 16 = 1 ∨ v.toNat / 2 ^ 24 % 16 = 2 →
    Answers (.rasInjectArm p v) s fun t => t.told p .ok 0 ∧ t.flag F.RAS_INJ_CTRL_ARM = true ∧
      t.rd R.RAS_INJ_CTRL &&& 0x6FFF0FFF = v &&& 0x6FFF0FFF ∧ Keeps s t [.resp] [R.RAS_INJ_CTRL]) ∧
  (s.admits p R.RAS_INJ_CTRL → s.flag F.RAS_INJ_CTRL_ARM = false →
    injInstanceOk (v.toNat / 2 ^ 16 % 256) (v.toNat % 4096) = false ∨ (v.toNat / 2 ^ 24 % 16 ≠ 1 ∧ v.toNat / 2 ^ 24 % 16 ≠ 2) ∨
      (injNeedsKey (v.toNat / 2 ^ 16 % 256) (v.toNat % 4096) = true ∧ s.get F.RAS_INJ_KEY_KEY ≠ 0xA5) →
    Answers (.rasInjectArm p v) s fun t => t.told p .ok 0 ∧ t.flag F.RAS_STATUS_INJ_REFUSED = true ∧ t.flag F.RAS_INJ_CTRL_ARM = false ∧
      Keeps s t [.resp] [R.RAS_INJ_CTRL, R.RAS_STATUS]) ∧
  (s.admits p R.RAS_INJ_CTRL → s.flag F.RAS_INJ_CTRL_ARM = true → Answers (.rasInjectArm p v) s fun t => t.told p .ok 0 ∧ Keeps s t [.resp] []) ∧
  (s.admits p R.RAS_INJ_CTRL → s.flag F.RAS_INJ_CTRL_ARM = false → v.toNat / 2 ^ 16 % 256 = 8 → v.toNat % 4096 < 8 →
    v.toNat / 2 ^ 24 % 16 = 1 ∨ v.toNat / 2 ^ 24 % 16 = 2 → s.get F.RAS_INJ_KEY_KEY = 0xA5 → Answers (.rasInjectArm p v) s fun t =>
      t.told p .ok 0 ∧ Logged s t 8 (v.toNat % 4096) 4 true ∧
      t.rst = { s.warmAsked .critParity with addrBad := s.rst.addrBad || decide (v.toNat % 4096 = 0) } ∧
      t.flag F.RAS_INJ_CTRL_ARM = v.getLsbD 30) ∧
  (∀ (q : Nat), mcScrubNext s s.ras.mcPos = some q → s.fabricOn = true → s.flag F.RAS_SCRUB_MC_EN = true → mcScrubDue s = true → Answers .mcScrubRead s fun t =>
    t.bb = (bbIssue 3 false (64 * q) [] 64 (defaultDeadline s) .nobody s).bb ∧ t.ras.mcAt = s.elapsed ∧
      (if (mcScrubNext s (q + 1)).isSome then t.ras.mcPos = q + 1 ∧ Keeps s t [.bb, .ras] []
        else t.ras.mcPos = 0 ∧ t.get F.RAS_SCRUB_STATUS_MC_PASSES = min (s.get F.RAS_SCRUB_STATUS_MC_PASSES + 1) 65535 ∧
          Keeps s t [.bb, .ras] [R.RAS_SCRUB_STATUS])) ∧
  (s.fabricOn = true → s.flag F.RAS_SCRUB_MC_EN = true → mcScrubDue s = false → exec .mcScrubRead s = .next s) ∧
  (s.fabricOn = true → s.flag F.RAS_SCRUB_BRAM_EN = true → Answers .bramScrubRead s fun t =>
    let q := (bramScrubNext s s.ras.bramPos).getD 0
    if bramScrubDue s = false then t = s
    else if bramScrubNext s s.ras.bramPos = none then t = { s with ras := { s.ras with bramPos := 0 } }
    else if bramBusy s (q / 512) (q % 512) then t = s
    else t.ras.bramAt = s.elapsed ∧ t.fab.bram = s.fab.bram ∧
      (∀ i : Bool, bramMarkOf s (q / 512) (q % 512) = some (.correctable i) → bramMarkOf t (q / 512) (q % 512) = none ∧
        t.get (F.RAS_DET_CE_COUNT 2) = min (s.get (F.RAS_DET_CE_COUNT 2) + 1) (2 ^ 32 - 1)) ∧
      (∀ i : Bool, bramMarkOf s (q / 512) (q % 512) = some (.uncorrectable i) → bramMarkOf t (q / 512) (q % 512) = some .poison ∧
        t.get (F.RAS_DET_UE_COUNT 2) = min (s.get (F.RAS_DET_UE_COUNT 2) + 1) (2 ^ 32 - 1)) ∧
      (bramMarkOf s (q / 512) (q % 512) = none → t.fab = s.fab ∧ t.ras.log = s.ras.log)))

/-! ### Memory controllers (14_memory_controllers.md) -/

/-- EN and the life of a subchannel (R200, R722 to R730, R732 to R734): an accepted EN initialises each populated Off or Failed subchannel with
its contents lost, a bad configuration is refused; EN 0 stops what runs; EN written while a subchannel stops or the controller's
Engine reset runs is held; training ends in Running or, with its bit, Failed; a
stopped subchannel enters self-refresh when it has nothing left, and leaves it through one retraining. -/
def Obligations.ControllerLife : Prop := ∀ (s : State) (p : Partner) (n : Fin 4) (sc : Fin 8) (v : Word),
  (s.admits p (R.MC_CTRL n.val) → s.flag (F.MC_CTRL_EN n.val) = false → mcDown s n.val = false →
    s.get (F.MC_CFG_POP n.val) ≠ 0 → 8 ≤ s.get (F.MC_CFG_RATE n.val) → s.get (F.MC_CFG_RATE n.val) ≤ 16 → s.get (F.MC_CFG_DENSITY n.val) ≤ 1 →
    Answers (.mcEnable p n v) s fun t => t.told p .ok 0 ∧ t.flag (F.MC_CTRL_EN n.val) = true ∧
      (∀ i : Fin 2, populated s (2 * n.val + i.val) = true → scState s (2 * n.val + i.val) = 0 ∨ scState s (2 * n.val + i.val) = 5 →
        scState t (2 * n.val + i.val) = 1 ∧ t.mem.losses (256 * (2 * n.val + i.val)) = s.mem.losses (256 * (2 * n.val + i.val)) + 1 ∧
        ∀ c ∈ t.mem.bytes, engineOf c.1 ≠ 2 * n.val + i.val) ∧
      (∀ i : Fin 2, populated s (2 * n.val + i.val) = false ∨ ¬ (scState s (2 * n.val + i.val) = 0 ∨ scState s (2 * n.val + i.val) = 5) →
        scState t (2 * n.val + i.val) = scState s (2 * n.val + i.val) ∧ ∀ c ∈ s.mem.bytes, engineOf c.1 = 2 * n.val + i.val → c ∈ t.mem.bytes) ∧
      Keeps s t [.resp, .mem, .evc] [R.MC_CTRL n.val, R.MC_STATUS n.val]) ∧
  (s.admits p (R.MC_CTRL n.val) → s.flag (F.MC_CTRL_EN n.val) = false → mcDown s n.val = false →
    s.get (F.MC_CFG_POP n.val) = 0 ∨ s.get (F.MC_CFG_RATE n.val) < 8 ∨ 16 < s.get (F.MC_CFG_RATE n.val) ∨ 1 < s.get (F.MC_CFG_DENSITY n.val) →
    Answers (.mcEnable p n v) s fun t => t.told p .ok 0 ∧ t.flag (F.MC_STATUS_REFUSED n.val) = true ∧ t.flag (F.MC_CTRL_EN n.val) = false ∧
      SameBut s t (R.MC_STATUS n.val) 0x4000 ∧ Keeps s t [.resp] [R.MC_STATUS n.val]) ∧
  (s.admits p (R.MC_CTRL n.val) → s.flag (F.MC_CTRL_EN n.val) = true → mcDown s n.val = false →
    Answers (.mcDisable p n v) s fun t => t.told p .ok 0 ∧ t.flag (F.MC_CTRL_EN n.val) = false ∧
      (∀ i : Fin 2, scState t (2 * n.val + i.val) = if scState s (2 * n.val + i.val) = 2 ∨ scState s (2 * n.val + i.val) = 3 then 6
        else if scState s (2 * n.val + i.val) = 1 then 0 else scState s (2 * n.val + i.val)) ∧
      (∀ i : Fin 2, scState s (2 * n.val + i.val) ≠ 1 → ∀ c ∈ s.mem.bytes, engineOf c.1 = 2 * n.val + i.val → c ∈ t.mem.bytes) ∧
      Keeps s t [.resp, .mem, .evc] [R.MC_CTRL n.val, R.MC_STATUS n.val]) ∧
  (s.admits p (R.MC_CTRL n.val) → s.flag (F.MC_CTRL_EN n.val) = false → mcDown s n.val = false →
    exec (.mcDisable p n v) s = .next (s.answer (.partner p) .ok 0)) ∧
  (s.admits p (R.MC_CTRL n.val) → s.flag (F.MC_CTRL_EN n.val) = true → mcDown s n.val = false →
    exec (.mcEnable p n v) s = .next (s.answer (.partner p) .ok 0)) ∧
  (s.admits p (R.MC_CTRL n.val) → scState s (2 * n.val) = 6 ∨ scState s (2 * n.val + 1) = 6 ∨ 0x28 + n.val ∈ s.rst.engines →
    Answers (.mcEnable p n v) s fun t => t.told p .ok 0 ∧
    t.flag (F.MC_STATUS_ENABLE_PENDING n.val) = true ∧ t.flag (F.MC_CTRL_EN n.val) = true ∧ Keeps s t [.resp] [R.MC_CTRL n.val, R.MC_STATUS n.val]) ∧
  (s.admits p (R.MC_CTRL n.val) → scState s (2 * n.val) = 6 ∨ scState s (2 * n.val + 1) = 6 ∨ 0x28 + n.val ∈ s.rst.engines →
    Answers (.mcDisable p n v) s fun t => t.told p .ok 0 ∧
    t.flag (F.MC_STATUS_ENABLE_PENDING n.val) = false ∧ t.flag (F.MC_CTRL_EN n.val) = false ∧ Keeps s t [.resp] [R.MC_CTRL n.val, R.MC_STATUS n.val]) ∧
  (s.admits p (R.MC_CFG n.val) → (∀ i : Fin 2, scState s (2 * n.val + i.val) = 0 ∨ scState s (2 * n.val + i.val) = 4) → Answers (.mcConfigWrite p n v) s fun t =>
    t.told p .ok 0 ∧ t.rd (R.MC_CFG n.val) = (s.rd (R.MC_CFG n.val) &&& ~~~ 0x313FF) ||| (v &&& 0x313FF) ∧ Keeps s t [.resp] [R.MC_CFG n.val]) ∧
  (∀ (i : Fin 2), s.admits p (R.MC_CFG n.val) → ¬ (scState s (2 * n.val + i.val) = 0 ∨ scState s (2 * n.val + i.val) = 4) → Answers (.mcConfigWrite p n v) s fun t =>
    t.told p .ok 0 ∧ t.flag (F.MC_STATUS_IGNORED n.val) = true ∧ SameBut s t (R.MC_STATUS n.val) 0x8000 ∧ Keeps s t [.resp] [R.MC_STATUS n.val]) ∧
  (scState s sc.val = 1 → Answers (.mcTrainingComplete sc) s fun t => scState t sc.val = 2 ∧ (vget t.mem.subs sc).retrainAt = s.elapsed ∧
    (∀ k : Fin 2, vget (vget t.mem.subs sc).refAt k = s.elapsed ∧ vget (vget t.mem.subs sc).postponed k = 0) ∧
    t.evc = (raise (195 + 4 * (sc.val / 2)) { s with regs := t.regs }).evc ∧ t.mem.bytes = s.mem.bytes ∧
    (∀ k : Fin 8, k ≠ sc → vget t.mem.subs k = vget s.mem.subs k) ∧ Keeps s t [.mem, .evc] [R.MC_STATUS (sc.val / 2)]) ∧
  (scState s sc.val = 1 → Answers (.mcTrainingFail sc) s fun t => scState t sc.val = 5 ∧
    t.flag (if sc.val % 2 = 0 then F.MC_STATUS_TRAIN_FAIL0 (sc.val / 2) else F.MC_STATUS_TRAIN_FAIL1 (sc.val / 2)) = true ∧
    t.evc = (raise (195 + 4 * (sc.val / 2)) { s with regs := t.regs }).evc ∧ (∀ k : Fin 8, k ≠ sc → vget t.mem.subs k = vget s.mem.subs k) ∧
    Keeps s t [.mem, .evc] [R.MC_STATUS (sc.val / 2)]) ∧
  (s.fabricOn = true → s.rst.bowAt = none → scState s sc.val = 4 → populated s sc.val = true → s.flag (F.MC_CTRL_EN (sc.val / 2)) = true →
    scState s (sibling sc.val) ≠ 3 → Answers (.mcSelfRefreshExit sc) s fun t => scState t sc.val = 3 ∧
      t.get (F.MC_STATS_RETRAINS (sc.val / 2)) = min (s.get (F.MC_STATS_RETRAINS (sc.val / 2)) + 1) 255 ∧ t.mem.bytes = s.mem.bytes ∧
      (∀ k : Fin 8, k ≠ sc → vget t.mem.subs k = vget s.mem.subs k) ∧ Keeps s t [.mem, .evc] [R.MC_STATUS (sc.val / 2), R.MC_STATS (sc.val / 2)]) ∧
  (scState s sc.val = 3 → Answers (.mcRetrainComplete sc) s fun t => scState t sc.val = 2 ∧ (vget t.mem.subs sc).retrainAt = (vget s.mem.subs sc).retrainAt ∧
    t.mem.bytes = s.mem.bytes ∧ (∀ k : Fin 8, k ≠ sc → vget t.mem.subs k = vget s.mem.subs k) ∧ Keeps s t [.mem, .evc] [R.MC_STATUS (sc.val / 2)]) ∧
  (scState s sc.val = 6 → (vget s.mem.subs sc).reads = [] → (vget s.mem.subs sc).writes = [] → (vget s.mem.subs sc).service = none →
    s.flag (F.MC_STATUS_ENABLE_PENDING (sc.val / 2)) = false → 0x28 + sc.val / 2 ∉ s.rst.engines →
    Answers (.mcSelfRefreshEntry sc) s fun t => scState t sc.val = 4 ∧ (vget t.mem.subs sc).rows = [] ∧ t.mem.bytes = s.mem.bytes ∧
      (∀ k : Fin 8, k ≠ sc → vget t.mem.subs k = vget s.mem.subs k) ∧ Keeps s t [.mem, .evc] [R.MC_STATUS (sc.val / 2)]) ∧
  (scState s sc.val = 6 → (vget s.mem.subs sc).reads = [] → (vget s.mem.subs sc).writes = [] → (vget s.mem.subs sc).service = none →
    s.flag (F.MC_STATUS_ENABLE_PENDING (sc.val / 2)) = true → 0x28 + sc.val / 2 ∉ s.rst.engines → scState s (sibling sc.val) ≠ 6 →
    mcRefuses s (sc.val / 2) = false → Answers (.mcSelfRefreshEntry sc) s fun t => scState t sc.val = 4 ∧
      t.flag (F.MC_CTRL_EN (sc.val / 2)) = true ∧ t.flag (F.MC_STATUS_ENABLE_PENDING (sc.val / 2)) = false)

/-- Work of a controller (R718, R733 to R736, R740, R742 to R744, R747, R749, R928): retraining falls due, begins and is reported when it is
put off too long; the chosen request leaves its queue for service; a refresh closes the rank, is postponed under panic up to
POSTPONE_MAX and then forced; windows and throttles expire; the refresh rate is polled; loss of the PLL fails both subchannels. -/
def Obligations.ControllerWork : Prop := ∀ (s : State) (sc : Fin 8) (rank : Fin 2) (m : Fin 128) (double : Bool),
  (scState s sc.val = 2 → s.get (F.MC_RETRAIN_INTERVAL_MS (sc.val / 2)) ≠ 0 → (vget s.mem.subs sc).retrainDue = none →
    (vget s.mem.subs sc).retrainAt + 1000000 * s.get (F.MC_RETRAIN_INTERVAL_MS (sc.val / 2)) ≤ s.elapsed → Answers (.mcRetrainDue sc) s fun t =>
      (if scState s (sibling sc.val) ≠ 3 ∧ anyPanic s = false then scState t sc.val = 3 ∧ (vget t.mem.subs sc).retrainDue = none ∧ (vget t.mem.subs sc).rows = []
        else scState t sc.val = 2 ∧ (vget t.mem.subs sc).retrainDue = some s.elapsed) ∧
      (vget t.mem.subs sc).retrainAt = (vget s.mem.subs sc).retrainAt + 1000000 * s.get (F.MC_RETRAIN_INTERVAL_MS (sc.val / 2)) ∧
      (∀ k : Fin 8, k ≠ sc → vget t.mem.subs k = vget s.mem.subs k) ∧ Keeps s t [.mem, .evc] [R.MC_STATUS (sc.val / 2), R.MC_STATS (sc.val / 2)]) ∧
  ((vget s.mem.subs sc).retrainDue ≠ none → scState s sc.val = 2 → scState s (sibling sc.val) ≠ 3 → anyPanic s = false →
    Answers (.mcRetrainStart sc) s fun t => scState t sc.val = 3 ∧ (vget t.mem.subs sc).retrainDue = none ∧
      t.get (F.MC_STATS_RETRAINS (sc.val / 2)) = min (s.get (F.MC_STATS_RETRAINS (sc.val / 2)) + 1) 255 ∧
      Keeps s t [.mem, .evc] [R.MC_STATUS (sc.val / 2), R.MC_STATS (sc.val / 2)]) ∧
  (∀ (t0 : Nat), (vget s.mem.subs sc).retrainDue = some t0 → t0 + 1000000000 ≤ s.elapsed → s.flag (F.MC_STATUS_DEFER_LONG (sc.val / 2)) = false →
    Answers (.mcRetrainDeferLong sc) s fun t => t.flag (F.MC_STATUS_DEFER_LONG (sc.val / 2)) = true ∧
      t.evc = (raise (195 + 4 * (sc.val / 2)) { s with regs := t.regs }).evc ∧ Keeps s t [.evc] [R.MC_STATUS (sc.val / 2)]) ∧
  (∀ (r : MemReq), scState s sc.val = 2 ∨ scState s sc.val = 6 → (vget s.mem.subs sc).service = none → nextRequest s sc.val = some r →
    Answers (.mcScheduleDecision sc) s fun t => r ∈ (vget s.mem.subs sc).reads ++ (vget s.mem.subs sc).writes ∧
      (vget t.mem.subs sc).service = some r ∧ (vget t.mem.subs sc).reads = (vget s.mem.subs sc).reads.erase r ∧
      (vget t.mem.subs sc).writes = (vget s.mem.subs sc).writes.erase r ∧ t.mem.bytes = s.mem.bytes ∧ t.mem.attr = s.mem.attr ∧
      t.bb.bursts = s.bb.bursts) ∧
  (∀ (n : Fin 4), (vget s.mem.ctls n).windowAt + 1000000 * s.get (F.MC_RH_WINDOW_MS n.val) ≤ s.elapsed → Answers (.rhWindowExpiry n) s fun t =>
    (∀ i : Fin 2, (vget t.mem.subs (finOf 7 (2 * n.val + i.val))).track = []) ∧
      (vget t.mem.ctls n).windowAt = (vget s.mem.ctls n).windowAt + 1000000 * s.get (F.MC_RH_WINDOW_MS n.val) ∧
      (∀ k : Fin 8, k.val / 2 ≠ n.val → vget t.mem.subs k = vget s.mem.subs k) ∧ Keeps s t [.mem] []) ∧
  (∀ (e : Nat), (m.val, e) ∈ s.bb.throttle → isThrottled s m.val = false → Answers (.throttleExpiry m) s fun t =>
    (t.rd (R.BB_THROTTLED (m.val / 32))).getLsbD (m.val % 32) = false ∧ (∀ x ∈ t.bb.throttle, x.1 ≠ m.val) ∧
      (∀ x ∈ s.bb.throttle, x.1 ≠ m.val → x ∈ t.bb.throttle) ∧ SameBut s t (R.BB_THROTTLED (m.val / 32)) (BitVec.ofNat 32 (2 ^ (m.val % 32))) ∧
      Keeps s t [.bb] [R.BB_THROTTLED (m.val / 32)]) ∧
  (scState s sc.val = 2 ∨ scState s sc.val = 6 → vget (vget s.mem.subs sc).refAt rank + trefi s (sc.val / 2) ≤ s.elapsed →
    rank = 0 ∨ s.flag (F.MC_CFG_RANKS (sc.val / 2)) = true → panicQueued s sc.val = false → Answers (.mcRefreshDue sc rank) s fun t =>
      vget (vget t.mem.subs sc).refAt rank = vget (vget s.mem.subs sc).refAt rank + trefi s (sc.val / 2) ∧ vget (vget t.mem.subs sc).postponed rank = 0 ∧
      (∀ x ∈ (vget t.mem.subs sc).rows, x.bank / 32 ≠ rank.val) ∧ (∀ k : Fin 8, k ≠ sc → vget t.mem.subs k = vget s.mem.subs k) ∧ Keeps s t [.mem] []) ∧
  (scState s sc.val = 2 ∨ scState s sc.val = 6 → vget (vget s.mem.subs sc).refAt rank + trefi s (sc.val / 2) ≤ s.elapsed →
    rank = 0 ∨ s.flag (F.MC_CFG_RANKS (sc.val / 2)) = true → panicQueued s sc.val = true → Answers (.mcRefreshDue sc rank) s fun t =>
      let n := vget (vget s.mem.subs sc).postponed rank
      (n < s.get (F.MC_REF_POSTPONE_MAX (sc.val / 2)) → vget (vget t.mem.subs sc).postponed rank = n + 1 ∧ (vget t.mem.subs sc).rows = (vget s.mem.subs sc).rows ∧
        Keeps s t [.mem] []) ∧
      (s.get (F.MC_REF_POSTPONE_MAX (sc.val / 2)) ≤ n → vget (vget t.mem.subs sc).postponed rank = n ∧ (∀ x ∈ (vget t.mem.subs sc).rows, x.bank / 32 ≠ rank.val) ∧
        t.get (F.MC_STATS_FORCED_REF (sc.val / 2)) = min (s.get (F.MC_STATS_FORCED_REF (sc.val / 2)) + 1) 255 ∧ Keeps s t [.mem] [R.MC_STATS (sc.val / 2)])) ∧
  (scState s sc.val = 2 ∨ scState s sc.val = 6 → vget (vget s.mem.subs sc).postponed rank ≠ 0 → panicQueued s sc.val = false →
    Answers (.mcPostponedRefresh sc rank) s fun t => vget (vget t.mem.subs sc).postponed rank = 0 ∧ (∀ x ∈ (vget t.mem.subs sc).rows, x.bank / 32 ≠ rank.val) ∧
      (∀ k : Fin 8, k ≠ sc → vget t.mem.subs k = vget s.mem.subs k) ∧ Keeps s t [.mem] []) ∧
  (∀ (n : Fin 4), scServes s (2 * n.val) = true ∨ scServes s (2 * n.val + 1) = true → (vget s.mem.ctls n).polledAt + 1000000 ≤ s.elapsed →
    Answers (.mcRefreshRatePoll n double) s fun t => vget t.mem.ctls n = { vget s.mem.ctls n with double := double, polledAt := s.elapsed } ∧
      (∀ k : Fin 4, k ≠ n → vget t.mem.ctls k = vget s.mem.ctls k) ∧ t.mem.subs = s.mem.subs ∧ Keeps s t [.mem] []) ∧
  (∀ (n : Fin 4), scState s (2 * n.val) ≠ 0 ∨ scState s (2 * n.val + 1) ≠ 0 → Answers (.mcPllLossOfLock n) s fun t =>
    ∀ i : Fin 2, scState t (2 * n.val + i.val) = 5 ∧ (vget t.mem.subs (finOf 7 (2 * n.val + i.val))).reads = [] ∧
      (vget t.mem.subs (finOf 7 (2 * n.val + i.val))).writes = [] ∧ (vget t.mem.subs (finOf 7 (2 * n.val + i.val))).service = none ∧
      t.mem.losses (256 * (2 * n.val + i.val)) = s.mem.losses (256 * (2 * n.val + i.val)) + 1 ∧ (∀ c ∈ t.mem.bytes, engineOf c.1 ≠ 2 * n.val + i.val))

/-! ### Staging SRAM (15_staging_sram.md) -/

/-- Accesses to Staging SRAM (R763, R764, R766, R769 to R774, R789): a write at port A stores the enabled bytes, or through an alias sets
or clears their bits, and every other byte keeps its value; a read changes none and returns the bytes; port B serves its agents in
turn, and a word that port A writes in the same cycle is COLLIDED: not written at port B, counted, and left to its agent to repeat;
a word that both touch in a cycle is read as it was before it.
Banks and the scrubber (R776 to R781, R783 to R785, R790, R791, R795): a request starts the transition of an idle bank, is held during one, and is
refused when a Lantern or Beacon uses the bank or REQ is Reserved; a bank that reaches Off has lost its contents, one that reaches On in standby
with STG_RET 1 goes on to Retention, and a held request is then applied; the scrubber
rewrites a correctable word, counts it, and goes on to the next. -/
def Obligations.StagingSram : Prop :=
  (∀ (s : State) (g : Fin 12) (b : Fin 48),
  (∀ (r : Req), portAHead s g.val = some r → r.write = true → r.addr < 0x008100000000 → s.sound (r.addr % 2 ^ 32) r.len → s.portBIdle → Settles (.stgPortAAccess g) s fun t =>
    (∀ a : Fin 0x3000000, stgByte t a.val = if r.addr % 2 ^ 32 ≤ a.val ∧ a.val < r.addr % 2 ^ 32 + r.len ∧
      r.be.getD (a.val - r.addr % 2 ^ 32) false = true then byteAt r.data (a.val - r.addr % 2 ^ 32) else stgByte s a.val) ∧
    t.stg.portA = s.stg.portA.erase r ∧ t.stg.portB = s.stg.portB ∧ t.mem = s.mem) ∧
  (∀ (r : Req), portAHead s g.val = some r → r.write = true → r.addr / 2 ^ 32 = 0x81 → s.sound (r.addr % 2 ^ 32) r.len → s.portBIdle → Settles (.stgBitSet g) s fun t =>
    (∀ a : Fin 0x3000000, stgByte t a.val = if r.addr % 2 ^ 32 ≤ a.val ∧ a.val < r.addr % 2 ^ 32 + r.len ∧
      r.be.getD (a.val - r.addr % 2 ^ 32) false = true then stgByte s a.val ||| byteAt r.data (a.val - r.addr % 2 ^ 32)
      else stgByte s a.val) ∧ t.stg.portA = s.stg.portA.erase r ∧ t.mem = s.mem) ∧
  (∀ (r : Req), portAHead s g.val = some r → r.write = true → r.addr / 2 ^ 32 = 0x82 → s.sound (r.addr % 2 ^ 32) r.len → s.portBIdle → Settles (.stgBitClear g) s fun t =>
    (∀ a : Fin 0x3000000, stgByte t a.val = if r.addr % 2 ^ 32 ≤ a.val ∧ a.val < r.addr % 2 ^ 32 + r.len ∧
      r.be.getD (a.val - r.addr % 2 ^ 32) false = true then stgByte s a.val &&& ~~~ byteAt r.data (a.val - r.addr % 2 ^ 32)
      else stgByte s a.val) ∧ t.stg.portA = s.stg.portA.erase r ∧ t.mem = s.mem) ∧
  (∀ (r : Req) (o : Origin), portAHead s g.val = some r → (s.bb.bursts.find? (fun x => x.req.id == r.id)).map (fun x => x.req.origin) = some o →
    r.write = false → s.sound (r.addr % 2 ^ 32) r.len → s.portBIdle → Settles (.stgPortAAccess g) s fun t =>
      t.resp = (deliver ⟨r.id, o, .ok, stgBytes s (r.addr % 2 ^ 32) r.len⟩ s).resp ∧
      t.bb.done = (deliver ⟨r.id, o, .ok, stgBytes s (r.addr % 2 ^ 32) r.len⟩ s).bb.done ∧
      t.stg = { s.stg with portA := s.stg.portA.erase r } ∧ (∀ x ∈ t.bb.bursts, x.req.id ≠ r.id) ∧ Keeps s t [.resp, .stg, .bb] []) ∧
  (∀ (r : Req) (x : WordB), portAHead s g.val = some r → portBHit s (r.addr % 2 ^ 32 / 8) = some x → r.write = true → r.addr < 0x008100000000 →
    r.addr % 8 = 0 → r.len = 8 → r.be = List.replicate 8 true → x.old.length = 8 → s.get F.RAS_INJ_CTRL_ARM = 0 → Settles (.stgPortAAccess g) s fun t =>
      stgBytes t (r.addr % 2 ^ 32) 8 = (List.range 8).map (byteAt r.data) ∧ stgMark t (r.addr % 2 ^ 32 / 8) = none ∧
      t.get F.STG_COLLIDED_COUNT = min (s.get F.STG_COLLIDED_COUNT + 1) (2 ^ 32 - 1) ∧ portBHit t (r.addr % 2 ^ 32 / 8) = none ∧
      (x.req.agent < 16 → x.req.agent ∈ t.stg.collided ∧ t.stg.portB.head? = some x.req)) ∧
  (∀ (r : Req), portAHead s g.val = some r → r.write = false → r.addr % 8 = 0 → r.len = 8 → s.bb.bursts.all (fun b => b.req.id != r.id) = true →
    ∀ x : WordB, portBHit s (r.addr % 2 ^ 32 / 8) = some x → x.mark = none → (stgReadWords (r.addr % 2 ^ 32) 8 s).1 = x.old.take 8) ∧
  (∀ (q : PortB), s.quiet → portBNext s b.val = some q → q.write = true → s.sound q.off q.len → s.portAIdle →
    Answers (.stgPortBAccess b) s fun t => ∀ a : Fin 0x3000000, stgByte t a.val = if q.off ≤ a.val ∧ a.val < q.off + q.len
      then byteAt q.data (a.val - q.off) else stgByte s a.val) ∧
  (∀ (q : PortB), s.quiet → portBNext s b.val = some q → q.write = true → s.sound q.off q.len → 0 < q.len → q.off / 8 = (q.off + q.len - 1) / 8 →
    portAHit s (q.off / 8) ≠ none → Answers (.stgPortBAccess b) s fun t => t.stg.bytes = s.stg.bytes ∧
      t.get F.STG_COLLIDED_COUNT = min (s.get F.STG_COLLIDED_COUNT + 1) (2 ^ 32 - 1) ∧ t.stg.portB = portBPart q (q.off / 8) :: s.stg.portB.erase q ∧ q.agent ∈ t.stg.collided)) ∧
  (∀ (s : State) (p : Partner) (b : Fin 48) (v : Word),
  (s.admits p (R.STG_BANK b.val) → bankState s b.val < 3 → (F.STG_BANK_REQ b.val).of v < 3 → (F.STG_BANK_REQ b.val).of v ≠ bankState s b.val →
    bankState s b.val ≠ 0 ∨ bankBusy s b.val = false → Answers (.stgBankReq p b v) s fun t => t.told p .ok 0 ∧
      bankState t b.val = (if (F.STG_BANK_REQ b.val).of v = 0 ∨ (F.STG_BANK_REQ b.val).of v = 1 ∧ bankState s b.val = 2 then 4 else 3) ∧
      t.get (F.STG_BANK_REQ b.val) = (F.STG_BANK_REQ b.val).of v ∧ (vget t.stg.banks b).since = s.clk.now ∧
      (vget t.stg.banks b).target = (F.STG_BANK_REQ b.val).of v ∧ t.stg.bytes = s.stg.bytes ∧ Keeps s t [.resp, .stg] [R.STG_BANK b.val]) ∧
  (s.admits p (R.STG_BANK b.val) → (F.STG_BANK_REQ b.val).of v = 3 → Answers (.stgBankReq p b v) s fun t => t.told p .ok 0 ∧
    t.flag (F.STG_BANK_REFUSED b.val) = true ∧ bankState t b.val = bankState s b.val ∧ t.stg = s.stg ∧
    t.evc = (raise 232 { s with regs := t.regs }).evc ∧ Keeps s t [.resp, .evc] [R.STG_BANK b.val]) ∧
  (s.admits p (R.STG_BANK b.val) → bankState s b.val = 0 → bankBusy s b.val = true → 1 ≤ (F.STG_BANK_REQ b.val).of v → Answers (.stgBankReq p b v) s fun t =>
    t.told p .ok 0 ∧ t.flag (F.STG_BANK_REFUSED b.val) = true ∧ bankState t b.val = 0 ∧ t.stg = s.stg ∧ Keeps s t [.resp, .evc] [R.STG_BANK b.val]) ∧
  (s.admits p (R.STG_BANK b.val) → 3 ≤ bankState s b.val → (F.STG_BANK_REQ b.val).of v < 3 → Answers (.stgBankReq p b v) s fun t => t.told p .ok 0 ∧
    bankState t b.val = bankState s b.val ∧ (vget t.stg.banks b).held = some ((F.STG_BANK_REQ b.val).of v) ∧ t.stg.bytes = s.stg.bytes ∧
    Keeps s t [.resp, .stg] [R.STG_BANK b.val]) ∧
  (3 ≤ bankState s b.val → bankQuiet s b.val = true → (vget s.stg.banks b).since + bankTime s b.val ≤ s.clk.now → (vget s.stg.banks b).held = none →
    (vget s.stg.banks b).target < 8 → (vget s.stg.banks b).target ≠ 0 ∨ (vget s.stg.banks b).retFrom = false ∨ s.get F.PWR_STATUS_STATE ≠ 1 → Answers (.stgBankStateReached b) s fun t => bankState t b.val = (vget s.stg.banks b).target ∧
      t.evc = (raise 231 { s with regs := t.regs }).evc ∧
      (if (vget s.stg.banks b).target = 2 then (∀ c ∈ t.stg.bytes, c.1 / 0x100000 ≠ b.val) ∧ t.stg.losses b.val = s.stg.losses b.val + 1 ∧ ∀ c ∈ s.stg.bytes, c.1 / 0x100000 ≠ b.val → c ∈ t.stg.bytes
        else t.stg.bytes = s.stg.bytes ∧ t.stg.mark = s.stg.mark) ∧ Keeps s t [.stg, .evc] [R.STG_BANK b.val]) ∧
  (3 ≤ bankState s b.val → bankQuiet s b.val = true → (vget s.stg.banks b).since + bankTime s b.val ≤ s.clk.now → (vget s.stg.banks b).held = none →
    (vget s.stg.banks b).target = 0 → (vget s.stg.banks b).retFrom = true → s.get F.PWR_STATUS_STATE = 1 → Answers (.stgBankStateReached b) s fun t =>
      bankState t b.val = 3 ∧ (vget t.stg.banks b).target = 1 ∧ (vget t.stg.banks b).since = s.clk.now ∧ t.stg.bytes = s.stg.bytes ∧
      Keeps s t [.stg, .evc] [R.STG_BANK b.val]) ∧
  (∀ (q : Nat), (vget s.stg.banks b).held = some q → 3 ≤ bankState s b.val → bankQuiet s b.val = true →
    (vget s.stg.banks b).since + bankTime s b.val ≤ s.clk.now → q < 3 → (vget s.stg.banks b).target < 3 → q ≠ (vget s.stg.banks b).target →
    (vget s.stg.banks b).target ≠ 0 ∨ bankBusy s b.val = false → Answers (.stgBankStateReached b) s fun t =>
      bankState t b.val = (if q = 0 ∨ q = 1 ∧ (vget s.stg.banks b).target = 2 then 4 else 3) ∧ (vget t.stg.banks b).target = q ∧
      (vget t.stg.banks b).held = none ∧ (vget t.stg.banks b).since = s.clk.now ∧ Keeps s t [.stg, .evc] [R.STG_BANK b.val]) ∧
  (∀ (q : Nat), scrubNext s s.stg.scrub = some q → s.works = true → s.flag F.STG_SCRUB_EN = true → scrubDue s = true → s.portBIdle →
    stgMark s q = some (.correctable true) ∨ stgMark s q = some (.correctable false) → Answers .stgScrubRead s fun t =>
      stgMark t q = none ∧ t.get F.STG_CE_COUNT_COUNT = min (s.get F.STG_CE_COUNT_COUNT + 1) (2 ^ 32 - 1) ∧ t.stg.bytes = s.stg.bytes ∧ t.stg.scrubAt = s.elapsed ∧
      (t.stg.scrub = q + 1 ∨ t.stg.scrub = 0 ∧ scrubNext s (q + 1) = none)) ∧
  (∀ (q : Nat), scrubNext s s.stg.scrub = some q → s.works = true → s.flag F.STG_SCRUB_EN = true → scrubDue s = true → s.portBIdle →
    stgMark s q = some (.uncorrectable true) ∨ stgMark s q = some (.uncorrectable false) ∨ stgMark s q = some .poison → Answers .stgScrubRead s fun t =>
      t.stg.mark = s.stg.mark ∧ t.get F.STG_UE_COUNT_COUNT = min (s.get F.STG_UE_COUNT_COUNT + 1) (2 ^ 32 - 1) ∧ t.stg.bytes = s.stg.bytes ∧
      (s.flag F.STG_UE_ADDR_HI_VALID = false → t.get64 R.STG_UE_ADDR_LO R.STG_UE_ADDR_HI = 2 ^ 63 + stgBase + 8 * q)))

/-! ### Shade (16_shade.md) -/

/-- Keys and commits (R806, R828, R830, R831, R839): SHD_KEY_LOAD stages each named slot's valid copy and sets KEY_ERR for one that has none;
a commit copies every staged region and key and counts the version, and a line looks its region up in the new set from the next core
cycle on (log 120); one that breaks a rule changes only REFUSED and REFUSE_CAUSE,
BUSY first and then the lowest region; DRAINED returns when no line operation of an earlier set is left. -/
def Obligations.ShadeSets : Prop := ∀ (s : State) (p : Partner) (v : Word) (n : Fin 16),
  (s.admits p R.SHD_KEY_LOAD → F.SHD_KEY_LOAD_SLOTS.of v ≠ 0 → Answers (.shdKeyLoad p v) s fun t => t.told p .ok 0 ∧
    t.flag F.SHD_STATUS_KEY_BUSY = true ∧ (∀ k : Fin 16, vget t.shd.staged k = if v.getLsbD k.val = true then (slotKey s k.val).or (vget s.shd.staged k)
      else vget s.shd.staged k) ∧
    (t.flag F.SHD_STATUS_KEY_ERR = true ↔ s.flag F.SHD_STATUS_KEY_ERR = true ∨ ∃ k : Fin 16, v.getLsbD k.val = true ∧ slotKey s k.val = none) ∧
    t.shd.active = s.shd.active ∧ t.shd.regions = s.shd.regions ∧ SameBut s t R.SHD_STATUS 0xC ∧ Keeps s t [.resp, .shd] [R.SHD_STATUS]) ∧
  (s.shd.loading ≠ [] → Answers .shadeKeyLoadComplete s fun t => t.flag F.SHD_STATUS_KEY_BUSY = false ∧ t.shd = { s.shd with loading := [] } ∧
    SameBut s t R.SHD_STATUS 0x4 ∧ Keeps s t [.shd] [R.SHD_STATUS]) ∧
  (s.admits p R.SHD_COMMIT → s.flag F.SHD_STATUS_KEY_BUSY = false → (∀ k : Fin 16, regionFault s k.val = none) →
    Answers (.shdCommit p v) s fun t => t.told p .ok 0 ∧ t.shd.active = s.shd.staged ∧ t.shd.staged = s.shd.staged ∧
      (∀ i : Fin 126, ∀ now, now ≠ s.clk.now → activeRegion { t with clk := { t.clk with now := now } } (R.SHD_RGN_BASE 0 + 4 * i.val) =
        (s.rd (R.SHD_RGN_BASE 0 + 4 * i.val)).toNat) ∧ (∀ a, lookup t a = lookup s a) ∧ t.shd.version = s.shd.version + 1 ∧
      t.get F.SHD_VERSION_VERSION = (s.get F.SHD_VERSION_VERSION + 1) % 65536 ∧
      t.flag F.SHD_STATUS_DRAINED = (s.flag F.SHD_STATUS_DRAINED && !olderLines t) ∧ SameBut s t R.SHD_STATUS 1 ∧
      Keeps s t [.resp, .shd] [R.SHD_STATUS, R.SHD_VERSION]) ∧
  (s.admits p R.SHD_COMMIT → s.flag F.SHD_STATUS_KEY_BUSY = true → Answers (.shdCommit p v) s fun t => t.told p .ok 0 ∧
    t.flag F.SHD_STATUS_REFUSED = true ∧ t.get F.SHD_STATUS_REFUSE_CAUSE = 5 ∧ SameBut s t R.SHD_STATUS 0xF002 ∧ Keeps s t [.resp] [R.SHD_STATUS]) ∧
  (s.admits p R.SHD_COMMIT → s.flag F.SHD_STATUS_KEY_BUSY = false → (∀ k : Fin 16, k < n → regionFault s k.val = none) →
    s.flag (F.SHD_RGN_CTRL_EN n.val) = true → s.get (F.SHD_RGN_SIZE_PAGES n.val) = 0 → Answers (.shdCommit p v) s fun t => t.told p .ok 0 ∧
      t.flag F.SHD_STATUS_REFUSED = true ∧ t.get F.SHD_STATUS_REFUSE_CAUSE = 1 ∧ SameBut s t R.SHD_STATUS 0xF002 ∧ Keeps s t [.resp] [R.SHD_STATUS]) ∧
  (s.admits p R.SHD_COMMIT → s.flag F.SHD_STATUS_KEY_BUSY = false → (∀ k : Fin 16, k < n → regionFault s k.val = none) →
    s.flag (F.SHD_RGN_CTRL_EN n.val) = true → 0 < s.get (F.SHD_RGN_SIZE_PAGES n.val) →
    extent s < 4096 * (s.get (F.SHD_RGN_BASE_PAGE n.val) + s.get (F.SHD_RGN_SIZE_PAGES n.val)) ∨
      s.get (F.SHD_RGN_CTRL_MODE n.val) = 2 ∧ extent s < 2048 * s.get (F.SHD_RGN_TAG_TAG_BASE n.val) + 512 * s.get (F.SHD_RGN_SIZE_PAGES n.val) → Answers (.shdCommit p v) s fun t => t.told p .ok 0 ∧
      t.flag F.SHD_STATUS_REFUSED = true ∧ t.get F.SHD_STATUS_REFUSE_CAUSE = 2 ∧ SameBut s t R.SHD_STATUS 0xF002 ∧ Keeps s t [.resp] [R.SHD_STATUS]) ∧
  (s.admits p R.SHD_COMMIT → s.flag F.SHD_STATUS_KEY_BUSY = false → (∀ k : Fin 16, k < n → regionFault s k.val = none) →
    s.flag (F.SHD_RGN_CTRL_EN n.val) = true → 0 < s.get (F.SHD_RGN_SIZE_PAGES n.val) →
    4096 * (s.get (F.SHD_RGN_BASE_PAGE n.val) + s.get (F.SHD_RGN_SIZE_PAGES n.val)) ≤ extent s →
    (s.get (F.SHD_RGN_CTRL_MODE n.val) = 2 → 2048 * s.get (F.SHD_RGN_TAG_TAG_BASE n.val) + 512 * s.get (F.SHD_RGN_SIZE_PAGES n.val) ≤ extent s) →
    s.get (F.SHD_RGN_CTRL_MODE n.val) ≠ 0 → vget s.shd.staged (finOf 15 (s.get (F.SHD_RGN_CTRL_KEY n.val))) = none →
    Answers (.shdCommit p v) s fun t => t.told p .ok 0 ∧ t.flag F.SHD_STATUS_REFUSED = true ∧ t.get F.SHD_STATUS_REFUSE_CAUSE = 3 ∧
      SameBut s t R.SHD_STATUS 0xF002 ∧ Keeps s t [.resp] [R.SHD_STATUS]) ∧
  (∀ (m : Fin 16), s.admits p R.SHD_COMMIT → s.flag F.SHD_STATUS_KEY_BUSY = false → (∀ k : Fin 16, k < n → regionFault s k.val = none) →
    s.flag (F.SHD_RGN_CTRL_EN n.val) = true → 0 < s.get (F.SHD_RGN_SIZE_PAGES n.val) →
    4096 * (s.get (F.SHD_RGN_BASE_PAGE n.val) + s.get (F.SHD_RGN_SIZE_PAGES n.val)) ≤ extent s → s.get (F.SHD_RGN_CTRL_MODE n.val) = 2 →
    2048 * s.get (F.SHD_RGN_TAG_TAG_BASE n.val) + 512 * s.get (F.SHD_RGN_SIZE_PAGES n.val) ≤ extent s →
    vget s.shd.staged (finOf 15 (s.get (F.SHD_RGN_CTRL_KEY n.val))) ≠ none → s.flag (F.SHD_RGN_CTRL_EN m.val) = true →
    2048 * s.get (F.SHD_RGN_TAG_TAG_BASE n.val) < 4096 * (s.get (F.SHD_RGN_BASE_PAGE m.val) + s.get (F.SHD_RGN_SIZE_PAGES m.val)) →
    4096 * s.get (F.SHD_RGN_BASE_PAGE m.val) < 2048 * s.get (F.SHD_RGN_TAG_TAG_BASE n.val) + 512 * s.get (F.SHD_RGN_SIZE_PAGES n.val) →
    Answers (.shdCommit p v) s fun t => t.told p .ok 0 ∧ t.flag F.SHD_STATUS_REFUSED = true ∧ t.get F.SHD_STATUS_REFUSE_CAUSE = 4 ∧
      SameBut s t R.SHD_STATUS 0xF002 ∧ Keeps s t [.resp] [R.SHD_STATUS]) ∧
  ((∀ u : Fin 8, ∀ r ∈ (vget s.mem.subs u).reads ++ (vget s.mem.subs u).writes ++ (vget s.mem.subs u).service.toList, r.prot.version = s.shd.version) →
    Answers .shadeDrained s fun t => t.flag F.SHD_STATUS_DRAINED = true ∧ SameBut s t R.SHD_STATUS 1 ∧ Keeps s t [] [R.SHD_STATUS])

/-! ### The Psiom store (17_psiom_store.md) -/

namespace Sys2Proof.Machine

/-- A command of the store is refused (R856): the answer is OK, ERR sets and ERR_CAUSE is recorded if ERR was 0, event 217 is raised, and
beside the command register's own fields nothing else changes. -/
abbrev PsmRefused (s t : State) (p : Partner) (a cause : Nat) : Prop :=
  t.told p .ok 0 ∧ t.flag F.PSM_STATUS_ERR = true ∧
    t.get F.PSM_STATUS_ERR_CAUSE = (if s.flag F.PSM_STATUS_ERR = true then s.get F.PSM_STATUS_ERR_CAUSE else cause) ∧
    t.evc = (raise 217 { s with regs := t.regs }).evc ∧ SameBut s t R.PSM_STATUS 0xF08 ∧ Keeps s t [.resp, .evc] [a, R.PSM_STATUS]

end Sys2Proof.Machine

/-- Commands of the store (R847 to R854, R869 to R871, R874, R987): PROGRAM starts with its units; ERASE marks its sector; SUSPEND waits for the
slice, RESUME takes the erase up; a key WRITE erases the target copy and programs it with a new generation; a key ERASE takes the
older copy first; what the rules forbid is refused with its cause, the first that applies. -/
def Obligations.PsiomCommands : Prop := ∀ (s : State) (p : Partner) (v : Word),
  (s.admits p R.PSM_CMD → s.psm.cmd = none → s.rst.bowAt = none → s.get F.PSM_ADDR_ADDR % 16 = 0 →
    s.get F.PSM_ADDR_ADDR % 4096 + 16 * (F.PSM_CMD_UNITS_M1.of v + 1) ≤ 4096 → inKeyArea (s.get F.PSM_ADDR_ADDR) = false →
    (psmSector s (s.get F.PSM_ADDR_ADDR / 4096)).state = .erased ∨ (psmSector s (s.get F.PSM_ADDR_ADDR / 4096)).state = .written →
    (∀ u : Fin 16, u.val ≤ F.PSM_CMD_UNITS_M1.of v → psmUnit s (s.get F.PSM_ADDR_ADDR / 16 + u.val) = .erased) →
    Answers (.psmProgram p v) s fun t => t.told p .ok 0 ∧ t.flag F.PSM_STATUS_BUSY = true ∧
      t.psm = { s.psm with cmd := some ⟨1, [], 0, (List.range (F.PSM_CMD_UNITS_M1.of v + 1)).map fun i =>
        (s.get F.PSM_ADDR_ADDR / 16 + i, ((psmBuf s).drop (16 * i)).take 16), false⟩, sliceAt := s.clk.now } ∧
      SameBut s t R.PSM_STATUS 1 ∧ Keeps s t [.resp, .psm] [R.PSM_CMD, R.PSM_STATUS]) ∧
  (s.admits p R.PSM_CMD → s.psm.cmd = none → s.psm.suspended = none → s.rst.bowAt = none → inKeyArea (s.get F.PSM_ADDR_ADDR) = false →
    (psmSector s (s.get F.PSM_ADDR_ADDR / 4096)).state ≠ .erasing →
    Answers (.psmErase p v) s fun t => t.told p .ok 0 ∧ t.flag F.PSM_STATUS_BUSY = true ∧ t.psm.sliceAt = s.clk.now ∧
      t.psm.cmd = some ⟨2, [s.get F.PSM_ADDR_ADDR / 4096], 0, [], false⟩ ∧
      (∀ k : Fin 2048, psmSector t k.val = if k.val = s.get F.PSM_ADDR_ADDR / 4096 then { psmSector s k.val with state := .erasing } else psmSector s k.val) ∧
      t.psm.bytes = s.psm.bytes ∧ t.psm.units = s.psm.units ∧ t.psm.suspended = none ∧ t.psm.keyBuf = s.psm.keyBuf ∧
      SameBut s t R.PSM_STATUS 1 ∧ Keeps s t [.resp, .psm] [R.PSM_CMD, R.PSM_STATUS]) ∧
  (let k := F.PSM_KEY_CMD_SLOT.of v;
    let c := (validCopy s k).getD 1
    s.admits p R.PSM_KEY_CMD → s.psm.cmd = none → s.psm.suspended = none → s.rst.bowAt = none →
    (psmSector s (copySector k (1 - c))).state ≠ .erasing → Answers (.keyErase p v) s fun t => t.told p .ok 0 ∧
      t.flag F.PSM_STATUS_BUSY = true ∧ t.flag F.PSM_STATUS_KEY_BUSY = true ∧ t.psm.cmd = some ⟨4, [copySector k (1 - c), copySector k (1 - (1 - c))], 0, [], false⟩ ∧
      psmSector t (copySector k (1 - c)) = { psmSector s (copySector k (1 - c)) with state := .erasing } ∧ t.psm.bytes = s.psm.bytes ∧
      t.psm.units = s.psm.units ∧ Keeps s t [.resp, .psm] [R.PSM_KEY_CMD, R.PSM_STATUS]) ∧
  (s.admits p R.PSM_CMD → s.psm.cmd ≠ none → Answers (.psmProgram p v) s fun t => t.psm = s.psm ∧ PsmRefused s t p R.PSM_CMD 1) ∧
  (s.admits p R.PSM_CMD → s.psm.cmd = none → s.get F.PSM_ADDR_ADDR % 16 ≠ 0 ∨ 4096 < s.get F.PSM_ADDR_ADDR % 4096 + 16 * (F.PSM_CMD_UNITS_M1.of v + 1) →
    Answers (.psmProgram p v) s fun t => t.psm = s.psm ∧ PsmRefused s t p R.PSM_CMD 2) ∧
  (s.admits p R.PSM_CMD → s.psm.cmd = none → s.get F.PSM_ADDR_ADDR % 16 = 0 → s.get F.PSM_ADDR_ADDR % 4096 + 16 * (F.PSM_CMD_UNITS_M1.of v + 1) ≤ 4096 →
    inKeyArea (s.get F.PSM_ADDR_ADDR) = true → Answers (.psmProgram p v) s fun t => t.psm = s.psm ∧ PsmRefused s t p R.PSM_CMD 3) ∧
  (∀ (u : Fin 16), s.admits p R.PSM_CMD → s.psm.cmd = none → s.get F.PSM_ADDR_ADDR % 16 = 0 →
    s.get F.PSM_ADDR_ADDR % 4096 + 16 * (F.PSM_CMD_UNITS_M1.of v + 1) ≤ 4096 → inKeyArea (s.get F.PSM_ADDR_ADDR) = false →
    (psmSector s (s.get F.PSM_ADDR_ADDR / 4096)).state = .erased ∨ (psmSector s (s.get F.PSM_ADDR_ADDR / 4096)).state = .written →
    u.val ≤ F.PSM_CMD_UNITS_M1.of v → psmUnit s (s.get F.PSM_ADDR_ADDR / 16 + u.val) ≠ .erased →
    (∀ i : Fin 16, psmUnit s (s.get F.PSM_ADDR_ADDR / 16 + i.val) ≠ .unverified) →
    Answers (.psmProgram p v) s fun t => t.psm = s.psm ∧ PsmRefused s t p R.PSM_CMD 4) ∧
  (s.admits p R.PSM_CMD → s.psm.cmd = none → s.get F.PSM_ADDR_ADDR % 16 = 0 →
    s.get F.PSM_ADDR_ADDR % 4096 + 16 * (F.PSM_CMD_UNITS_M1.of v + 1) ≤ 4096 → inKeyArea (s.get F.PSM_ADDR_ADDR) = false →
    (psmSector s (s.get F.PSM_ADDR_ADDR / 4096)).state ≠ .erased → (psmSector s (s.get F.PSM_ADDR_ADDR / 4096)).state ≠ .written →
    Answers (.psmProgram p v) s fun t => t.psm = s.psm ∧ PsmRefused s t p R.PSM_CMD 5) ∧
  (s.admits p R.PSM_CMD → s.psm.cmd ≠ none ∨ s.psm.suspended ≠ none → Answers (.psmErase p v) s fun t => t.psm = s.psm ∧ PsmRefused s t p R.PSM_CMD 1) ∧
  (s.admits p R.PSM_CMD → s.psm.cmd = none → s.psm.suspended = none → inKeyArea (s.get F.PSM_ADDR_ADDR) = true →
    Answers (.psmErase p v) s fun t => t.psm = s.psm ∧ PsmRefused s t p R.PSM_CMD 3) ∧
  (s.admits p R.PSM_CMD → s.psm.suspended ≠ none → Answers (.psmSuspend p v) s fun t => t.psm = s.psm ∧ PsmRefused s t p R.PSM_CMD 1) ∧
  (∀ (c : PsmCmd), s.admits p R.PSM_CMD → s.psm.suspended = none → s.psm.cmd = some c → c.op = 2 → Answers (.psmSuspend p v) s fun t => t.told p .ok 0 ∧
    t.psm = { s.psm with cmd := some { c with suspend := true } } ∧ Keeps s t [.resp, .psm] [R.PSM_CMD]) ∧
  (∀ (c : PsmCmd), s.admits p R.PSM_CMD → s.psm.suspended = none → s.psm.cmd = some c → c.op ≠ 2 →
    Answers (.psmSuspend p v) s fun t => t.psm = s.psm ∧ PsmRefused s t p R.PSM_CMD (if c.op = 1 then 8 else 1)) ∧
  (s.admits p R.PSM_CMD → s.psm.suspended = none → s.psm.cmd = none → Answers (.psmSuspend p v) s fun t => t.psm = s.psm ∧ PsmRefused s t p R.PSM_CMD 8) ∧
  (∀ (c : PsmCmd) (k : Nat), s.admits p R.PSM_CMD → s.psm.suspended = some c → s.psm.cmd = none → s.rst.bowAt = none → c.sectors = [k] →
    Answers (.psmResume p v) s fun t => t.told p .ok 0 ∧ t.psm.cmd = some c ∧ t.psm.suspended = none ∧ t.psm.sliceAt = s.clk.now ∧ t.flag F.PSM_STATUS_BUSY = true ∧
      t.flag F.PSM_STATUS_SUSPENDED = false ∧ psmSector t k = { psmSector s k with state := .erasing } ∧ t.psm.bytes = s.psm.bytes ∧
      SameBut s t R.PSM_STATUS 3 ∧ Keeps s t [.resp, .psm] [R.PSM_CMD, R.PSM_STATUS]) ∧
  (s.admits p R.PSM_CMD → s.psm.suspended = none → Answers (.psmResume p v) s fun t => t.psm = s.psm ∧ PsmRefused s t p R.PSM_CMD 8) ∧
  (s.admits p R.PSM_CMD → s.psm.suspended ≠ none → s.psm.cmd ≠ none → Answers (.psmResume p v) s fun t => t.psm = s.psm ∧ PsmRefused s t p R.PSM_CMD 1) ∧
  (s.admits p R.PSM_CMD → F.PSM_CMD_OP.of v = 0 ∨ 4 < F.PSM_CMD_OP.of v → Answers (.psmBadOp p false v) s fun t => t.psm = s.psm ∧ PsmRefused s t p R.PSM_CMD 11) ∧
  (s.admits p R.PSM_KEY_CMD → F.PSM_KEY_CMD_OP.of v = 0 ∨ F.PSM_KEY_CMD_OP.of v = 3 →
    Answers (.psmBadOp p true v) s fun t => t.psm = s.psm ∧ PsmRefused s t p R.PSM_KEY_CMD 11) ∧
  (let k := F.PSM_KEY_CMD_SLOT.of v;
    let gen := ((validCopy s k).map (copyGen s k)).getD 0
    let c := if copyValid s k 0 = true ∧ (copyValid s k 1 = false ∨ validCopy s k = some 0) then 1 else 0
    s.admits p R.PSM_KEY_CMD → s.psm.cmd = none → s.psm.suspended = none → s.rst.bowAt = none →
    gen ≠ 0xFFFFFFFF → (psmSector s (copySector k c)).state ≠ .erasing → Answers (.keyWrite p v) s fun t => t.told p .ok 0 ∧
      t.flag F.PSM_STATUS_BUSY = true ∧ t.flag F.PSM_STATUS_KEY_BUSY = true ∧
      t.psm.cmd = some ⟨3, [copySector k c], 0, copyUnits k c (gen + 1) s.psm.keyBuf, false⟩ ∧
      psmSector t (copySector k c) = { psmSector s (copySector k c) with state := .erasing } ∧ t.psm.bytes = s.psm.bytes ∧
      t.psm.units = s.psm.units ∧ t.psm.keyBuf = s.psm.keyBuf ∧ Keeps s t [.resp, .psm] [R.PSM_KEY_CMD, R.PSM_STATUS]) ∧
  (s.admits p R.PSM_KEY_CMD → s.psm.cmd = none → s.psm.suspended = none → validCopy s (F.PSM_KEY_CMD_SLOT.of v) = some 0 →
    copyGen s (F.PSM_KEY_CMD_SLOT.of v) 0 = 0xFFFFFFFF → Answers (.keyWrite p v) s fun t => t.psm = s.psm ∧ PsmRefused s t p R.PSM_KEY_CMD 10) ∧
  (s.admits p R.PSM_KEY_CMD → s.psm.cmd ≠ none ∨ s.psm.suspended ≠ none → Answers (.keyWrite p v) s fun t => t.psm = s.psm ∧ PsmRefused s t p R.PSM_KEY_CMD 1) ∧
  (s.admits p R.PSM_KEY_CMD → s.psm.cmd ≠ none ∨ s.psm.suspended ≠ none → Answers (.keyErase p v) s fun t => t.psm = s.psm ∧ PsmRefused s t p R.PSM_KEY_CMD 1)

/-- Pulses, slices and reads of the store (R226, R842, R843, R845, R849, R850, R852, R855, R856, R862, R869, R921): a slice's pulse takes
200 us; a verified unit holds its data, a failed one
stops the command with VERIFY; a slice that verifies erases the sector and counts the erase, the twentieth failure makes it BAD, a
waiting SUSPEND parks the erase; reads give the bytes, zeros in the key area. -/
def Obligations.PsiomPulses : Prop := ∀ (s : State),
  (∀ (c : PsmCmd) (u : Nat) (b : List Byte) (rest : List (Nat × List Byte)), s.psm.cmd = some c → c.sectors = [] → c.units = (u, b) :: rest → b.length = 16 →
    s.psm.reads = [] → s.rst.deferred = none → s.rst.bowAt = none → Settles (.psmProgramPulseDone true) s fun t =>
      psmBytes t (16 * u) 16 = b ∧ psmUnit t u = .good ∧ (psmSector t (u / 256)).state = .written ∧
      (∀ a : Fin 0x800000, a.val / 16 ≠ u → sget psmErased t.psm.bytes a.val = sget psmErased s.psm.bytes a.val) ∧
      (∀ w : Fin 0x80000, w.val ≠ u → psmUnit t w.val = psmUnit s w.val) ∧
      (rest ≠ [] → t.psm.cmd = some { c with units := rest } ∧ Keeps s t [.psm] []) ∧
      (rest = [] → t.psm.cmd = none ∧ t.flag F.PSM_STATUS_BUSY = false ∧ t.flag F.PSM_STATUS_KEY_BUSY = false ∧
        t.psm.keyBuf = (if c.op = 3 then List.replicate 96 0 else s.psm.keyBuf) ∧ t.evc = (raise 216 s).evc ∧ SameBut s t R.PSM_STATUS 5 ∧
        Keeps s t [.psm, .evc] [R.PSM_STATUS])) ∧
  (∀ (c : PsmCmd) (u : Nat) (b : List Byte) (rest : List (Nat × List Byte)), s.psm.cmd = some c → c.sectors = [] → c.units = (u, b) :: rest →
    s.psm.reads = [] → Settles (.psmProgramPulseDone false) s fun t => t.psm.cmd = none ∧ t.flag F.PSM_STATUS_BUSY = false ∧ psmUnit t u = .unverified ∧
      (psmSector t (u / 256)).state = .written ∧ (∀ a : Fin 0x800000, a.val / 16 ≠ u → sget psmErased t.psm.bytes a.val = sget psmErased s.psm.bytes a.val) ∧
      t.flag F.PSM_STATUS_ERR = true ∧ (s.flag F.PSM_STATUS_ERR = false → t.get F.PSM_STATUS_ERR_CAUSE = 7) ∧ t.evc = (raise 217 s).evc ∧
      SameBut s t R.PSM_STATUS 0xF0D ∧ Keeps s t [.psm, .evc, .clk] [R.PSM_STATUS]) ∧
  (∀ (c : PsmCmd) (k : Nat), s.psm.cmd = some c → c.sectors = [k] → c.units = [] → c.suspend = false → c.op ≠ 3 → s.psm.reads = [] → s.rst.deferred = none →
    s.rst.bowAt = none → s.psm.sliceAt + 200000 ≤ s.clk.now → Settles (.psmEraseSliceEnd true) s fun t =>
      psmSector t k = ⟨.erased, min ((psmSector s k).erases + 1) 65535, decide (10000 < min ((psmSector s k).erases + 1) 65535)⟩ ∧
      (∀ a : Fin 0x800000, sget psmErased t.psm.bytes a.val = if a.val / 4096 = k then 0xFF else sget psmErased s.psm.bytes a.val) ∧
      (∀ u : Fin 0x80000, psmUnit t u.val = if u.val / 256 = k then .erased else psmUnit s u.val) ∧ (∀ j : Fin 2048, j.val ≠ k → psmSector t j.val = psmSector s j.val) ∧ t.psm.cmd = none ∧
      t.flag F.PSM_STATUS_BUSY = false ∧ SameBut s t R.PSM_STATUS 5 ∧ Keeps s t [.psm, .evc] [R.PSM_STATUS]) ∧
  (∀ (c : PsmCmd) (k : Nat), s.psm.cmd = some c → c.sectors = [k] → c.suspend = false → c.slices + 1 < 20 → s.psm.reads = [] → s.rst.deferred = none →
    s.rst.bowAt = none → s.psm.sliceAt + 200000 ≤ s.clk.now → Settles (.psmEraseSliceEnd false) s fun t => t.psm = { s.psm with
        cmd := some { c with slices := c.slices + 1 }, sliceAt := s.clk.now } ∧ Keeps s t [.psm] []) ∧
  (∀ (ok : Bool), s.clk.now < s.psm.sliceAt + 200000 → (s.psm.cmd.map PsmCmd.sectors) ≠ some [] → exec (.psmEraseSliceEnd ok) s = .next (settle s)) ∧
  (∀ (c : PsmCmd) (k : Nat), s.psm.cmd = some c → c.sectors = [k] → 20 ≤ c.slices + 1 → s.psm.reads = [] → s.rst.deferred = none →
    s.psm.sliceAt + 200000 ≤ s.clk.now → Settles (.psmEraseSliceEnd false) s fun t => psmSector t k = { psmSector s k with state := .bad } ∧ t.psm.cmd = none ∧ t.flag F.PSM_STATUS_BUSY = false ∧
      t.psm.bytes = s.psm.bytes ∧ t.flag F.PSM_STATUS_ERR = true ∧ (s.flag F.PSM_STATUS_ERR = false → t.get F.PSM_STATUS_ERR_CAUSE = 6) ∧
      t.evc = (raise 217 s).evc ∧ SameBut s t R.PSM_STATUS 0xF0D ∧ Keeps s t [.psm, .evc] [R.PSM_STATUS]) ∧
  (∀ (c : PsmCmd) (k : Nat), s.psm.cmd = some c → c.sectors = [k] → c.suspend = true → c.slices + 1 < 20 → s.psm.reads = [] → s.rst.deferred = none →
    s.psm.sliceAt + 200000 ≤ s.clk.now → Settles (.psmEraseSliceEnd false) s fun t => psmSector t k = { psmSector s k with state := .suspended } ∧ t.psm.cmd = none ∧
      t.psm.suspended = some { c with slices := c.slices + 1, suspend := false } ∧ t.flag F.PSM_STATUS_BUSY = false ∧ t.flag F.PSM_STATUS_SUSPENDED = true ∧
      t.psm.bytes = s.psm.bytes ∧ t.evc = (raise 216 s).evc ∧ SameBut s t R.PSM_STATUS 7 ∧ Keeps s t [.psm, .evc] [R.PSM_STATUS]) ∧
  (∀ (u : Nat), s.rst.coreUp = true → s.flag F.RAS_SCRUB_PSM_EN = true → s.psm.cmd = none → scanDue s = true →
    (scanUnits s).find? (fun x => decide (s.psm.scan ≤ x)) = some u → psmUnit s u = .good → Answers .psmScanRead s fun t =>
      t.psm.bytes = s.psm.bytes ∧ t.psm.scanAt = s.elapsed ∧
      (if (scanUnits s).any (fun x => decide (u + 1 ≤ x)) then t.psm.scan = u + 1 ∧ Keeps s t [.psm] []
        else t.psm.scan = 0 ∧ t.get F.RAS_SCRUB_STATUS_PSM_PASSES = min (s.get F.RAS_SCRUB_STATUS_PSM_PASSES + 1) 255 ∧ Keeps s t [.psm] [R.RAS_SCRUB_STATUS])) ∧
  (∀ (u : Nat), s.rst.coreUp = true → s.flag F.RAS_SCRUB_PSM_EN = true → s.psm.cmd = none → scanDue s = true →
    (scanUnits s).find? (fun x => decide (s.psm.scan ≤ x)) = some u → psmUnit s u = .correctable → Answers .psmScanRead s fun t =>
      t.get F.PSM_CE_COUNT = min (s.get F.PSM_CE_COUNT + 1) (2 ^ 32 - 1) ∧ t.psm.bytes = s.psm.bytes ∧ t.psm.units = s.psm.units ∧ t.rd R.PSM_UE = s.rd R.PSM_UE) ∧
  (∀ (r : PsmRead) (l : List PsmRead) (o : Origin), s.psm.reads = r :: l → s.psm.cmd = none → r.addr + r.len ≤ 2016 * 4096 → 0 < r.len →
    s.flag F.RAS_INJ_CTRL_ARM = false → (∀ i : Fin 17, psmUnit s (r.addr / 16 + i.val) = .good ∨ psmUnit s (r.addr / 16 + i.val) = .erased) → r.len ≤ 256 →
    (∀ i : Fin 2, (psmSector s (r.addr / 4096 + i.val)).state = .erased ∨ (psmSector s (r.addr / 4096 + i.val)).state = .written) →
    (s.bb.bursts.find? (fun b => b.req.id == r.id)).map (fun b => b.req.origin) = some o → Settles .psmWindowRead s fun t =>
      t.resp = (deliver ⟨r.id, o, .ok, psmBytes s r.addr r.len⟩ s).resp ∧ t.bb.done = (deliver ⟨r.id, o, .ok, psmBytes s r.addr r.len⟩ s).bb.done ∧
      (∀ x ∈ t.bb.bursts, x.req.id ≠ r.id) ∧ t.psm = { s.psm with reads := l } ∧ Keeps s t [.resp, .psm, .bb] []) ∧
  (∀ (r : PsmRead) (l : List PsmRead) (o : Origin), s.psm.reads = r :: l → s.psm.cmd = none → 2016 * 4096 ≤ r.addr → r.addr + r.len ≤ 2048 * 4096 →
    0 < r.len → (s.bb.bursts.find? (fun b => b.req.id == r.id)).map (fun b => b.req.origin) = some o → Settles .psmWindowRead s fun t =>
      t.resp = (deliver ⟨r.id, o, .ok, List.replicate r.len 0⟩ s).resp ∧
      t.bb.done = (deliver ⟨r.id, o, .ok, List.replicate r.len 0⟩ s).bb.done ∧ t.psm = { s.psm with reads := l } ∧ Keeps s t [.resp, .psm, .bb] []) ∧
  (∀ (r : PsmRead) (l : List PsmRead) (o : Origin), s.psm.reads = r :: l → s.psm.cmd = none → r.addr + r.len ≤ 2016 * 4096 → 0 < r.len → r.addr % 16 + r.len ≤ 16 →
    s.flag F.RAS_INJ_CTRL_ARM = false → psmUnit s (r.addr / 16) = .uncorrectable →
    (psmSector s (r.addr / 4096)).state = .written ∨ (psmSector s (r.addr / 4096)).state = .erased →
    (s.bb.bursts.find? (fun b => b.req.id == r.id)).map (fun b => b.req.origin) = some o → Settles .psmWindowRead s fun t =>
      t.resp = (deliver ⟨r.id, o, .busErr, []⟩ s).resp ∧
      (t.bb.done.map Reply.status) = (deliver ⟨r.id, o, .busErr, []⟩ s).bb.done.map Reply.status ∧ t.get F.PSM_UE_COUNT = min (s.get F.PSM_UE_COUNT + 1) (2 ^ 32 - 1) ∧ t.psm = { s.psm with reads := l })

/-- R844: a write to the store's read window ends with BUS_ERR and changes nothing, whatever master sends it and the rules let
pass. -/
def Obligations.PsiomWindowWrite : Prop := ∀ (s : State) (m : Fin 128) (addr : BitVec 23),
  (masterMay s m.val = true → masterGate s m.val (0x00F800000000 + addr.toNat) = none → rulesPass s m.val (0x00F800000000 + addr.toNat) true = true →
    exec (.psmWindowWrite m addr) s = .next (s.answer (answerTo m.val) .busErr 0))

/-! ### Lines of external memory (14_memory_controllers.md, 16_shade.md) -/

/-- One line as a controller performs it (R670, R671, R753 to R758, R807, R808, R811, R812, R816 to R818, R820, R823 to R825, R908): a whole write stores
its bytes, encrypted and tagged as the region asks, with good check bits; a partial write merges, poisons an uncorrectable line and
writes nothing; a read gives its burst the stored or decrypted bytes or BUS_ERR; the next complete read burst is answered. -/
def Obligations.MemoryLines : Prop := ∀ (s : State) (sc : Fin 8),
  (∀ (r : MemReq), (vget s.mem.subs sc).service = some r → r.write = true → allOn r.be = true → r.master ≠ 3 → r.prot.mode = 0 → r.data.length = 64 → r.line % 64 = 0 →
    s.flag F.RAS_INJ_CTRL_ARM = false → Settles (.memoryLineWrite sc) s fun t => memBytes t r.line 64 = r.data ∧
      lineAttr t r.line = ⟨false, [], none⟩ ∧ (∀ a : Fin 0x8000000000, a.val / 64 ≠ r.line / 64 → memByte t a.val = memByte s a.val) ∧
      (∀ l : Fin 0x200000000, 64 * l.val ≠ r.line → lineAttr t (64 * l.val) = lineAttr s (64 * l.val)) ∧ (vget t.mem.subs sc).service = none ∧ Keeps s t [.mem] []) ∧
  (∀ (r : MemReq) (k : List Byte), (vget s.mem.subs sc).service = some r → r.write = true → allOn r.be = true → r.master ≠ 3 → r.prot.mode = 1 ∨ r.prot.mode = 3 →
    r.prot.key = some k → (encryptLine r.prot k r.line r.data).length = 64 → r.line % 64 = 0 → s.flag F.RAS_INJ_CTRL_ARM = false →
    Settles (.memoryLineWrite sc) s fun t => memBytes t r.line 64 = encryptLine r.prot k r.line r.data ∧
      lineAttr t r.line = (if r.prot.mode = 3 then ⟨true, tagOf r.prot k r.line (encryptLine r.prot k r.line r.data), none⟩ else ⟨false, [], none⟩) ∧
      (∀ a : Fin 0x8000000000, a.val / 64 ≠ r.line / 64 → memByte t a.val = memByte s a.val) ∧
      (vget t.mem.subs sc).service = none ∧ Keeps s t [.mem] []) ∧
  (∀ (r : MemReq), (vget s.mem.subs sc).service = some r → r.write = true → allOn r.be = true → r.master ≠ 3 → r.prot.mode ≠ 0 → r.prot.key = none →
    Settles (.memoryLineWrite sc) s fun t => t.mem.bytes = s.mem.bytes ∧ t.mem.attr = s.mem.attr ∧ t.flag F.SHD_STATUS_NO_KEY = true ∧
      t.get (F.SHD_ENG_FAIL_COUNT (engineOf r.line)) = min (s.get (F.SHD_ENG_FAIL_COUNT (engineOf r.line)) + 1) (2 ^ 32 - 1) ∧
      (s.flag F.SHD_ALARM_INFO_VALID = true → t.rd R.SHD_ALARM_INFO = s.rd R.SHD_ALARM_INFO) ∧
      t.flag F.SHD_STATUS_HALTED = s.flag F.SHD_STATUS_HALTED) ∧
  (∀ (r : MemReq), (vget s.mem.subs sc).service = some r → r.write = true → allOn r.be = false → r.master ≠ 3 → r.prot.mode = 0 → r.line % 64 = 0 →
    (lineAttr s r.line).spare = false → (lineAttr s r.line).mark = none → Settles (.memoryPartialWrite sc) s fun t =>
      (∀ a : Fin 0x8000000000, memByte t a.val = if a.val / 64 = r.line / 64 ∧ r.be.getD (a.val - r.line) false = true
        then byteAt r.data (a.val - r.line) else memByte s a.val) ∧ lineAttr t r.line = ⟨false, [], none⟩ ∧ (vget t.mem.subs sc).service = none) ∧
  (∀ (r : MemReq), (vget s.mem.subs sc).service = some r → r.write = true → allOn r.be = false → r.master ≠ 3 → r.prot.mode = 0 → (lineAttr s r.line).spare = false →
    (lineAttr s r.line).mark = some .poison ∨ (lineAttr s r.line).mark = some (.uncorrectable true) ∨ (lineAttr s r.line).mark = some (.uncorrectable false) →
    Settles (.memoryPartialWrite sc) s fun t => t.mem.bytes = s.mem.bytes ∧ lineAttr t r.line = ⟨false, (lineAttr s r.line).tag, some .poison⟩ ∧
      t.get (F.MC_SC_UE_COUNT (engineOf r.line / 2) (engineOf r.line % 2)) = min (s.get (F.MC_SC_UE_COUNT (engineOf r.line / 2) (engineOf r.line % 2)) + 1) (2 ^ 32 - 1)) ∧
  (∀ (r : MemReq) (b : Burst), (vget s.mem.subs sc).service = some r → r.write = false → r.master ≠ 3 → r.prot.mode = 0 → (vget s.mem.subs sc).writes = [] →
    engineOf r.line = sc.val → (lineAttr s r.line).spare = false → (lineAttr s r.line).mark = none → s.bb.bursts.find? (fun b => b.req.id == r.id) = some b →
    b.req.write = false → Settles (.memoryLineRead sc) s fun t => t.bb.bursts.find? (fun b => b.req.id == r.id) =
      some { b with left := b.left - 1, status := b.status, got := b.got ++ [(r.line, memBytes s r.line 64)] } ∧
      t.mem.bytes = s.mem.bytes ∧ t.mem.attr = s.mem.attr ∧ (vget t.mem.subs sc).service = none ∧ Keeps s t [.mem, .bb] []) ∧
  (∀ (r : MemReq) (b : Burst), (vget s.mem.subs sc).service = some r → r.write = false → r.master ≠ 3 → r.prot.mode = 0 → (vget s.mem.subs sc).writes = [] →
    engineOf r.line = sc.val → (lineAttr s r.line).spare = false → (lineAttr s r.line).mark = some (.uncorrectable true) ∨ (lineAttr s r.line).mark = some (.uncorrectable false) →
    s.bb.bursts.find? (fun b => b.req.id == r.id) = some b → b.req.write = false → b.status = .ok → Settles (.memoryLineRead sc) s fun t =>
      t.bb.bursts.find? (fun b => b.req.id == r.id) = some { b with left := b.left - 1, status := .busErr } ∧
      t.get (F.MC_SC_UE_COUNT (sc.val / 2) (sc.val % 2)) = min (s.get (F.MC_SC_UE_COUNT (sc.val / 2) (sc.val % 2)) + 1) (2 ^ 32 - 1) ∧
      t.mem.bytes = s.mem.bytes ∧ t.mem.attr = s.mem.attr) ∧
  (∀ (r : MemReq) (b : Burst) (k : List Byte), (vget s.mem.subs sc).service = some r → r.write = false → r.master ≠ 3 → r.prot.mode = 1 → r.prot.key = some k →
    (vget s.mem.subs sc).writes = [] → engineOf r.line = sc.val → (lineAttr s r.line).spare = false → (lineAttr s r.line).mark = none →
    s.bb.bursts.find? (fun b => b.req.id == r.id) = some b → b.req.write = false → Settles (.memoryLineRead sc) s fun t =>
      (t.bb.bursts.find? (fun b => b.req.id == r.id)).map Burst.left = some (b.left - 1) ∧
      (decryptLine r.prot k r.line (memBytes s r.line 64) ≠ [] → (t.bb.bursts.find? (fun b => b.req.id == r.id)).map Burst.got =
        some (b.got ++ [(r.line, decryptLine r.prot k r.line (memBytes s r.line 64))])) ∧ Keeps s t [.mem, .bb] []) ∧
  (∀ (r : MemReq) (b : Burst) (k : List Byte), (vget s.mem.subs sc).service = some r → r.write = false → r.master ≠ 3 → r.prot.mode = 3 → r.prot.key = some k →
    (vget s.mem.subs sc).writes = [] → engineOf r.line = sc.val → (lineAttr s r.line).spare = true → (lineAttr s r.line).mark = none →
    (lineAttr s r.line).tag ≠ tagOf r.prot k r.line (memBytes s r.line 64) → s.flag F.RAS_INJ_CTRL_ARM = false →
    s.bb.bursts.find? (fun b => b.req.id == r.id) = some b → b.req.write = false → b.status = .ok → Settles (.memoryLineRead sc) s fun t =>
      t.bb.bursts.find? (fun b => b.req.id == r.id) = some { b with left := b.left - 1, status := .busErr } ∧
      t.flag F.SHD_STATUS_HALTED = (r.prot.halt || s.flag F.SHD_STATUS_HALTED) ∧
      t.get (F.SHD_ENG_FAIL_COUNT sc.val) = min (s.get (F.SHD_ENG_FAIL_COUNT sc.val) + 1) (2 ^ 32 - 1) ∧ t.mem.bytes = s.mem.bytes) ∧
  (∀ (b : Burst), s.bb.bursts.find? (fun b => !b.req.write && b.left == 0) = some b → s.bb.bursts.find? (fun x => x.req.id == b.req.id) = some b →
    Settles .readBurstComplete s fun t =>
      t.resp = (deliver ⟨b.req.id, b.req.origin, b.status, gather b.req b.got⟩ s).resp ∧
      (t.bb.done.map Reply.id) = (deliver ⟨b.req.id, b.req.origin, b.status, []⟩ s).bb.done.map Reply.id ∧
      (∀ x ∈ t.bb.bursts, x.req.id ≠ b.req.id) ∧ (∀ x ∈ s.bb.bursts, x.req.id ≠ b.req.id → x ∈ t.bb.bursts) ∧ Keeps s t [.resp, .bb] [])

/-! ### The Backbone (13_backbone.md) -/

namespace Sys2Proof.Machine

/-- A request takes part in a decision (R670, R677, R679): its master is not fenced out and not at its throttle limit, and the target has room. -/
abbrev TakesPart (s : State) (k : Nat) (r : Req) : Prop :=
  outOfPlay s r.master = false ∧ atLimit s k r = false ∧ targetRoom s k r 0 = true

/-- The window of a point is still running (R675). -/
abbrev InWindow (s : State) (k : Fin 21) : Prop :=
  (vget s.bb.points k).winAt ≠ none ∧ s.elapsed < (vget s.bb.points k).winAt.getD 0 + s.get (F.BB_PT_CTRL_WIN_NS k.val)

/-- Between two waiting write requests the first one wins (R674, R676, R679): it alone panics; or neither does and it has the earlier deadline, or,
in class mode, its class alone is not masked, or neither is masked and its class is lower. -/
abbrev Beats (s : State) (k : Nat) (r q : Req) : Prop :=
  (inPanic s r.master = true ∧ inPanic s q.master = false) ∨
    inPanic s r.master = false ∧ inPanic s q.master = false ∧
      ((s.flag (F.BB_PT_CTRL_MODE k) = true ∧ r.deadline < q.deadline) ∨
        s.flag (F.BB_PT_CTRL_MODE k) = false ∧ ((masked s k r.cls = false ∧ masked s k q.cls = true) ∨
          (masked s k r.cls = false ∧ masked s k q.cls = false ∧ r.cls < q.cls)))

end Sys2Proof.Machine

/-- Requests, decisions and grants (R665, R668, R669, R672 to R676, R679, R680, R682 to R686, R690 to R692, R696, R707): an allowed request waits at the
point of its address under its master's class and deadline, a denied one is recorded and answered; the winner takes a free point; an
urgent one takes it away from a write at most three times; a committed write leaves for its target; windows restart on expiry and on a
configuration write; a lock-up is recorded and fences its master. -/
def Obligations.Arbitration : Prop := ∀ (s : State) (p : Partner) (k : Fin 21) (m : Fin 128) (write : Bool) (addr : LocalAddr) (len : Nat)
    (data : List Byte) (be : List Bool) (deadline : Option TT64) (v : Word),
  (masterMay s m.val = true → burstLegal write addr.toNat len data be = true → portRoom s m.val write = true → masterGate s m.val addr.toNat = none →
    isShut s m.val = false → rulesPass s m.val addr.toNat write = true → Settles (.backboneRequest m write addr len data be deadline false) s fun t =>
      (vget t.bb.points (finOf 20 (route addr.toNat))).pending = (vget s.bb.points (finOf 20 (route addr.toNat))).pending ++
        [⟨s.bb.nextId, m.val, write, addr.toNat, len, data, be, bitsOf (s.rd (mstCfg m.val)).toNat 1 0,
          (if m.val < 4 then defaultDeadline s else (deadline.map fun t => (t.toNat : Int)).getD (defaultDeadline s)), 0, (ruleSet s).2.2, .fabric m.val⟩] ∧
      t.flag F.BB_RULE_DRAINED_DRAINED = (s.flag F.BB_RULE_DRAINED_DRAINED && (decide (m.val < 4) || (ruleSet s).2.2 == s.bb.version)) ∧
      (∀ j : Fin 21, j ≠ finOf 20 (route addr.toNat) → vget t.bb.points j = vget s.bb.points j) ∧ t.bb.nextId = s.bb.nextId + 1 ∧ t.bb.done = s.bb.done ∧
      Keeps s t [.bb] [R.BB_RULE_DRAINED]) ∧
  (masterMay s m.val = true → burstLegal write addr.toNat len data be = true → portRoom s m.val write = true → 4 ≤ m.val → isShut s m.val = false →
    rulesPass s m.val addr.toNat write = false → Settles (.backboneRequest m write addr len data be deadline false) s fun t =>
      t.resp = some ⟨.master m.val, .denied, 0⟩ ∧ t.bb.points = s.bb.points ∧ t.get F.BB_VIOL_COUNT_COUNT = min (s.get F.BB_VIOL_COUNT_COUNT + 1) (2 ^ 32 - 1) ∧
      (s.flag F.BB_VIOL_INFO_VALID = true → t.rd R.BB_VIOL_INFO = s.rd R.BB_VIOL_INFO) ∧
      (s.flag F.BB_VIOL_INFO_VALID = false → t.flag F.BB_VIOL_INFO_VALID = true ∧ t.get F.BB_VIOL_INFO_MASTER = m.val ∧ t.flag F.BB_VIOL_INFO_WRITE = write ∧
        t.get64 R.BB_VIOL_ADDR_LO R.BB_VIOL_ADDR_HI = addr.toNat)) ∧
  (∀ (r : Req), InWindow s k → (vget s.bb.points k).owner = none → (vget s.bb.points k).pending = [r] → r.write = true → TakesPart s k.val r →
    s.flag F.RAS_INJ_CTRL_ARM = false → Settles (.arbitrationDecision k) s fun t => (vget t.bb.points k).owner = some ⟨r, s.clk.now, false⟩ ∧
      (vget t.bb.points k).pending = [] ∧ (∀ j : Fin 21, j ≠ k → vget t.bb.points j = vget s.bb.points j) ∧ t.bb.bursts = s.bb.bursts ∧ Keeps s t [.bb] []) ∧
  (∀ (r q : Req), InWindow s k → (vget s.bb.points k).owner = none →
    (vget s.bb.points k).pending = [r, q] ∨ (vget s.bb.points k).pending = [q, r] → r.master ≠ q.master → r.write = true → r.cls < 4 → q.cls < 4 → TakesPart s k.val r →
    TakesPart s k.val q → Beats s k.val r q → s.flag F.RAS_INJ_CTRL_ARM = false → Settles (.arbitrationDecision k) s fun t =>
      (vget t.bb.points k).owner = some ⟨r, s.clk.now, false⟩ ∧ (vget t.bb.points k).pending = [q]) ∧
  (∀ (o : Own) (w : Req), InWindow s k → k.val < 20 → (vget s.bb.points k).owner = some o → (vget s.bb.points k).next = none → (vget s.bb.points k).pending = [w] →
    o.req.write = true → o.withheld = false → o.req.displaced < 3 → o.req.master ≠ w.master → inPanic s o.req.master = false → s.clk.now + 1 < o.ends →
    s.bb.bursts.any (fun b => b.req.id == o.req.id) = true → w.write = true → TakesPart s k.val w → s.flag F.RAS_INJ_CTRL_ARM = false →
    inPanic s w.master = true ∨ (s.flag (F.BB_PT_CTRL_MODE k.val) = true ∧ w.deadline < o.req.deadline ∧ w.deadline ≤ s.deadlineIn (s.get (F.BB_PT_GUARD_GUARD_NS k.val))) →
    Settles (.grantRevocation k) s fun t => (vget t.bb.points k).owner = some ⟨w, s.clk.now + 1, false⟩ ∧
      (vget t.bb.points k).pending = [{ o.req with displaced := o.req.displaced + 1 }] ∧
      t.get (F.BB_PT_PREEMPTS_COUNT k.val) = min (s.get (F.BB_PT_PREEMPTS_COUNT k.val) + 1) (2 ^ 32 - 1) ∧ Keeps s t [.bb] [R.BB_PT_PREEMPTS k.val]) ∧
  (∀ (o : Own), InWindow s k → (vget s.bb.points k).owner = some o → 3 ≤ o.req.displaced ∨ inPanic s o.req.master = true ∨ o.ends ≤ s.clk.now + 1 →
    exec (.grantRevocation k) s = .next (settle s)) ∧
  (∀ (o : Own), 8 ≤ k.val → k.val < 20 → (vget s.bb.points k).owner = some o → (vget s.bb.points k).next = none → o.req.write = true → o.withheld = false → o.ends ≤ s.clk.now →
    bankState s (o.req.addr % 2 ^ 32 / 0x100000) = 0 → Settles (.writeCommit k) s fun t => t.stg.portA = s.stg.portA ++ [o.req] ∧ (vget t.bb.points k).owner = none ∧
      (vget t.bb.points k).pending = (vget s.bb.points k).pending ∧ t.stg.bytes = s.stg.bytes ∧ Keeps s t [.stg, .bb] []) ∧
  (∀ (w0 : Nat), (vget s.bb.points k).winAt = some w0 → w0 + s.get (F.BB_PT_CTRL_WIN_NS k.val) ≤ s.elapsed → Answers (.arbitrationWindowExpiry k) s fun t =>
    (vget t.bb.points k).grants = 0 ∧ (vget t.bb.points k).classGrants = Vector.replicate 4 0 ∧ (vget t.bb.points k).masterGrants = [] ∧
      (vget t.bb.points k).pending = (vget s.bb.points k).pending ∧ (vget t.bb.points k).owner = (vget s.bb.points k).owner ∧
      (vget t.bb.points k).rr = (vget s.bb.points k).rr ∧ (vget t.bb.points k).winAt.getD 0 ≤ s.elapsed ∧
      (∀ j : Fin 21, j ≠ k → vget t.bb.points j = vget s.bb.points j) ∧ Keeps s t [.bb] []) ∧
  (s.admits p (R.BB_PT_CTRL k.val) → Answers (.pointConfigWrite p k false v) s fun t => t.told p .ok 0 ∧ t.rd (R.BB_PT_CTRL k.val) = (s.rd (R.BB_PT_CTRL k.val) &&& ~~~ 0xFFFFFF01) ||| (v &&& 0xFFFFFF01) ∧
    (vget t.bb.points k).grants = 0 ∧ (vget t.bb.points k).classGrants = Vector.replicate 4 0 ∧ (vget t.bb.points k).masterGrants = [] ∧
      (vget t.bb.points k).pending = (vget s.bb.points k).pending ∧ (vget t.bb.points k).owner = (vget s.bb.points k).owner ∧
      (∀ j : Fin 21, j ≠ k → vget t.bb.points j = vget s.bb.points j) ∧ Keeps s t [.resp, .bb] [R.BB_PT_CTRL k.val]) ∧
  (∀ (o : Own), s.works = true → (vget s.bb.points k).owner = some o → o.req.write = true → o.withheld = true → o.start + s.get F.BB_LOCKUP_CFG_CYCLES ≤ s.clk.now →
    64 ≤ o.req.master → o.req.master < 88 → s.flag (F.RGN_CTRL_FAULT_RESET (o.req.master - 64)) = false → s.get (F.RGN_STATUS_STATE (o.req.master - 64)) ≠ 2 →
    Answers (.backboneLockup k) s fun t => t.flag F.BB_STATUS_LOCKUP = true ∧ isFenced t o.req.master = true ∧
      (s.flag F.BB_LOCKUP_LOG_VALID = false → t.flag F.BB_LOCKUP_LOG_VALID = true ∧ t.get F.BB_LOCKUP_LOG_MASTER = o.req.master) ∧
      (s.flag F.BB_LOCKUP_LOG_VALID = true → t.rd R.BB_LOCKUP_LOG = s.rd R.BB_LOCKUP_LOG) ∧ (vget t.bb.points k).owner = none ∧
      (∀ r ∈ (vget t.bb.points k).pending, r.master ≠ o.req.master) ∧ (∀ i : Fin 64, (vget s.bb.locks i).owner = some o.req.master → vget t.bb.locks i = ⟨none, true⟩) ∧
      (∀ i : Fin 64, (vget s.bb.locks i).owner ≠ some o.req.master → vget t.bb.locks i = vget s.bb.locks i))

/-- Rules, locks and slave windows (R431 to R434, R697, R698, R700 to R704, R716): a rule commit copies the staged rules and ENFORCE, which are in effect
from the end of its core cycle, and counts the version;
DRAINED returns with the last access of an older set; a lock goes to the first reader, only its owner releases it, FORCE with the key
frees it and marks it ABANDONED; a slave port's oldest access is answered, with UNMAPPED when the region does not run, or ends with BUS_ERR after
10 us. -/
def Obligations.RulesAndLocks : Prop := ∀ (s : State) (p : Partner) (m : Fin 128) (k : Fin 64) (v : Word) (port : Fin 32) (data : List Byte),
  (s.admits p R.BB_RULE_COMMIT → Answers (.bbRuleCommit p v) s fun t => t.told p .ok 0 ∧ t.bb.enforce = s.flag F.BB_RULE_CTRL_ENF_ENFORCE ∧ ruleSet t = ruleSet s ∧
    (∀ (c : Clk) (i : Fin 512), c.now ≠ s.clk.now →
      activeRule { t with clk := c } (R.BB_RULE_BASE_LO 0 + 4 * i.val) = (s.rd (R.BB_RULE_BASE_LO 0 + 4 * i.val)).toNat) ∧ t.bb.version = s.bb.version + 1 ∧
    t.get F.BB_RULE_VERSION_VERSION = (s.get F.BB_RULE_VERSION_VERSION + 1) % 65536 ∧
    t.flag F.BB_RULE_DRAINED_DRAINED = (s.flag F.BB_RULE_DRAINED_DRAINED && s.bb.inFlight.all (fun x => x.2 == s.bb.version + 1)) ∧
    t.bb.points = s.bb.points ∧ t.bb.bursts = s.bb.bursts ∧ Keeps s t [.resp, .bb] [R.BB_RULE_VERSION, R.BB_RULE_DRAINED]) ∧
  ((∀ x ∈ s.bb.inFlight, x.2 = s.bb.version) → Answers .rulesDrained s fun t => t.flag F.BB_RULE_DRAINED_DRAINED = true ∧ Keeps s t [] [R.BB_RULE_DRAINED]) ∧
  ((∃ x ∈ s.bb.inFlight, x.2 ≠ s.bb.version) → exec .rulesDrained s = .next s) ∧
  (masterMay s m.val = true → masterGate s m.val (R.BB_LOCK k.val) = none → rulesPass s m.val (R.BB_LOCK k.val) false = true → (vget s.bb.locks k).owner = none →
    Answers (.lockAcquire m k) s fun t => t.resp = some ⟨answerTo m.val, .ok, BitVec.ofNat 32 (2 ^ 31 + 2 ^ 30 * b2n (vget s.bb.locks k).abandoned + m.val)⟩ ∧
      vget t.bb.locks k = ⟨some m.val, false⟩ ∧ (∀ j : Fin 64, j ≠ k → vget t.bb.locks j = vget s.bb.locks j) ∧ Keeps s t [.resp, .bb] []) ∧
  (∀ (o : Nat), masterMay s m.val = true → masterGate s m.val (R.BB_LOCK k.val) = none → rulesPass s m.val (R.BB_LOCK k.val) false = true →
    (vget s.bb.locks k).owner = some o → exec (.lockAcquire m k) s = .next (s.answer (answerTo m.val) .ok
      (BitVec.ofNat 32 (2 ^ 31 * b2n (o == m.val) + 2 ^ 30 * b2n (vget s.bb.locks k).abandoned + o)))) ∧
  (masterMay s m.val = true → masterGate s m.val (R.BB_LOCK k.val) = none → rulesPass s m.val (R.BB_LOCK k.val) true = true → (vget s.bb.locks k).owner = some m.val →
    v.getLsbD 1 = false → Answers (.lockRelease m k v) s fun t => t.resp = some ⟨answerTo m.val, .ok, 0⟩ ∧ (vget t.bb.locks k).owner = none ∧
      (vget t.bb.locks k).abandoned = (vget s.bb.locks k).abandoned ∧ (∀ j : Fin 64, j ≠ k → vget t.bb.locks j = vget s.bb.locks j) ∧ Keeps s t [.resp, .bb] []) ∧
  (masterMay s m.val = true → masterGate s m.val (R.BB_LOCK k.val) = none → rulesPass s m.val (R.BB_LOCK k.val) true = true → (vget s.bb.locks k).owner ≠ some m.val →
    v.getLsbD 1 = false → Answers (.lockRelease m k v) s fun t => t.resp = some ⟨answerTo m.val, .ok, 0⟩ ∧ t.flag F.BB_STATUS_LOCK_ERR = true ∧ t.bb = s.bb ∧
      Keeps s t [.resp] [R.BB_STATUS]) ∧
  (masterMay s m.val = true → masterGate s m.val (R.BB_LOCK k.val) = none → rulesPass s m.val (R.BB_LOCK k.val) true = true → (vget s.bb.locks k).owner ≠ none →
    v &&& 0xFF00 = 0xA500 → Answers (.lockForce m k v) s fun t => t.resp = some ⟨answerTo m.val, .ok, 0⟩ ∧ vget t.bb.locks k = ⟨none, true⟩ ∧
      (∀ j : Fin 64, j ≠ k → vget t.bb.locks j = vget s.bb.locks j) ∧ t.evc = (raise 250 s).evc ∧ Keeps s t [.resp, .bb, .evc] []) ∧
  (masterMay s m.val = true → masterGate s m.val (R.BB_LOCK k.val) = none → rulesPass s m.val (R.BB_LOCK k.val) true = true →
    (vget s.bb.locks k).owner = none ∧ v &&& 0xFF00 = 0xA500 ∨ v &&& 0xFF01 = 0xA400 → exec (.lockForce m k v) s = .next (s.answer (answerTo m.val) .ok 0)) ∧
  (∀ (a : SlvAcc) (q : Nat), s.fab.slv.find? (fun x => x.port == port.val) = some a → regionRunning s (regionOfPort port.val) = true →
    (s.bb.bursts.find? (fun b => b.req.id == a.id)).map (fun b => b.req.origin) = some (.fabric q) →
    Settles (.fabricSlaveAccess port data) s fun t => t.resp.map (fun x => (x.who, x.status)) = some (Requester.master q, Status.ok) ∧
      (((s.bb.bursts.find? (fun b => b.req.id == a.id)).map (fun b => (b.req.write, b.req.len))) = some (false, data.length) →
        t.resp = some ⟨.master q, .ok, BitVec.ofNat 32 (leNat data)⟩) ∧ t.fab.slv = s.fab.slv.erase a ∧ Keeps s t [.resp, .fab, .bb] []) ∧
  (∀ (a : SlvAcc) (q : Nat), s.fab.slv.find? (fun x => x.port == port.val) = some a → a.since + 10000 ≤ s.clk.now →
    (s.bb.bursts.find? (fun b => b.req.id == a.id)).map (fun b => b.req.origin) = some (.fabric q) →
    Settles (.fabricSlaveTimeout port) s fun t => t.resp = some ⟨.master q, .busErr, 0⟩ ∧ t.fab.slv = s.fab.slv.erase a ∧
      t.get (F.FAB_SLV_TIMEOUT_TIMEOUT port.val) = min (s.get (F.FAB_SLV_TIMEOUT_TIMEOUT port.val) + 1) 65535 ∧
      Keeps s t [.resp, .fab, .bb] [R.FAB_SLV_TIMEOUT port.val]) ∧
  (∀ (a : SlvAcc) (q : Nat), s.fab.slv.find? (fun x => x.port == port.val) = some a → regionRunning s (regionOfPort port.val) = false →
    (s.bb.bursts.find? (fun b => b.req.id == a.id)).map (fun b => b.req.origin) = some (.fabric q) →
    Settles (.fabricSlaveAccess port data) s fun t => t.resp = some ⟨.master q, .unmapped, 0⟩ ∧ t.fab.slv = s.fab.slv.erase a ∧ Keeps s t [.resp, .fab, .bb] []) ∧
  (s.fab.slv.find? (fun x => x.port == port.val) = none → exec (.fabricSlaveAccess port data) s = .next s ∧ exec (.fabricSlaveTimeout port) s = .next s) ∧
  (∀ (a : SlvAcc), s.fab.slv.find? (fun x => x.port == port.val) = some a → s.clk.now < a.since + 10000 → exec (.fabricSlaveTimeout port) s = .next s)

/-! ### The Taper cores (12_taper_cores.md) -/

namespace Sys2Proof.Machine

/-- Core `n` may execute, is Running, and has fetched the instruction (R630, R638, R643). -/
abbrev Fetches (s : State) (n : Fin 8) (i : TInstr) : Prop :=
  tprMay s n.val = true ∧ tprState s n.val = 1 ∧ (tprFetch s n.val).2 = false ∧ decodeTaper (tprFetch s n.val).1 = some i

/-- Core `n` becomes the given core and goes on behind the instruction, or where the loop ends that fall on it lead (R622, R637, R643); nothing
else in the part changes. -/
abbrev Stepped (s t : State) (n : Fin 8) (c : TaperCore) : Prop :=
  t.tpr = vset s.tpr n (TaperCore.loopEnd (tprPc s n.val) 5 c ((tprPc s n.val + 1) % 16384)).1.age ∧
    t.get (F.TPR_PC_PC n.val) = (TaperCore.loopEnd (tprPc s n.val) 5 c ((tprPc s n.val + 1) % 16384)).2 % 16384 ∧ Keeps s t [.tpr] [R.TPR_PC n.val]

/-- sr with new C, V, Z and N from a 16-bit result (R629). -/
abbrev srOf (sr r : BitVec 16) (C V : Bool) : BitVec 16 :=
  (sr &&& 0xFFF0) ||| BitVec.ofNat 16 (b2n C + 2 * b2n V + 4 * b2n (r == 0) + 8 * b2n r.msb)

/-- A data register and sr are written (R629). -/
abbrev withD (c : TaperCore) (d : Fin 8) (r : BitVec 16) (C V : Bool) : TaperCore :=
  { c with regs := vset (vset c.regs (Fin.ofNat 40 d.val) r) 9 (srOf (vget c.regs 9) r C V) }

/-- A data register is written with only Z and N from it (R629). -/
abbrev withZN (c : TaperCore) (d : Fin 8) (r : BitVec 16) : TaperCore :=
  { c with regs := vset (vset c.regs (Fin.ofNat 40 d.val) r) 9 ((vget c.regs 9 &&& 0xFFF3) ||| BitVec.ofNat 16 (4 * b2n (r == 0) + 8 * b2n r.msb)) }

/-- An accumulator takes a 40-bit result (R627, R629): a result outside the range wraps, or saturates under SATM, and sets V and OVS; `keep` is false
for CMPA, which only sets the flags. -/
abbrev withAcc (c : TaperCore) (a : Fin 2) (e : Int) (V C keep : Bool) : TaperCore :=
  let off := decide (e < -549755813888 ∨ 549755813887 < e)
  let r : BitVec 40 := if off = true ∧ (vget c.regs 9).getLsbD 11 = true then (if e < 0 then 0x8000000000 else 0x7FFFFFFFFF) else BitVec.ofInt 40 e
  let sr := (vget c.regs 9 &&& 0xFFE0) ||| BitVec.ofNat 16 (b2n C + 2 * b2n (V || off) + 4 * b2n (r == 0) + 8 * b2n r.msb +
    16 * b2n (decide (r.toNat / 2 ^ 31 ≠ 0 ∧ r.toNat / 2 ^ 31 ≠ 511)))
  { c with acc := (if keep = true then vset c.acc a r else c.acc), regs := vset c.regs 9 (if off = true ∧ keep = true then sr ||| 0x80 else sr) }

/-- The carry out of bit 39 of a sum, and of a difference formed as a plus not b plus one (R629). -/
abbrev carrySum (x y : Int) : Bool := decide (2 ^ 40 ≤ (BitVec.ofInt 40 x).toNat + (BitVec.ofInt 40 y).toNat)
abbrev carryDiff (x y : Int) : Bool := decide ((BitVec.ofInt 40 y).toNat ≤ (BitVec.ofInt 40 x).toNat)

/-- CLIPPED sets (R619, R635). -/
abbrev clipped (c : TaperCore) : TaperCore := { c with regs := vset c.regs 9 (vget c.regs 9 ||| 0x40) }

end Sys2Proof.Machine

/-- The d-register instructions (R629, R635): each writes its result to its destination and C, V, Z and N to sr, and changes nothing else but the pc
and what a loop end changes; CMP writes only the flags. -/
def Obligations.TaperAlu : Prop := ∀ (s : State) (n : Fin 8) (d a b : Fin 8) (k : Fin 16) (imm : BitVec 16),
  (let c := vget s.tpr n;
    let x := c.regs[a.val]
    let y := c.regs[b.val]
    Fetches s n (.add d.val a.val b.val) → Answers (.taperAdd n) s fun t => Stepped s t n (withD c d (x + y) (decide (65536 ≤ x.toNat + y.toNat)) (decide ((x + y).toInt ≠ x.toInt + y.toInt)))) ∧
  (let c := vget s.tpr n;
    let x := c.regs[a.val]
    let y := c.regs[b.val]
    Fetches s n (.sub d.val a.val b.val) → Answers (.taperSub n) s fun t => Stepped s t n (withD c d (x - y) (decide (y.toNat ≤ x.toNat)) (decide ((x - y).toInt ≠ x.toInt - y.toInt)))) ∧
  (let c := vget s.tpr n;
    let x := c.regs[a.val]
    let y := c.regs[b.val]
    Fetches s n (.and d.val a.val b.val) → Answers (.taperAnd n) s fun t => Stepped s t n (withD c d (x &&& y) (false) (false))) ∧
  (let c := vget s.tpr n;
    let x := c.regs[a.val]
    let y := c.regs[b.val]
    Fetches s n (.or d.val a.val b.val) → Answers (.taperOr n) s fun t => Stepped s t n (withD c d (x ||| y) (false) (false))) ∧
  (let c := vget s.tpr n;
    let x := c.regs[a.val]
    let y := c.regs[b.val]
    Fetches s n (.xor d.val a.val b.val) → Answers (.taperXor n) s fun t => Stepped s t n (withD c d (x ^^^ y) (false) (false))) ∧
  (let c := vget s.tpr n;
    let x := c.regs[a.val]
    Fetches s n (.shl d.val a.val k.val) → Answers (.taperShl n) s fun t => Stepped s t n (withD c d (x <<< k.val) (decide (k.val ≠ 0 ∧ x.getLsbD (16 - k.val) = true)) false)) ∧
  (let c := vget s.tpr n;
    let x := c.regs[a.val]
    Fetches s n (.shr d.val a.val k.val) → Answers (.taperShr n) s fun t => Stepped s t n (withD c d (x >>> k.val) (decide (k.val ≠ 0 ∧ x.getLsbD (k.val - 1) = true)) false)) ∧
  (let c := vget s.tpr n;
    let x := c.regs[a.val]
    Fetches s n (.shra d.val a.val k.val) → Answers (.taperShra n) s fun t => Stepped s t n (withD c d (x.sshiftRight k.val) (decide (k.val ≠ 0 ∧ x.getLsbD (k.val - 1) = true)) false)) ∧
  (let c := vget s.tpr n;
    let x := c.regs[a.val]
    Fetches s n (.addi d.val a.val imm.toNat) → Answers (.taperAddi n) s fun t =>
    Stepped s t n (withD c d (x + imm) (decide (65536 ≤ x.toNat + imm.toNat)) (decide ((x + imm).toInt ≠ x.toInt + imm.toInt)))) ∧
  (let c := vget s.tpr n;
    let x := c.regs[a.val]
    let y := c.regs[b.val]
    Fetches s n (.cmp a.val b.val) → Answers (.taperCmp n) s fun t => Stepped s t n
      { c with regs := vset c.regs 9 (srOf (vget c.regs 9) (x - y) (decide (y.toNat ≤ x.toNat)) (decide ((x - y).toInt ≠ x.toInt - y.toInt))) }) ∧
  (∀ (r : BitVec 16), let c := vget s.tpr n
    let x := c.regs[a.val]
    Fetches s n (.brev d.val a.val k.val) → (∀ i : Fin 16, r.getLsbD i.val = decide (i.val ≤ k.val ∧ x.getLsbD (k.val - i.val) = true)) →
    Answers (.taperBrev n) s fun t => Stepped s t n (withD c d r false false)) ∧
  (let c := vget s.tpr n;
    let x := c.regs[a.val]
    Fetches s n (.popc d.val a.val) → Answers (.taperPopc n) s fun t =>
    Stepped s t n (withD c d (BitVec.ofNat 16 ((List.range 16).countP fun i => x.getLsbD i)) false false))

/-- The accumulator instructions (R618, R619, R627 to R629, R635): each writes the 40-bit result, wrapped or saturated, with Z, N, G, V, C and OVS; CMPA
writes only flags; NORM, GETG and EXT write a d register with Z and N; CLIP and EXT set CLIPPED when they limit. -/
def Obligations.TaperAccumulators : Prop := ∀ (s : State) (n : Fin 8) (d e : Fin 2) (r q : Fin 8) (p : Fin 25),
  (let c := vget s.tpr n;
    let x := (vget c.acc d).toInt
    let y := (vget c.acc e).toInt
    Fetches s n (.adda d.val e.val) → Answers (.taperAdda n) s fun t => Stepped s t n (withAcc c d (x + y) false (carrySum x y) true)) ∧
  (let c := vget s.tpr n;
    let x := (vget c.acc d).toInt
    let y := (vget c.acc e).toInt
    Fetches s n (.suba d.val e.val) → Answers (.taperSuba n) s fun t => Stepped s t n (withAcc c d (x - y) false (carryDiff x y) true)) ∧
  (let c := vget s.tpr n;
    Fetches s n (.zero d.val) → Answers (.taperZero n) s fun t => Stepped s t n (withAcc c d 0 false false true)) ∧
  (let c := vget s.tpr n;
    let x := (vget c.acc d).toInt
    Fetches s n (.neg d.val) → Answers (.taperNeg n) s fun t => Stepped s t n (withAcc c d (-x) false (carryDiff 0 x) true)) ∧
  (let c := vget s.tpr n;
    let x := (vget c.acc d).toInt
    Fetches s n (.abs d.val) → Answers (.taperAbs n) s fun t => Stepped s t n (withAcc c d (if x < 0 then -x else x) false (decide (x < 0) && carryDiff 0 x) true)) ∧
  (let c := vget s.tpr n;
    let x := (vget c.acc d).toInt
    let h := (if (vget c.regs 9).getLsbD 13 = true ∧ x % 65536 = 0x8000 ∧ x / 65536 % 2 = 0 then 0 else 0x8000 : Int)
    Fetches s n (.round d.val) → Answers (.taperRound n) s fun t => Stepped s t n (withAcc c d ((x + h) / 65536 * 65536) false (carrySum x h) true)) ∧
  (let c := vget s.tpr n;
    let x := (vget c.acc d).toInt
    Fetches s n (.clip d.val) → Answers (.taperClip n) s fun t => Stepped s t n (if -2147483648 ≤ x ∧ x ≤ 2147483647 then withAcc c d x false false true
      else clipped (withAcc c d (if x < 0 then -2147483648 else 2147483647) false false true))) ∧
  (∀ (m : Int), let c := vget s.tpr n
    let x := (vget c.acc d).toInt
    Fetches s n (.sha d.val m) → Answers (.taperSha n) s fun t => Stepped s t n (if 0 ≤ m then withAcc c d (x * 2 ^ m.toNat) false (decide (m ≠ 0 ∧ (vget c.acc d).getLsbD (40 - m.toNat) = true)) true
      else withAcc c d (x / 2 ^ (-m).toNat) false false true)) ∧
  (let c := vget s.tpr n;
    let x := (vget c.acc d).toInt
    let q := (c.regs[r.val]).toInt
    let m := if q < -32 then -32 else if 31 < q then 31 else q
    Fetches s n (.shav d.val r.val) → Answers (.taperShav n) s fun t => Stepped s t n (if 0 ≤ m then withAcc c d (x * 2 ^ m.toNat) false (decide (m ≠ 0 ∧ (vget c.acc d).getLsbD (40 - m.toNat) = true)) true
      else withAcc c d (x / 2 ^ (-m).toNat) false false true)) ∧
  (∀ (k : Fin 40), let c := vget s.tpr n
    let x := vget c.acc e
    Fetches s n (.norm r.val e.val) → (∀ i : Fin 39, i.val < k.val → x.getLsbD (38 - i.val) = x.getLsbD 39) →
    k.val = 39 ∨ x.getLsbD (38 - k.val) ≠ x.getLsbD 39 → Answers (.taperNorm n) s fun t => Stepped s t n (withZN c r (BitVec.ofNat 16 k.val))) ∧
  (let c := vget s.tpr n;
    let x := (vget c.acc d).toInt
    let y := (vget c.acc e).toInt
    Fetches s n (.cmpa d.val e.val) → Answers (.taperCmpa n) s fun t => Stepped s t n (withAcc c d (x - y) false (carryDiff x y) false)) ∧
  (let c := vget s.tpr n;
    let y := (vget c.acc e).toInt
    Fetches s n (.mova d.val e.val) → Answers (.taperMova n) s fun t => Stepped s t n (withAcc c d y false false true)) ∧
  (let c := vget s.tpr n;
    let v := c.regs[r.val] ++ c.regs[q.val]
    Fetches s n (.pack d.val r.val q.val) → Answers (.taperPack n) s fun t => Stepped s t n (withAcc c d v.toInt false false true)) ∧
  (let c := vget s.tpr n;
    let v := BitVec.setWidth 8 (c.regs[r.val]) ++ BitVec.setWidth 32 (vget c.acc d)
    Fetches s n (.putg d.val r.val) → Answers (.taperPutg n) s fun t => Stepped s t n (withAcc c d v.toInt false false true)) ∧
  (let c := vget s.tpr n;
    let v := (vget c.acc e).toInt / 2 ^ 32
    Fetches s n (.getg r.val e.val) → Answers (.taperGetg n) s fun t => Stepped s t n (withZN c r (BitVec.ofInt 16 v))) ∧
  (let c := vget s.tpr n;
    let v := (vget c.acc e).toInt / 2 ^ p.val
    let cut := (vget c.regs 9).getLsbD 10 && decide (v < -32768 ∨ 32767 < v)
    Fetches s n (.ext r.val e.val p.val) → Answers (.taperExt n) s fun t => Stepped s t n (if cut = true then clipped (withZN c r (if v < 0 then 0x8000 else 0x7FFF)) else withZN c r (BitVec.ofInt 16 v)))

namespace Sys2Proof.Machine

/-- The product of two data registers (R626): `mixed` takes the second as unsigned; under QMODE it is doubled, and 0x8000 squared is limited. -/
abbrev productOf (c : TaperCore) (f : ParF) (mixed : Bool) : Int × Bool :=
  let p := (c.d f.s1).toInt * (if mixed = true then ((c.d f.s2).toNat : Int) else (c.d f.s2).toInt)
  if (vget c.regs 9).getLsbD 12 = true then (if mixed = false ∧ p = 1073741824 then (2147483647, true) else (2 * p, false)) else (p, false)

/-- No word that the instruction reads has a parity error (R616, R633, R634). -/
abbrev ParReadable (c : TaperCore) (f : ParF) : Prop :=
  (f.xm ≠ 7 → (c.address f.xp f.xm).1 ∉ c.badX) ∧ (f.ym ≠ 7 → (c.address f.yp f.ym).1 ∉ c.badY) ∧ (f.pb = true → c.ptr 7 ∉ c.badP)

/-- The loads of format P after the arithmetic (R623, R633, R634): X, then Y, then the pair of the P word at p7. -/
abbrev withLoads (c k : TaperCore) (f : ParF) : TaperCore :=
  let k := if f.xm = 7 then k else (k.setPtr f.xp (c.address f.xp f.xm).2).setD f.xd (c.xWord (c.address f.xp f.xm).1)
  let k := if f.ym = 7 then k else (k.setPtr f.yp (c.address f.yp f.ym).2).setD f.yd (c.yWord (c.address f.yp f.ym).1)
  if f.pb = true then ((k.setPtr 7 (some ((c.ptr 7 + 1) % 16384))).setD 6 ((c.pWord (c.ptr 7)).setWidth 16)).setD 7 ((c.pWord (c.ptr 7) >>> 16).setWidth 16)
  else k

end Sys2Proof.Machine

/-- The parallel instructions (R616, R626 to R629, R633 to R635): the arithmetic on the registers as they were, then the X and Y loads and the PB pair
with their pointer updates; a load whose word has a parity error halts the core with nothing done. The second carry that MACRN takes in
is the model's reading (log 84). -/
def Obligations.TaperParallel : Prop := ∀ (s : State) (n : Fin 8) (f : ParF),
  (let c := vget s.tpr n;
    Fetches s n (.par .par f) → ParReadable c f → Answers (.taperPar n) s fun t => Stepped s t n (withLoads c (c) f)) ∧
  (let c := vget s.tpr n;
    let p := productOf c f false
    Fetches s n (.par .mul f) → ParReadable c f → Answers (.taperMul n) s fun t => Stepped s t n (withLoads c (withAcc c (Fin.ofNat 2 f.a) p.1 p.2 false true) f)) ∧
  (let c := vget s.tpr n;
    let p := productOf c f false
    let x := (vget c.acc (Fin.ofNat 2 f.a)).toInt
    Fetches s n (.par .mac f) → ParReadable c f → Answers (.taperMac n) s fun t => Stepped s t n (withLoads c (withAcc c (Fin.ofNat 2 f.a) (x + p.1) p.2 (carrySum x p.1) true) f)) ∧
  (let c := vget s.tpr n;
    let p := productOf c f false
    let x := (vget c.acc (Fin.ofNat 2 f.a)).toInt
    Fetches s n (.par .msb f) → ParReadable c f → Answers (.taperMsb n) s fun t => Stepped s t n (withLoads c (withAcc c (Fin.ofNat 2 f.a) (x - p.1) p.2 (carryDiff x p.1) true) f)) ∧
  (let c := vget s.tpr n;
    let p := productOf c f false
    let x := (vget c.acc (Fin.ofNat 2 f.a)).toInt
    let out := decide (x + p.1 < -549755813888 ∨ 549755813887 < x + p.1)
    let y := (vget (withAcc c (Fin.ofNat 2 f.a) (x + p.1) false false true).acc (Fin.ofNat 2 f.a)).toInt
    let h := (if (vget c.regs 9).getLsbD 13 = true ∧ y % 65536 = 0x8000 ∧ y / 65536 % 2 = 0 then 0 else 0x8000 : Int)
    let k := if out = true then { c with regs := vset c.regs 9 (vget c.regs 9 ||| 0x80) } else c
    Fetches s n (.par .macrn f) → ParReadable c f → Answers (.taperMacrn n) s fun t => Stepped s t n (withLoads c (withAcc k (Fin.ofNat 2 f.a) ((y + h) / 65536 * 65536) (p.2 || out) (carrySum x p.1 || carrySum y h) true) f)) ∧
  (let c := vget s.tpr n;
    let p := productOf c f true
    let x := (vget c.acc (Fin.ofNat 2 f.a)).toInt
    Fetches s n (.par .macmx f) → ParReadable c f → Answers (.taperMacmx n) s fun t => Stepped s t n (withLoads c (withAcc c (Fin.ofNat 2 f.a) (x + p.1) p.2 (carrySum x p.1) true) f)) ∧
  (let c := vget s.tpr n;
    let x := (vget c.acc (Fin.ofNat 2 f.a)).toInt
    let h := (c.d f.s1).toInt * 65536
    Fetches s n (.par .addh f) → ParReadable c f → Answers (.taperAddh n) s fun t => Stepped s t n (withLoads c (withAcc c (Fin.ofNat 2 f.a) (x + h) false (carrySum x h) true) f)) ∧
  (let c := vget s.tpr n;
    let x := (vget c.acc (Fin.ofNat 2 f.a)).toInt
    let h := (c.d f.s1).toInt * 65536
    Fetches s n (.par .subh f) → ParReadable c f → Answers (.taperSubh n) s fun t => Stepped s t n (withLoads c (withAcc c (Fin.ofNat 2 f.a) (x - h) false (carryDiff x h) true) f)) ∧
  (let c := vget s.tpr n;
    Fetches s n (.par .mac f) → f.xm ≠ 7 → (c.address f.xp f.xm).1 ∈ c.badX → Answers (.taperMac n) s fun t =>
    tprState t n.val = 0 ∧ t.get (F.TPR_STATUS_HALT_CAUSE n.val) = 8 ∧ t.get (F.TPR_PC_PC n.val) = tprPc s n.val ∧
      (vget t.tpr n).regs = c.regs ∧ (vget t.tpr n).acc = c.acc)

namespace Sys2Proof.Machine

/-- A register is written (R617, R620, R621): lc is the top loop's count and ignores a write without one; sr keeps its writable bits, a base 14 and a
length 15. -/
abbrev withReg (c : TaperCore) (r : Nat) (v : BitVec 16) : TaperCore :=
  if r = 8 then { c with loops := c.loops.modifyHead fun l => { l with count := v.toNat } }
  else { c with regs := vset c.regs (Fin.ofNat 40 r) (v &&& (if r = 9 then 0x3CDF else if 32 ≤ r ∧ r < 36 then 0x3FFF else if 36 ≤ r then 0x7FFF else 0xFFFF)) }

/-- The address that a mode uses (R623). -/
abbrev addrOf (c : TaperCore) (k m : Fin 8) : Nat :=
  let p := (vget c.regs (Fin.ofNat 40 (16 + k.val))).toNat % 16384
  if m = 6 then (((p : Int) + (vget c.regs (Fin.ofNat 40 (24 + k.val))).toInt) % 16384).toNat else p

/-- The pointer after an access in a mode (R623 to R625). -/
abbrev withPtr (c : TaperCore) (k m : Fin 8) : TaperCore :=
  let p := (vget c.regs (Fin.ofNat 40 (16 + k.val))).toNat % 16384
  let i := (vget c.regs (Fin.ofNat 40 (24 + k.val))).toInt
  let bas : Int := (vget c.regs (Fin.ofNat 40 (32 + k.val % 4))).toNat
  let len : Int := (vget c.regs (Fin.ofNat 40 (36 + k.val % 4))).toNat
  let q : Int := p + i
  let v : Nat := if m = 1 then (p + 1) % 16384 else if m = 2 then (p + 16383) % 16384 else if m = 3 then (q % 16384).toNat
    else if m = 4 then ((if len = 0 then q else if bas + len ≤ q then q - len else if q < bas then q + len else q) % 16384).toNat
    else ((BitVec.ofNat 14 p).reverse + (BitVec.ofInt 14 i).reverse).reverse.toNat
  if 1 ≤ m.val ∧ m.val ≤ 5 then { c with regs := vset c.regs (Fin.ofNat 40 (16 + k.val)) (BitVec.ofNat 16 v) } else c

end Sys2Proof.Machine

/-- Moves, loads, stores, pointer updates and MODE (R616, R617, R620 to R625, R635, R643): each gives its register, memory word or pair its value and its pointer
the update of its mode, and changes no other register, accumulator or word; a read that finds a parity error halts the core in place. -/
def Obligations.TaperMoves : Prop := ∀ (s : State) (n : Fin 8) (r q : Fin 40) (y : Bool) (k m : Fin 8) (a : Fin 16384) (i : Fin 4) (imm : BitVec 16) (mask v : BitVec 8),
  (let c := vget s.tpr n;
    Fetches s n (.movi r.val imm.toNat) → Answers (.taperMovi n) s fun t => Stepped s t n (withReg c r.val imm)) ∧
  (let c := vget s.tpr n;
    Fetches s n (.mov r.val q.val) → Answers (.taperMov n) s fun t => Stepped s t n (withReg c r.val (c.reg (tprPc s n.val) q.val))) ∧
  (let c := vget s.tpr n;
    Fetches s n (.ld r.val y k.val m.val) → addrOf c k m ∉ (if y = true then c.badY else c.badX) → Answers (.taperLd n) s fun t =>
    Stepped s t n (withReg (withPtr c k m) r.val (if y = true then c.yWord (addrOf c k m) else c.xWord (addrOf c k m)))) ∧
  (let c := vget s.tpr n;
    Fetches s n (.ldi r.val y a.val) → a.val ∉ (if y = true then c.badY else c.badX) → Answers (.taperLdi n) s fun t =>
    Stepped s t n (withReg c r.val (if y = true then c.yWord a.val else c.xWord a.val))) ∧
  (let c := vget s.tpr n;
    Fetches s n (.st r.val y k.val m.val) → Answers (.taperSt n) s fun t =>
    Stepped s t n (withPtr (c.putData y (addrOf c k m) (c.reg (tprPc s n.val) r.val)) k m) ∧
    (∀ x : Fin 16384, (vget t.tpr n).xWord x.val = if y = false ∧ x.val = addrOf c k m then c.reg (tprPc s n.val) r.val else c.xWord x.val) ∧
    (∀ x : Fin 16384, (vget t.tpr n).yWord x.val = if y = true ∧ x.val = addrOf c k m then c.reg (tprPc s n.val) r.val else c.yWord x.val)) ∧
  (let c := vget s.tpr n;
    Fetches s n (.sti r.val y a.val) → Answers (.taperSti n) s fun t => Stepped s t n (c.putData y a.val (c.reg (tprPc s n.val) r.val)) ∧
    (∀ x : Fin 16384, (vget t.tpr n).xWord x.val = if y = false ∧ x = a then c.reg (tprPc s n.val) r.val else c.xWord x.val) ∧
    (∀ x : Fin 16384, (vget t.tpr n).yWord x.val = if y = true ∧ x = a then c.reg (tprPc s n.val) r.val else c.yWord x.val)) ∧
  (let c := vget s.tpr n;
    Fetches s n (.ldp i.val k.val m.val) → addrOf c k m ∉ c.badP → Answers (.taperLdp n) s fun t =>
    Stepped s t n (withReg (withReg (withPtr c k m) (2 * i.val) ((c.pWord (addrOf c k m)).setWidth 16)) (2 * i.val + 1) ((c.pWord (addrOf c k m) >>> 16).setWidth 16))) ∧
  (let c := vget s.tpr n;
    Fetches s n (.stp i.val k.val m.val) → (∀ x ∈ c.stale, x.addr ≠ addrOf c k m) → Answers (.taperStp n) s fun t =>
    Stepped s t n { withPtr (c.putP (addrOf c k m) (c.regs[2 * i.val + 1] ++ c.regs[2 * i.val]) false) k m with stale := ⟨addrOf c k m, c.pWord (addrOf c k m), 3⟩ :: c.stale } ∧
    ∀ x : Fin 16384, (vget t.tpr n).pWord x.val = if x.val = addrOf c k m then c.regs[2 * i.val + 1] ++ c.regs[2 * i.val] else c.pWord x.val) ∧
  (let c := vget s.tpr n;
    Fetches s n (.lea k.val m.val) → Answers (.taperLea n) s fun t => Stepped s t n (withPtr c k m)) ∧
  (let c := vget s.tpr n;
    Fetches s n (.mode mask.toNat v.toNat) → Answers (.taperMode n) s fun t =>
    Stepped s t n { c with regs := vset c.regs 9 (((c.regs[9] &&& ~~~ (mask.setWidth 16 <<< 8)) ||| ((v &&& mask).setWidth 16 <<< 8)) &&& 0x3CDF) }) ∧
  (let c := vget s.tpr n;
    Fetches s n (.ld r.val y k.val m.val) → addrOf c k m ∈ (if y = true then c.badY else c.badX) → Answers (.taperLd n) s fun t =>
    tprState t n.val = 0 ∧ t.get (F.TPR_STATUS_HALT_CAUSE n.val) = 8 ∧ t.get (F.TPR_PC_PC n.val) = tprPc s n.val ∧ (vget t.tpr n).regs = c.regs ∧ (vget t.tpr n).acc = c.acc)

namespace Sys2Proof.Machine

/-- Core `n` becomes the given core and goes on at a target (R622); loop ends that fall on the instruction still count. -/
abbrev Jumped (s t : State) (n : Fin 8) (c : TaperCore) (a : Nat) : Prop :=
  t.tpr = vset s.tpr n (TaperCore.loopEnd (tprPc s n.val) 5 c ((tprPc s n.val + 1) % 16384)).1.age ∧ t.get (F.TPR_PC_PC n.val) = a % 16384 ∧
    Keeps s t [.tpr] [R.TPR_PC n.val]

/-- Core `n` waits at the WAITEV that it has fetched (R645, R647). -/
abbrev Waits (s : State) (n : Fin 8) (i : TInstr) : Prop :=
  tprMay s n.val = true ∧ tprState s n.val = 2 ∧ (tprFetch s n.val).2 = false ∧ decodeTaper (tprFetch s n.val).1 = some i

/-- Core `n` runs on from a wait behind the instruction: its watchdog counts on from now (R647, R653). -/
abbrev Resumed (s t : State) (n : Fin 8) (c : TaperCore) : Prop :=
  tprState t n.val = 1 ∧ t.tpr = vset s.tpr n (TaperCore.loopEnd (tprPc s n.val) 5 { c with wdogFrom := s.elapsed } ((tprPc s n.val + 1) % 16384)).1.age ∧
    t.get (F.TPR_PC_PC n.val) = (TaperCore.loopEnd (tprPc s n.val) 5 c ((tprPc s n.val + 1) % 16384)).2 % 16384

/-- Core `n` halts in place with a cause, and source 176 + 2n is raised (R656). -/
abbrev HaltsAt (s t : State) (n : Fin 8) (cause pc : Nat) : Prop :=
  tprState t n.val = 0 ∧ t.get (F.TPR_STATUS_HALT_CAUSE n.val) = cause ∧ t.get (F.TPR_PC_PC n.val) = pc ∧ (vget t.tpr n).regs = (vget s.tpr n).regs ∧
    (vget t.tpr n).acc = (vget s.tpr n).acc ∧ (vget t.tpr n).calls = (vget s.tpr n).calls ∧ (vget t.tpr n).xram = (vget s.tpr n).xram ∧
    (vget t.tpr n).yram = (vget s.tpr n).yram ∧ (vget t.tpr n).pram = (vget s.tpr n).pram ∧ (∀ j : Fin 8, j ≠ n → vget t.tpr j = vget s.tpr j) ∧
    t.evc = (raise (176 + 2 * n.val) s).evc ∧ Keeps s t [.tpr, .evc] [R.TPR_PC n.val, R.TPR_STATUS n.val]

/-- A condition holds (R632). -/
abbrev Holds (sr : BitVec 16) (k : Nat) : Prop :=
  let C := sr.getLsbD 0
  let V := sr.getLsbD 1
  let Z := sr.getLsbD 2
  let N := sr.getLsbD 3
  let G := sr.getLsbD 4
  k = 0 ∨ k = 1 ∧ Z = true ∨ k = 2 ∧ Z = false ∨ k = 3 ∧ N = true ∨ k = 4 ∧ N = false ∨ k = 5 ∧ N = false ∧ Z = false ∨ k = 6 ∧ (N = true ∨ Z = true) ∨
    k = 7 ∧ C = true ∨ k = 8 ∧ C = false ∨ k = 9 ∧ V = true ∨ k = 10 ∧ V = false ∨ k = 11 ∧ G = true ∨ k = 12 ∧ G = false

end Sys2Proof.Machine

/-- Control instructions (R621, R622, R630, R632, R635 to R637, R641, R647 to R649, R653, R656): jumps, calls, loops and loop ends, events, the watchdog, DMA, halts with
their causes, and the illegal instruction; a full or empty stack halts the core in place. -/
def Obligations.TaperControl : Prop := ∀ (s : State) (n : Fin 8) (k : Fin 16) (a : Fin 16384) (d : Fin 8) (imm : BitVec 16) (body : Fin 1024) (r : Fin 40) (nb : Bool) (code : Byte) (ch : Fin 2),
  (let c := vget s.tpr n;
    Fetches s n .nop → Answers (.taperNop n) s fun t => Stepped s t n c) ∧
  (∀ (l : Loop) (rest : List Loop), Fetches s n .nop → (vget s.tpr n).loops = l :: rest → l.last = tprPc s n.val → 1 < l.count → l.count < 65536 → Answers (.taperNop n) s fun t =>
    (vget t.tpr n).loops = { l with count := l.count - 1 } :: rest ∧ t.get (F.TPR_PC_PC n.val) = l.first % 16384) ∧
  (∀ (l : Loop) (rest : List Loop), Fetches s n .nop → (vget s.tpr n).loops = l :: rest → l.last = tprPc s n.val → l.count = 1 → (rest.all fun x => x.last != tprPc s n.val) = true → Answers (.taperNop n) s fun t =>
    (vget t.tpr n).loops = rest ∧ t.get (F.TPR_PC_PC n.val) = (tprPc s n.val + 1) % 16384) ∧
  (Fetches s n .halt → (vget s.tpr n).loops = [] → Answers (.taperHalt n) s fun t => HaltsAt s t n 1 ((tprPc s n.val + 1) % 16384)) ∧
  (Fetches s n .bkpt → (vget s.tpr n).loops = [] → Answers (.taperBkpt n) s fun t => HaltsAt s t n 2 ((tprPc s n.val + 1) % 16384)) ∧
  (let c := vget s.tpr n;
    Fetches s n (.j k.val a.val) → Answers (.taperJ n) s fun t => (Holds c.regs[9] k.val → Jumped s t n c a.val) ∧ (¬ Holds c.regs[9] k.val → Stepped s t n c)) ∧
  (let c := vget s.tpr n;
    Fetches s n (.call k.val a.val) → c.calls.length < 8 ∨ ¬ Holds c.regs[9] k.val → Answers (.taperCall n) s fun t =>
    (Holds c.regs[9] k.val → Jumped s t n { c with calls := (tprPc s n.val + 1) % 16384 :: c.calls } a.val) ∧ (¬ Holds c.regs[9] k.val → Stepped s t n c)) ∧
  (let c := vget s.tpr n;
    Fetches s n (.call k.val a.val) → 8 ≤ c.calls.length → Holds c.regs[9] k.val → Answers (.taperCall n) s fun t => HaltsAt s t n 6 (tprPc s n.val)) ∧
  (∀ (ra : Nat) (cs : List Nat), let c := vget s.tpr n
    Fetches s n (.ret k.val) → c.calls = ra :: cs → Answers (.taperRet n) s fun t => (Holds c.regs[9] k.val → Jumped s t n { c with calls := cs } ra) ∧ (¬ Holds c.regs[9] k.val → Stepped s t n c)) ∧
  (let c := vget s.tpr n;
    Fetches s n (.ret k.val) → c.calls = [] → Answers (.taperRet n) s fun t => (Holds c.regs[9] k.val → HaltsAt s t n 6 (tprPc s n.val)) ∧ (¬ Holds c.regs[9] k.val → Stepped s t n c)) ∧
  (let c := vget s.tpr n;
    Fetches s n (.jr d.val) → Answers (.taperJr n) s fun t => Jumped s t n c (vget c.regs (Fin.ofNat 40 (16 + d.val))).toNat) ∧
  (let c := vget s.tpr n;
    Fetches s n (.loop imm.toNat body.val) → imm ≠ 0 → c.loops.length < 4 → Answers (.taperLoop n) s fun t =>
    (vget t.tpr n).loops.map (fun l => (l.count, l.first, l.last)) = (imm.toNat, (tprPc s n.val + 1) % 16384, (tprPc s n.val + 1 + body.val) % 16384) :: c.loops.map (fun l => (l.count, l.first, l.last)) ∧
    t.get (F.TPR_PC_PC n.val) = (tprPc s n.val + 1) % 16384 ∧ (vget t.tpr n).regs = c.regs ∧ (vget t.tpr n).acc = c.acc ∧ Keeps s t [.tpr] [R.TPR_PC n.val]) ∧
  (let c := vget s.tpr n;
    Fetches s n (.loop imm.toNat body.val) → imm = 0 → Answers (.taperLoop n) s fun t => Jumped s t n c (tprPc s n.val + body.val + 2)) ∧
  (let c := vget s.tpr n;
    Fetches s n (.loop imm.toNat body.val) → imm ≠ 0 → 4 ≤ c.loops.length → Answers (.taperLoop n) s fun t => HaltsAt s t n 7 (tprPc s n.val)) ∧
  (let c := vget s.tpr n;
    Fetches s n (.loopr r.val body.val) → c.reg (tprPc s n.val) r.val ≠ 0 → c.loops.length < 4 → Answers (.taperLoopr n) s fun t =>
    (vget t.tpr n).loops.map (fun l => (l.count, l.first, l.last)) = ((c.reg (tprPc s n.val) r.val).toNat, (tprPc s n.val + 1) % 16384, (tprPc s n.val + 1 + body.val) % 16384) :: c.loops.map (fun l => (l.count, l.first, l.last)) ∧
    t.get (F.TPR_PC_PC n.val) = (tprPc s n.val + 1) % 16384 ∧ (vget t.tpr n).regs = c.regs ∧ (vget t.tpr n).acc = c.acc ∧ Keeps s t [.tpr] [R.TPR_PC n.val]) ∧
  (let c := vget s.tpr n;
    Fetches s n (.loopr r.val body.val) → c.reg (tprPc s n.val) r.val = 0 → Answers (.taperLoopr n) s fun t => Jumped s t n c (tprPc s n.val + body.val + 2)) ∧
  (∀ (l : Loop) (rest : List Loop), let c := vget s.tpr n
    Fetches s n .leave → c.loops = l :: rest → Answers (.taperLeave n) s fun t => Jumped s t n { c with loops := rest } (l.last + 1)) ∧
  (∀ (ev : Nat), let c := vget s.tpr n
    Fetches s n (.waitev d.val nb) → s.evc.lowestFor (1 + n.val) = some ev → Answers (.taperWaitev n) s fun t => t.evc = s.evc.take s.evcEnv ev ∧
    t.tpr = vset s.tpr n (TaperCore.loopEnd (tprPc s n.val) 5 { c with regs := vset c.regs (Fin.ofNat 40 d.val) (BitVec.ofNat 16 ev) } ((tprPc s n.val + 1) % 16384)).1.age ∧
    Keeps s t [.tpr, .evc] [R.TPR_PC n.val]) ∧
  (let c := vget s.tpr n;
    Fetches s n (.waitev d.val nb) → s.evc.lowestFor (1 + n.val) = none → s.flag (F.TPR_MAILBOX_DOORBELL n.val) = true → Answers (.taperWaitev n) s fun t =>
    t.flag (F.TPR_MAILBOX_DOORBELL n.val) = false ∧ (vget t.tpr n).regs = vset c.regs (Fin.ofNat 40 d.val) 0x0100 ∧ (vget t.tpr n).acc = c.acc ∧
    Keeps s t [.tpr] [R.TPR_PC n.val, R.TPR_MAILBOX n.val]) ∧
  (let c := vget s.tpr n;
    Fetches s n (.waitev d.val true) → s.evc.lowestFor (1 + n.val) = none → s.flag (F.TPR_MAILBOX_DOORBELL n.val) = false → Answers (.taperWaitev n) s fun t =>
    Stepped s t n { c with regs := vset c.regs (Fin.ofNat 40 d.val) 0xFFFF }) ∧
  (let c := vget s.tpr n;
    Fetches s n (.waitev d.val false) → s.evc.lowestFor (1 + n.val) = none → s.flag (F.TPR_MAILBOX_DOORBELL n.val) = false → Answers (.taperWaitev n) s fun t =>
    tprState t n.val = 2 ∧ t.get (F.TPR_PC_PC n.val) = tprPc s n.val ∧ (vget t.tpr n).regs = c.regs ∧ Keeps s t [.tpr] [R.TPR_STATUS n.val]) ∧
  (∀ (ev : Nat), let c := vget s.tpr n
    Waits s n (.waitev d.val nb) → s.evc.lowestFor (1 + n.val) = some ev → Answers (.taperWaitev n) s fun t => t.evc = s.evc.take s.evcEnv ev ∧
    Resumed s t n { c with regs := vset c.regs (Fin.ofNat 40 d.val) (BitVec.ofNat 16 ev) } ∧ Keeps s t [.tpr, .evc] [R.TPR_PC n.val, R.TPR_STATUS n.val]) ∧
  (let c := vget s.tpr n;
    Waits s n (.waitev d.val nb) → s.evc.lowestFor (1 + n.val) = none → s.flag (F.TPR_MAILBOX_DOORBELL n.val) = true → Answers (.taperWaitev n) s fun t =>
    t.flag (F.TPR_MAILBOX_DOORBELL n.val) = false ∧ Resumed s t n { c with regs := vset c.regs (Fin.ofNat 40 d.val) 0x0100 } ∧
    Keeps s t [.tpr] [R.TPR_PC n.val, R.TPR_STATUS n.val, R.TPR_MAILBOX n.val]) ∧
  (Waits s n (.waitev d.val false) → s.evc.lowestFor (1 + n.val) = none → s.flag (F.TPR_MAILBOX_DOORBELL n.val) = false → exec (.taperWaitev n) s = .next s) ∧
  (let c := vget s.tpr n;
    Fetches s n (.evend d.val) → Answers (.taperEvend n) s fun t => let x := (vget c.regs (Fin.ofNat 40 d.val)).toNat
    (¬ (x < 256 ∧ (s.evc.source x).target = 1 + n.val) → t.evc = s.evc) ∧
    (x < 256 → (s.evc.source x).target = 1 + n.val → (s.evc.source x).state ≠ .inService → ∀ m : Fin 256, t.evc.source m.val = s.evc.source m.val) ∧
    (x < 256 → (s.evc.source x).target = 1 + n.val → (s.evc.source x).state = .inService → s.evcEnv.level253 = false → s.evcEnv.level255 = false →
      s.noneLostNow → t.evc.source x = { s.evc.source x with state := .idle, target := (s.evc.source x).cfgTarget } ∧
        ∀ m : Fin 256, m.val ≠ x → t.evc.source m.val = s.evc.source m.val) ∧
    t.tpr = vset s.tpr n (TaperCore.loopEnd (tprPc s n.val) 5 c ((tprPc s n.val + 1) % 16384)).1.age ∧ Keeps s t [.tpr, .evc] [R.TPR_PC n.val]) ∧
  (let c := vget s.tpr n;
    Fetches s n (.signal code.toNat) → Answers (.taperSignal n) s fun t => t.get (F.TPR_SIGNAL_CODE n.val) = code.toNat ∧ t.evc = (raise (176 + 2 * n.val) s).evc ∧
    t.tpr = vset s.tpr n (TaperCore.loopEnd (tprPc s n.val) 5 c ((tprPc s n.val + 1) % 16384)).1.age ∧ Keeps s t [.tpr, .evc] [R.TPR_PC n.val, R.TPR_SIGNAL n.val]) ∧
  (let c := vget s.tpr n;
    Fetches s n .wdog → Answers (.taperWdog n) s fun t => Stepped s t n { c with wdogRun := 0, wdogFrom := s.elapsed }) ∧
  (Fetches s n (.dma ch.val d.val) → (vget (vget s.tpr n).chans ch).busy = true → exec (.taperDma n) s = .next s) ∧
  (∀ (desc : Nat), let c := vget s.tpr n
    Fetches s n (.dma ch.val d.val) → desc = (vget c.regs (Fin.ofNat 40 (16 + d.val))).toNat % 16384 → (vget c.chans ch).busy = false → c.badY = [] →
    (c.yWord ((desc + 3) % 16384)).toNat % 4 = 0 → (c.yWord ((desc + 3) % 16384)) ≠ 0 → c.yWord ((desc + 4) % 16384) = 0 → (c.yWord ((desc + 5) % 16384)).toNat < 0xC000 → (c.yWord ((desc + 6) % 16384)).toNat < 8 →
    Answers (.taperDma n) s fun t => t.flag (F.TPR_DMA_STATUS_BUSY n.val ch.val) = true ∧ (vget (vget t.tpr n).chans ch).busy = true ∧ (vget (vget t.tpr n).chans ch).desc = desc ∧
    (vget (vget t.tpr n).chans ch).len = (c.yWord ((desc + 3) % 16384)).toNat ∧ (vget (vget t.tpr n).chans ch).toExt = (c.yWord ((desc + 6) % 16384)).getLsbD 0 ∧
    (vget (vget t.tpr n).chans ch).ext = (c.yWord desc).toNat + 2 ^ 16 * (c.yWord ((desc + 1) % 16384)).toNat + 2 ^ 32 * (c.yWord ((desc + 2) % 16384)).toNat ∧
    0 < (vget (vget t.tpr n).chans ch).issued ∧ (vget (vget t.tpr n).chans ch).issued ≤ 256) ∧
  (let c := vget s.tpr n;
    Fetches s n (.dmaw ch.val) → (vget c.chans ch).busy = false → Answers (.taperDmaw n) s fun t => Stepped s t n c) ∧
  (Fetches s n (.dmaw ch.val) → (vget (vget s.tpr n).chans ch).busy = true → exec (.taperDmaw n) s = .next s) ∧
  (tprMay s n.val = true → tprState s n.val = 1 → (tprFetch s n.val).2 = false → decodeTaper (tprFetch s n.val).1 = none →
    Answers (.taperIllegal n) s fun t => HaltsAt s t n 5 (tprPc s n.val))

/-- Host access to a core, its memories, DMA results and the watchdog (R614 to R616, R645, R646, R652 to R656, R662, R664): RUN starts a Halted core
with its watchdog at zero, is held while its Engine reset runs, and does nothing to a core that runs; HALT stops it with no event and stands over
RUN and STEP, RUN over STEP; STEP runs one instruction (stated of NOP and HALT); the doorbell sets, state words change only while it is Halted; an access reads or writes its words; a finished descriptor writes RESULT; an expired watchdog halts and fences the
core, or resets it. -/
def Obligations.TaperHost : Prop := ∀ (s : State) (p : Partner) (n : Fin 8) (ch : Fin 2) (v : Word),
  (s.admits p (R.TPR_CTRL n.val) → 0x20 + n.val ∉ s.rst.engines → tprState s n.val = 0 → v.getLsbD 30 = false → Answers (.taperRun p n v) s fun t => t.told p .ok 0 ∧
    tprState t n.val = 1 ∧ t.get (F.TPR_PC_PC n.val) = tprPc s n.val ∧ t.flag (F.TPR_CTRL_LOCKUP_ACT n.val) = v.getLsbD 8 ∧
    t.tpr = vset s.tpr n { vget s.tpr n with wdogRun := 0, wdogFrom := s.elapsed } ∧ Keeps s t [.resp, .tpr] [R.TPR_CTRL n.val, R.TPR_STATUS n.val]) ∧
  (s.admits p (R.TPR_CTRL n.val) → 0x20 + n.val ∈ s.rst.engines → v.getLsbD 30 = false → Answers (.taperRun p n v) s fun t => t.told p .ok 0 ∧
    t.flag (F.TPR_STATUS_ENABLE_PENDING n.val) = true ∧ tprState t n.val = tprState s n.val ∧ t.flag (F.TPR_CTRL_LOCKUP_ACT n.val) = v.getLsbD 8 ∧
    Keeps s t [.resp] [R.TPR_CTRL n.val, R.TPR_STATUS n.val]) ∧
  (s.admits p (R.TPR_CTRL n.val) → 0x20 + n.val ∉ s.rst.engines → tprState s n.val ≠ 0 → v.getLsbD 30 = false → Answers (.taperRun p n v) s fun t => t.told p .ok 0 ∧
    t.flag (F.TPR_CTRL_LOCKUP_ACT n.val) = v.getLsbD 8 ∧ Keeps s t [.resp] [R.TPR_CTRL n.val]) ∧
  (v.getLsbD 30 = true → exec (.taperRun p n v) s = exec (.taperHostHalt p n v) s ∧ exec (.taperStep p n v) s = exec (.taperHostHalt p n v) s) ∧
  (v.getLsbD 30 = false → v.getLsbD 31 = true → exec (.taperStep p n v) s = exec (.taperRun p n v) s) ∧
  (s.admits p (R.TPR_CTRL n.val) → 0x20 + n.val ∈ s.rst.engines → v.getLsbD 30 = false → v.getLsbD 31 = false → Answers (.taperStep p n v) s fun t =>
    t.told p .ok 0 ∧ t.flag (F.TPR_CTRL_LOCKUP_ACT n.val) = v.getLsbD 8 ∧ Keeps s t [.resp] [R.TPR_CTRL n.val]) ∧
  (s.admits p (R.TPR_CTRL n.val) → tprState s n.val ≠ 0 → Answers (.taperHostHalt p n v) s fun t => t.told p .ok 0 ∧ tprState t n.val = 0 ∧
    t.get (F.TPR_STATUS_HALT_CAUSE n.val) = 3 ∧ (vget t.tpr n).regs = (vget s.tpr n).regs ∧ (vget t.tpr n).acc = (vget s.tpr n).acc ∧
    (vget t.tpr n).loops = (vget s.tpr n).loops ∧ (vget t.tpr n).calls = (vget s.tpr n).calls ∧ Keeps s t [.resp, .tpr] [R.TPR_CTRL n.val, R.TPR_STATUS n.val]) ∧
  (s.admits p (R.TPR_CTRL n.val) → tprState s n.val = 0 → Answers (.taperHostHalt p n v) s fun t => t.told p .ok 0 ∧ tprState t n.val = 0 ∧ t.tpr = s.tpr ∧
    t.get (F.TPR_STATUS_HALT_CAUSE n.val) = s.get (F.TPR_STATUS_HALT_CAUSE n.val) ∧ Keeps s t [.resp] [R.TPR_CTRL n.val, R.TPR_STATUS n.val]) ∧
  (s.admits p (R.TPR_CTRL n.val) → 0x20 + n.val ∉ s.rst.engines → tprState s n.val = 0 → v.getLsbD 30 = false → v.getLsbD 31 = false → (tprFetch s n.val).2 = false →
    decodeTaper (tprFetch s n.val).1 = some .nop → (vget s.tpr n).loops = [] → Answers (.taperStep p n v) s fun t => t.told p .ok 0 ∧ tprState t n.val = 0 ∧
      t.get (F.TPR_STATUS_HALT_CAUSE n.val) = 4 ∧ t.get (F.TPR_PC_PC n.val) = (tprPc s n.val + 1) % 16384 ∧ (vget t.tpr n).regs = (vget s.tpr n).regs ∧
      (vget t.tpr n).acc = (vget s.tpr n).acc ∧ Keeps s t [.resp, .tpr] [R.TPR_CTRL n.val, R.TPR_STATUS n.val, R.TPR_PC n.val]) ∧
  (s.admits p (R.TPR_CTRL n.val) → 0x20 + n.val ∉ s.rst.engines → tprState s n.val = 0 → v.getLsbD 30 = false → v.getLsbD 31 = false → (tprFetch s n.val).2 = false →
    decodeTaper (tprFetch s n.val).1 = some .halt → (vget s.tpr n).loops = [] → Answers (.taperStep p n v) s fun t => t.told p .ok 0 ∧ tprState t n.val = 0 ∧
      t.get (F.TPR_STATUS_HALT_CAUSE n.val) = 1 ∧ t.get (F.TPR_PC_PC n.val) = (tprPc s n.val + 1) % 16384 ∧ t.evc = (raise (176 + 2 * n.val) s).evc) ∧
  (s.admits p (R.TPR_CTRL n.val) → 0x20 + n.val ∉ s.rst.engines → tprState s n.val ≠ 0 → v.getLsbD 30 = false → v.getLsbD 31 = false → Answers (.taperStep p n v) s fun t =>
    t.told p .ok 0 ∧ t.flag (F.TPR_STATUS_IGNORED n.val) = true ∧ tprState t n.val = tprState s n.val ∧ Keeps s t [.resp] [R.TPR_CTRL n.val, R.TPR_STATUS n.val]) ∧
  (s.admits p (R.TPR_MAILBOX n.val) → Answers (.taperDoorbell p n v) s fun t => t.told p .ok 0 ∧ t.flag (F.TPR_MAILBOX_DOORBELL n.val) = true ∧
    Keeps s t [.resp] [R.TPR_MAILBOX n.val]) ∧
  (s.admits p (R.TPR_CTRL n.val) → tprState s n.val = 0 → Answers (.taperStateWrite p n 0 v) s fun t => t.told p .ok 0 ∧ t.get (F.TPR_PC_PC n.val) = v.toNat % 16384 ∧
    Keeps s t [.resp] [R.TPR_PC n.val]) ∧
  (s.admits p (R.TPR_CTRL n.val) → tprState s n.val = 0 →
    (∀ r : Fin 8, Answers (.taperStateWrite p n ⟨r.val + 1, by omega⟩ v) s fun t => t.told p .ok 0 ∧
      t.tpr = vset s.tpr n { vget s.tpr n with regs := vset (vget s.tpr n).regs (Fin.ofNat 40 r.val) (v.setWidth 16) } ∧ Keeps s t [.resp, .tpr] []) ∧
    (∀ k : Fin 2, Answers (.taperStateWrite p n ⟨41 + 2 * k.val, by omega⟩ v) s fun t => t.told p .ok 0 ∧
      t.tpr = vset s.tpr n { vget s.tpr n with acc := vset (vget s.tpr n).acc k (BitVec.setWidth 8 (vget (vget s.tpr n).acc k >>> 32) ++ v) } ∧ Keeps s t [.resp, .tpr] []) ∧
    (∀ k : Fin 2, Answers (.taperStateWrite p n ⟨42 + 2 * k.val, by omega⟩ v) s fun t => t.told p .ok 0 ∧
      t.tpr = vset s.tpr n { vget s.tpr n with acc := vset (vget s.tpr n).acc k (BitVec.setWidth 8 v ++ BitVec.setWidth 32 (vget (vget s.tpr n).acc k)) } ∧ Keeps s t [.resp, .tpr] [])) ∧
  (∀ (w : Fin 45), s.admits p (R.TPR_CTRL n.val) → tprState s n.val ≠ 0 → Answers (.taperStateWrite p n w v) s fun t => t.told p .ok 0 ∧
    t.flag (F.TPR_STATUS_IGNORED n.val) = true ∧ t.tpr = s.tpr ∧ Keeps s t [.resp] [R.TPR_STATUS n.val]) ∧
  (∀ (ac : TprAcc), s.quiet → (vget s.tpr n).access.head? = some ac → ac.write = true → 0x10000 ≤ ac.off → ac.off % 2 = 0 → ac.off + ac.len ≤ 0x18000 → ac.len % 2 = 0 →
    s.flag F.RAS_INJ_CTRL_ARM = false → Answers (.taperMemoryAccess n) s fun t => (vget t.tpr n).access = (vget s.tpr n).access.tail ∧
      (∀ a : Fin 16384, (vget t.tpr n).xWord a.val = if ac.off ≤ 0x10000 + 2 * a.val ∧ 0x10000 + 2 * a.val < ac.off + ac.len
        then byteAt ac.data (0x10000 + 2 * a.val + 1 - ac.off) ++ byteAt ac.data (0x10000 + 2 * a.val - ac.off) else (vget s.tpr n).xWord a.val) ∧
      (vget t.tpr n).yram = (vget s.tpr n).yram ∧ (vget t.tpr n).pram = (vget s.tpr n).pram ∧ (vget t.tpr n).regs = (vget s.tpr n).regs) ∧
  (∀ (ac : TprAcc) (q : Nat), s.quiet → (vget s.tpr n).access.head? = some ac → ac.write = false → 0x10000 ≤ ac.off → ac.off % 2 = 0 → ac.off + ac.len ≤ 0x18000 → ac.len % 2 = 0 →
    (vget s.tpr n).badX = [] → (s.bb.bursts.find? (fun b => b.req.id == ac.id)).map (fun b => b.req.origin) = some (.fabric q) → Answers (.taperMemoryAccess n) s fun t =>
      t.resp = some ⟨.master q, .ok, BitVec.ofNat 32 (leNat ((List.range ac.len).map fun i => BitVec.ofNat 8 (((vget s.tpr n).xWord ((ac.off - 0x10000 + i) / 2)).toNat / 256 ^ (i % 2))))⟩ ∧
      t.tpr = vset s.tpr n { vget s.tpr n with access := (vget s.tpr n).access.tail } ∧ Keeps s t [.resp, .tpr, .bb] []) ∧
  (let k := vget (vget s.tpr n).chans ch;
    s.works = true → s.bb.done = [] → k.busy = true → k.issued = k.done → k.len ≤ k.done → k.chain = false →
    (∀ r ∈ s.stg.portB, r.agent ≠ 2 * n.val + ch.val) → Answers (.dmaDescriptorComplete n ch) s fun t =>
      (vget t.tpr n).yWord ((k.desc + 8) % 16384) = BitVec.ofNat 16 (if k.err = none then 1 else 3 + 256 * ((k.err.map Status.code).getD 0).toNat) ∧
      (∀ a : Fin 16384, a.val ≠ (k.desc + 8) % 16384 → (vget t.tpr n).yWord a.val = (vget s.tpr n).yWord a.val) ∧ (vget (vget t.tpr n).chans ch).busy = false ∧
      t.flag (F.TPR_DMA_STATUS_BUSY n.val ch.val) = false ∧ t.flag (F.TPR_DMA_STATUS_DONE n.val ch.val) = true ∧
      t.flag (F.TPR_DMA_STATUS_ERR n.val ch.val) = k.err.isSome ∧ t.evc = (if k.evt = true then raise (177 + 2 * n.val) s else s).evc ∧
      Keeps s t [.tpr, .evc] [R.TPR_DMA_STATUS n.val ch.val]) ∧
  (s.works = true → tprState s n.val = 1 → s.get (F.TPR_WDOG_LIMIT_US n.val) ≠ 0 → 1000 * s.get (F.TPR_WDOG_LIMIT_US n.val) ≤ tprCounted s n.val →
    s.flag (F.TPR_CTRL_LOCKUP_ACT n.val) = false → Answers (.taperWatchdogExpiry n) s fun t => tprState t n.val = 0 ∧ t.get (F.TPR_STATUS_HALT_CAUSE n.val) = 9 ∧
      t.flag (F.TPR_STATUS_LOCKUP n.val) = true ∧ t.flag (F.TPR_STATUS_FENCED n.val) = true ∧ isFenced t (8 + n.val) = true ∧
      (∀ k : Fin 2, (vget (vget t.tpr n).chans k).busy = false) ∧ (∀ i : Fin 64, (vget t.bb.locks i).owner ≠ some (8 + n.val)) ∧
      (vget t.tpr n).regs = (vget s.tpr n).regs ∧ (vget t.tpr n).acc = (vget s.tpr n).acc ∧ (∀ j : Fin 8, j ≠ n → vget t.tpr j = vget s.tpr j)) ∧
  (s.works = true → tprState s n.val = 1 → s.get (F.TPR_WDOG_LIMIT_US n.val) ≠ 0 → 1000 * s.get (F.TPR_WDOG_LIMIT_US n.val) ≤ tprCounted s n.val →
    s.flag (F.TPR_CTRL_LOCKUP_ACT n.val) = true → s.flag (F.TPR_STATUS_ENABLE_PENDING n.val) = false → Answers (.taperWatchdogExpiry n) s fun t =>
      tprState t n.val = 0 ∧ t.get (F.TPR_STATUS_HALT_CAUSE n.val) = 0 ∧ tprPc t n.val = 0 ∧ (vget t.tpr n).regs = Vector.replicate 40 0 ∧ (vget t.tpr n).acc = Vector.replicate 2 0 ∧
      isFenced t (8 + n.val) = false ∧ (vget t.tpr n).xram = (vget s.tpr n).xram ∧ (vget t.tpr n).yram = (vget s.tpr n).yram ∧ (vget t.tpr n).pram = (vget s.tpr n).pram ∧
      (∀ i : Fin 64, (vget t.bb.locks i).owner ≠ some (8 + n.val)) ∧ (∀ j : Fin 8, j ≠ n → vget t.tpr j = vget s.tpr j))

/-! ### The register space and the whole part (01_architecture.md, 21_address_map.md) -/

namespace Sys2Proof.Machine

/-- The registers to which a whole-word write does just what the access codes say, on the pages FIL, SVP and BFP, RGN, CLK, BB, MC and STG: every
register listed there but those whose write starts something of its own. -/
abbrev PlainReg (a : Nat) : Prop :=
  a % 4 = 0 ∧ findRow a ≠ none ∧
    ((0x00F000010000 ≤ a ∧ a < 0x00F000020000 ∧ a ≠ R.FIL_CTRL) ∨
      (0x00F000030000 ≤ a ∧ a < 0x00F000040000 ∧ a ≠ R.SVP_HOLD ∧ a ≠ R.SVP_STATUS ∧ a ≠ R.BFP_CTRL ∧ a ≠ R.BFP_CMD) ∨
      (R.RGN_STATUS 0 ≤ a ∧ a < 0x00F000060000) ∨ (0x00F000060000 ≤ a ∧ a < 0x00F000070000 ∧ a % 16 ≠ 12) ∨
      (0x00F000600000 ≤ a ∧ a < R.BB_LOCK 0 ∧ a ≠ R.BB_RULE_COMMIT ∧ ¬ (R.BB_PT_CTRL 0 ≤ a ∧ a < R.BB_PT_CTRL 21 ∧ a % 16 < 8)) ∨
      (0x00F000700000 ≤ a ∧ a < 0x00F000740000 ∧ 8 ≤ a % 0x10000) ∨ (0x00F000800000 ≤ a ∧ a < R.STG_BANK 0))

/-- The access code of a bit of a register; none for a Reserved bit (R11, R12). -/
abbrev bitAcc (a i : Nat) : Option Acc := (findRow a).bind fun r => (r.fields.find? fun f => decide (f.lo ≤ i ∧ i ≤ f.hi)).map FieldSpec.acc

/-- A bit after a whole-word write (R11, R978). -/
abbrev writtenBit (acc : Option Acc) (old v : Bool) : Bool :=
  match acc with
  | some .rw => v
  | some .w1c => old && !v
  | some .w1s => old || v
  | _ => old

end Sys2Proof.Machine

/-- REGISTER_WRITE (R9 to R11, R422, R693, R696, R970, R971, R978): a narrow or unaligned access answers ACCESS_ERR, an offset without a register UNMAPPED,
a master whom no rule lets pass DENIED, each with no effect but the record of the denial; a whole word to any other register is answered OK, but
for one to CFG_FIFO, which may answer BUS_ERR; on the registers that a write starts nothing of, it writes RW bits, clears W1C bits that are 1,
sets W1S bits that are 1, and leaves RO and Reserved bits and every other register. User logic writes the registers of a UART that the image
enables. Outside the register pages the command does nothing (the model's choice, log 16). -/
def Obligations.RegisterWrites : Prop := ∀ (s : State) (p : Partner) (n : Fin 8) (m : Fin 128) (q : Fin 4) (addr : LocalAddr) (whole : Bool) (v : Word),
  (s.admits p addr.toNat → isRegPage addr.toNat = true → addr.toNat % 4 ≠ 0 ∨ whole = false →
    exec (.registerWrite (.partner p) addr whole v) s = .next (s.answer (.partner p) .accessErr 0)) ∧
  (s.admits p addr.toNat → isRegPage addr.toNat = true → addr.toNat % 4 = 0 → findRow addr.toNat = none →
    exec (.registerWrite (.partner p) addr true v) s = .next (s.answer (.partner p) .unmapped 0)) ∧
  (4 ≤ m.val → masterMay s m.val = true → isRegPage addr.toNat = true → rulesPass s m.val addr.toNat true = true → addr.toNat % 4 = 0 → findRow addr.toNat = none →
    exec (.registerWrite (.master m.val) addr true v) s = .next (s.answer (.master m.val) .unmapped 0)) ∧
  (4 ≤ m.val → masterMay s m.val = true → isRegPage addr.toNat = true → rulesPass s m.val addr.toNat true = true → addr.toNat % 4 ≠ 0 ∨ whole = false →
    exec (.registerWrite (.master m.val) addr whole v) s = .next (s.answer (.master m.val) .accessErr 0)) ∧
  (4 ≤ m.val → masterMay s m.val = true → isRegPage addr.toNat = true → rulesPass s m.val addr.toNat true = false →
    Answers (.registerWrite (.master m.val) addr whole v) s fun t => t.resp = some ⟨.master m.val, .denied, 0⟩ ∧
      t.get F.BB_VIOL_COUNT_COUNT = min (s.get F.BB_VIOL_COUNT_COUNT + 1) (2 ^ 32 - 1) ∧
      Keeps s t [.resp] [R.BB_VIOL_INFO, R.BB_VIOL_ADDR_LO, R.BB_VIOL_ADDR_HI, R.BB_VIOL_COUNT]) ∧
  (s.admits p R.BB_SLACK → Answers (.registerWrite (.partner p) (BitVec.ofNat 48 R.BB_SLACK) true v) s fun t => t.told p .ok 0 ∧
    t.rd R.BB_SLACK = (s.rd R.BB_SLACK &&& 0xFFFF0000) ||| (v &&& 0xFFFF) ∧ Keeps s t [.resp] [R.BB_SLACK]) ∧
  (s.admits p R.BB_VIOL_INFO → Answers (.registerWrite (.partner p) (BitVec.ofNat 48 R.BB_VIOL_INFO) true v) s fun t => t.told p .ok 0 ∧
    t.rd R.BB_VIOL_INFO = s.rd R.BB_VIOL_INFO &&& ~~~ (v &&& 0x80000000) ∧ Keeps s t [.resp] [R.BB_VIOL_INFO]) ∧
  (s.admits p (R.TPR_MAILBOX n.val) → Answers (.registerWrite (.partner p) (BitVec.ofNat 48 (R.TPR_MAILBOX n.val)) true v) s fun t => t.told p .ok 0 ∧
    t.rd (R.TPR_MAILBOX n.val) = s.rd (R.TPR_MAILBOX n.val) ||| (v &&& 1) ∧ Keeps s t [.resp] [R.TPR_MAILBOX n.val]) ∧
  (s.admits p (R.BB_FENCED 0) → Answers (.registerWrite (.partner p) (BitVec.ofNat 48 (R.BB_FENCED 0)) true v) s fun t => t.told p .ok 0 ∧
    Keeps s t [.resp] []) ∧
  (s.admits p addr.toNat → addr.toNat % 4 = 0 → findRow addr.toNat ≠ none → ¬ (R.CFG_FIFO 0 ≤ addr.toNat ∧ addr.toNat < 0x00F000050000) →
    Answers (.registerWrite (.partner p) addr true v) s fun t => t.told p .ok 0) ∧
  (4 ≤ m.val → masterMay s m.val = true → rulesPass s m.val addr.toNat true = true → addr.toNat % 4 = 0 → findRow addr.toNat ≠ none →
    ¬ (R.CFG_FIFO 0 ≤ addr.toNat ∧ addr.toNat < 0x00F000050000) →
    Answers (.registerWrite (.master m.val) addr true v) s fun t => t.resp = some ⟨.master m.val, .ok, 0⟩) ∧
  (s.admits p addr.toNat → addr.toNat % 4 = 0 → findRow addr.toNat ≠ none → R.CFG_FIFO 0 ≤ addr.toNat → addr.toNat < 0x00F000050000 →
    Answers (.registerWrite (.partner p) addr true v) s fun t => t.told p .ok 0 ∨ t.told p .busErr 0) ∧
  (s.admits p addr.toNat → PlainReg addr.toNat → Answers (.registerWrite (.partner p) addr true v) s fun t => t.told p .ok 0 ∧
    (∀ i : Fin 32, (t.rd addr.toNat).getLsbD i.val = writtenBit (bitAcc addr.toNat i.val) ((s.rd addr.toNat).getLsbD i.val) (v.getLsbD i.val)) ∧
    Keeps s t [.resp] [addr.toNat]) ∧
  (4 ≤ m.val → masterMay s m.val = true → rulesPass s m.val addr.toNat true = true → PlainReg addr.toNat →
    Answers (.registerWrite (.master m.val) addr true v) s fun t => t.resp = some ⟨.master m.val, .ok, 0⟩ ∧
      (∀ i : Fin 32, (t.rd addr.toNat).getLsbD i.val = writtenBit (bitAcc addr.toNat i.val) ((s.rd addr.toNat).getLsbD i.val) (v.getLsbD i.val)) ∧
      Keeps s t [.resp] [addr.toNat]) ∧
  (let u := vget s.fab.uarts q;
    s.fabricOn = true → s.flag F.CFG_STATUS_DONE = true → addr.toNat % 4 = 0 → addr.toNat ≤ 0x18 →
    Answers (.registerWrite (.uart q.val) addr true v) s fun t => if Config.imageUart s.cfg.frames q.val = false then t = s else
      t.resp = some ⟨.uart q.val, .ok, 0⟩ ∧
      (addr = 0x00 → exec (.urtTx q (v.setWidth 8)) s = .next { t with resp := s.resp }) ∧ (addr = 0x04 → t.fab = s.fab) ∧
      (addr = 0x08 → (vget t.fab.uarts q).cfg = v &&& 0x3F3B) ∧ (addr = 0x0C → (vget t.fab.uarts q).baud = v &&& 0x00FFFFFF) ∧
      (addr = 0x10 → vget t.fab.uarts q = { u with tx := (if v.getLsbD 31 = true then [] else u.tx), rx := (if v.getLsbD 30 = true then [] else u.rx), thresh := v.toNat / 2 ^ 24 % 64 }) ∧
      (addr = 0x14 → vget t.fab.uarts q = { u with pend := u.pend &&& ~~~ (v &&& 0x3C) }) ∧
      (addr = 0x18 → vget t.fab.uarts q = { u with irqEn := v &&& 0x3F }) ∧
      (∀ j : Fin 4, j ≠ q → vget t.fab.uarts j = vget s.fab.uarts j) ∧ Keeps s t [.resp, .fab] []) ∧
  (uartOn s q.val = false → exec (.registerWrite (.uart q.val) addr whole v) s = .next s) ∧
  (s.fabricOn = true → s.flag F.CFG_STATUS_DONE = true → exec (.registerWrite (.uart q.val) addr whole v) s =
    if Config.imageUart s.cfg.frames q.val = false then .next s
    else if addr.toNat % 4 ≠ 0 ∨ whole = false then .next (s.answer (.uart q.val) .accessErr 0)
    else if 0x18 < addr.toNat then .next (s.answer (.uart q.val) .unmapped 0)
    else exec (.registerWrite (.uart q.val) addr true v) s) ∧
  (isRegPage addr.toNat = false → exec (.registerWrite (.partner p) addr whole v) s = .next s ∧
    exec (.registerWrite (.master m.val) addr whole v) s = .next s)

/-- Every register command of a partner passes the same check first (R7, R32, R125, R186, R187, R220): one that does not reach the part does nothing,
and one that the part turns away is answered HALTED, NOT_OWNER or RESTRICTED and changes nothing else. -/
def Obligations.PartnerGate : Prop := ∀ (s : State) (c : Instr) (p : Partner) (a : Nat), partnerTarget c = some (p, a) →
  (s.reaches p = false → exec c s = .next s) ∧
  (s.reaches p = true → s.halted = true → exec c s = .next (s.answer (.partner p) .halted 0)) ∧
  (s.reaches p = true → s.halted = false → s.owner ≠ p → exec c s = .next (s.answer (.partner p) .notOwner 0)) ∧
  (s.reaches p = true → s.halted = false → s.owner = p → s.nightlight = true → inRestricted a = false →
    exec c s = .next (s.answer (.partner p) .restricted 0))

/-- When no engine has an answer to take, no word of a bulk write waits for its turn, no region drains and Shade has not halted the part, nothing
follows an access: what a command did is all it did (R176, R365, R571, R652, R825). -/
def Obligations.SettleQuiet : Prop := ∀ (s : State), s.quiet → settle s = s

/-- A step takes the command at the front of the queue: on a state with a command in front it is that command's effect on the state with the
queue's rest. -/
def Obligations.StepTakesFront : Prop := ∀ (s : State) (c : Instr) (rest : List Instr),
  step { s with pending := c :: rest } = exec c { s with pending := rest }

/-- Every step completes, whatever the state: no command and no idle tick ends in a fault or a refusal, and a step takes just the front
command from the queue; no command adds one, drops one or changes their order. -/
def Obligations.EveryStepTakesOne : Prop := ∀ (s : State), ∃ t, step s = .next t ∧ t.pending = s.pending.tail

/-- Every step from a state whose maps are canonical leaves every map canonical: registers, rules, regions, external memory and its check
bits, Staging SRAM and its check bits, the Psiom store, frames, block RAM, schedules, event sources and Taper memories keep one form under every
command and under the idle tick, so that equal contents are equal data. -/
def Obligations.EveryStepKeepsForm : Prop := ∀ (s t : State), s.canonical = true → step s = .next t → t.canonical = true

/-- The part at reset (R9, R14, R37, R45, R131, R363, R613, R645, R697, R701, R723, R776, R825, R878): every register reads its table's reset value, but
for the start timeout and BOOT_BLANK, which the erased store that the model starts from gives (the model's choice, log 12); every map
is canonical, no command waits, no lock is held, no request is on its way, every core is Halted with zero registers; and with no
command waiting a step lets one nanosecond pass (the model's choice, log 1). -/
def Obligations.ResetState : Prop := (∀ a, a ≠ R.RST_START_TIMEOUT → a ≠ R.PSM_STATUS → State.reset.rd a = resetValue a) ∧ State.reset.rd R.RST_START_TIMEOUT = 0 ∧
    State.reset.rd R.PSM_STATUS = 0x1000 ∧ State.reset.canonical = true ∧ State.reset.pending = [] ∧ State.reset.halted = false ∧ State.reset.resp = none ∧
    (∀ k : Fin 64, vget State.reset.bb.locks k = ⟨none, false⟩) ∧ State.reset.bb.bursts = [] ∧ State.reset.bb.done = [] ∧ State.reset.bb.enforce = false ∧
    (∀ k : Fin 21, (vget State.reset.bb.points k).pending = [] ∧ (vget State.reset.bb.points k).owner = none) ∧
    (∀ n : Fin 8, tprState State.reset n.val = 0 ∧ (∀ r : Fin 40, vget (vget State.reset.tpr n).regs r = 0) ∧ ∀ a : Fin 2, vget (vget State.reset.tpr n).acc a = 0) ∧
    (∀ n : Fin 256, (State.reset.evc.source n.val).state = .idle ∧ (State.reset.evc.source n.val).en = decide (64 ≤ n.val)) ∧
    (∀ sc : Fin 8, scState State.reset sc.val = 0) ∧ State.reset.psm.cmd = none ∧
  ∀ s : State, s.pending = [] → ∃ t, step s = .next t ∧ t.clk.now = s.clk.now + 1 ∧ t.pending = [] ∧
    (s.flag F.TT_STATUS_RUNNING = false → t.tt.tt = s.tt.tt) ∧ (s.flag F.TT_STATUS_RUNNING = true → s.tt.slew = none → t.tt.tt = s.tt.tt + 64)
end

