-- ==== Sys2Proof/WellFormed.lean ====
section
/-!
DEFINITION. Sys2Proof/WellFormed.lean: what the operands of a command must be for the command to be one that a sender
can form. A command that fails its check stands for nothing a sender can send.
-/

namespace Sys2Proof

open Machine

/-- A requester is a partner, one of four UARTs or one of the 128 masters. -/
def requesterOk : Requester → Bool
  | .partner _ => true
  | .uart n => decide (n < 4)
  | .master m => decide (m < 128)

/-- The words of each shape of a block RAM (R395). -/
def shapeWords (w : Nat) : Nat := [32768, 16384, 8192, 4096, 2048, 1024, 512].getD w 0

/-- A burst holds 1 to 256 bytes inside one 256-byte block, and a write brings a byte and an enable for each (R665). -/
def burstOk (write : Bool) (addr len data enables : Nat) : Bool :=
  decide (1 ≤ len ∧ addr % 256 + len ≤ 256) && (!write || (data == len && enables == len))

/-- The operands of a command are ones that a sender can form. -/
def Instr.wellFormed : Instr → Bool
  | .registerWrite p _ _ _ => requesterOk p
  | .ttNowLoRead _ => true
  | .ttSourceSelect _ _ _ => true
  | .ttSyncArm _ _ => true
  | .ttSyncEdge => true
  | .ttRefLossOfLock => true
  | .ttRefRelock _ => true
  | .syncWordsMissed => true
  | .ttSlewStart _ _ => true
  | .ttStepArm _ _ => true
  | .ttAdjCancel _ _ _ _ => true
  | .ttSlewComplete => true
  | .ttStepApply => true
  | .ttWrap => true
  | .lscEnable _ _ => true
  | .lscLoRead _ => true
  | .pilotComparatorEnable _ _ _ => true
  | .pilotMatchValueWrite _ _ _ _ => true
  | .pilotTtMatch _ => true
  | .pilotAnalogCrossing _ _ => true
  | .pilotWakeEdge _ => true
  | .badLinkWord _ b => b.length == 8
  | .train _ _ _ _ c => c.length == 4
  | .linkActive _ => true
  | .linkSilenceTimeout _ => true
  | .retrainUs _ _ => true
  | .retrainDs _ _ => true
  | .linkTrainTimeout _ => true
  | .packetReceive _ _ _ _ _ _ => true
  | .packetForwardUpstream => true
  | .packetTransmit _ => true
  | .ackSend _ => true
  | .ack _ _ => true
  | .nak _ _ => true
  | .ackTimeout _ => true
  | .credit _ c => c.length == 4
  | .creditSend _ => true
  | .rdReq => true
  | .rdRsp => true
  | .wrReq => true
  | .wrRsp => true
  | .bulkWr => true
  | .bulkRsp => true
  | .bulkRd => true
  | .enumPkt => true
  | .enumTimeout => true
  | .enumWait => true
  | .own => true
  | .statReq => true
  | .chainReset => true
  | .syncPairSend => true
  | .syncPair _ _ _ => true
  | .stepTriple _ _ => true
  | .echoMeasurement => true
  | .echoReq _ l => l.length == 5
  | .echoRsp _ _ => true
  | .dsPm _ _ => true
  | .dozeReq => true
  | .sleepReq => true
  | .accept => true
  | .refuse => true
  | .filWakeNLow _ => true
  | .corePorRelease => true
  | .resetNLow _ => true
  | .resetNRise => true
  | .warmReset => true
  | .deferredReset => true
  | .startTimeout => true
  | .rstEngine _ _ => true
  | .engineResetComplete => true
  | .rstCtrl _ _ => true
  | .nlExit _ _ => true
  | .rstStartOk _ _ => true
  | .brownoutWarning => true
  | .bowSelfRefresh => true
  | .retentionRecordWrite => true
  | .bowRecover => true
  | .vccCoreBrownout => true
  | .railFailure => true
  | .pilotPowerFail => true
  | .pilotPorRelease => true
  | .standby _ _ => true
  | .run _ _ => true
  | .standbyExitComplete => true
  | .deep _ _ => true
  | .deepWake => true
  | .svpRd h a => h.length == 4 && a.length == 8
  | .svpReadWordReturn => true
  | .svpReadTimeout => true
  | .svpWr h w => h.length == 4 && decide (12 ≤ w.length ∧ w.length ≤ 264 ∧ w.length % 4 = 0)
  | .svpWriteWordCommit => true
  | .svpStatus h => h.length == 4
  | .svpTake => true
  | .svpFrameRejected _ _ _ => true
  | .bfpEnable _ _ => true
  | .bfpCmd _ _ => true
  | .bfpCommandComplete d => decide (d.length ≤ 256)
  | .bfpReadStrobeTimeout => true
  | .cfgGo _ _ => true
  | .cfgFifoWrite _ _ => true
  | .configBlockCheck d => decide (d.length ≤ 65536)
  | .configFrameWrite => true
  | .configDigestCheck => true
  | .configLoadError => true
  | .cfgAbort _ _ => true
  | .cfgRelease _ _ => true
  | .configReloadStart => true
  | .configLockup => true
  | .readbackVerifyPass => true
  | .unload _ _ _ => true
  | .start _ _ _ => true
  | .restart _ _ _ => true
  | .bramWrite _ _ w i _ _ => decide (i < shapeWords w.val)
  | .bramRead _ _ w i => decide (i < shapeWords w.val)
  | .pllLock _ => true
  | .pllLossOfLock _ => true
  | .relock _ _ _ => true
  | .urtTx _ _ => true
  | .urtRx _ => true
  | .txFlush _ => true
  | .rxFlush _ => true
  | .uartCharReceived _ _ _ _ _ => true
  | .uartCharSent _ => true
  | .rxIdle _ => true
  | .evtLineRise _ => true
  | .firqAck _ => true
  | .firqEnd _ _ => true
  | .fabricSlaveAccess _ d => decide (d.length ≤ 256)
  | .fabricSlaveTimeout _ => true
  | .laneEnable _ _ _ => true
  | .laneCalibrateStart _ => true
  | .laneRunning _ => true
  | .laneDisable _ _ _ => true
  | .laneOff _ => true
  | .laneConfigWrite _ _ _ _ => true
  | .txSrcChange _ _ _ => true
  | .cdrLock _ => true
  | .pcsLock _ _ => true
  | .laneLossOfLock _ _ => true
  | .deskewAligned _ => true
  | .fecUncorrectable _ => true
  | .deskewMaskWrite _ _ _ => true
  | .prbsCheckerLock _ => true
  | .prbsCheckerLoss _ => true
  | .prbsClr _ _ _ => true
  | .prbsBitsRead _ _ => true
  | .eyeScanGo _ _ _ => true
  | .eyeDone _ => true
  | .lanternEnable _ _ _ => true
  | .lanternDisable _ _ _ => true
  | .lanternStopComplete _ => true
  | .tapUnit _ _ b _ => b.length == 8 || b.length == 9 || b.length == 17
  | .sequencerTransition _ => true
  | .lanternFlushTimeout _ => true
  | .lanternBurstIssue _ => true
  | .lanternBurstCommit _ => true
  | .lanternIndexCommit _ => true
  | .lanternBurstError _ => true
  | .lanternRdPtrWrite _ _ _ _ => true
  | .ptrReset _ _ _ => true
  | .lanternBytesRead _ _ _ => true
  | .beaconEnable _ _ _ => true
  | .beaconReady _ => true
  | .beaconCmdStart _ _ => true
  | .beaconCmdStop _ _ => true
  | .beaconDisable _ _ _ => true
  | .beaconIdle _ => true
  | .beaconPassEnd _ => true
  | .beaconJump _ => true
  | .bcnnJump _ _ _ => true
  | .bcnnJumpClr _ _ _ => true
  | .bcnJmpEdge _ _ => true
  | .beaconStreamBurst _ => true
  | .beaconUnderrun _ => true
  | .beaconReadError _ => true
  | .beaconUnitsRead _ _ => true
  | .schEntryCommit _ _ _ => true
  | .lntStart _ => true
  | .lntStop _ => true
  | .bcnStart _ => true
  | .bcnStop _ => true
  | .schEvent _ => true
  | .schPin _ => true
  | .schPulseEnd _ => true
  | .schReload _ => true
  | .schSnap _ => true
  | .schSwapArm _ _ => true
  | .schTableSwap => true
  | .schSwapCancel _ _ => true
  | .statsGroupEnable _ _ _ => true
  | .statsSample _ => true
  | .snapshotCommit _ => true
  | .snapshotWriteError _ => true
  | .jtagDebugRequest => true
  | .drainUsExpiry _ => true
  | .deskewMarkerDisagree _ => true
  | .ctsNChange _ _ => true
  | .sourceEvent _ => true
  | .moderationTimerExpiry => true
  | .evcRaise _ _ => true
  | .evcSourceConfigWrite _ _ _ => true
  | .evcEnd _ _ _ => true
  | .taperNop _ => true
  | .taperHalt _ => true
  | .taperBkpt _ => true
  | .taperJ _ => true
  | .taperCall _ => true
  | .taperRet _ => true
  | .taperJr _ => true
  | .taperLoop _ => true
  | .taperLoopr _ => true
  | .taperLeave _ => true
  | .taperWaitev _ => true
  | .taperEvend _ => true
  | .taperSignal _ => true
  | .taperWdog _ => true
  | .taperMode _ => true
  | .taperDma _ => true
  | .taperDmaw _ => true
  | .taperMovi _ => true
  | .taperMov _ => true
  | .taperLd _ => true
  | .taperSt _ => true
  | .taperLdi _ => true
  | .taperSti _ => true
  | .taperLdp _ => true
  | .taperStp _ => true
  | .taperLea _ => true
  | .taperExt _ => true
  | .taperPack _ => true
  | .taperGetg _ => true
  | .taperPutg _ => true
  | .taperPar _ => true
  | .taperMul _ => true
  | .taperMac _ => true
  | .taperMsb _ => true
  | .taperMacrn _ => true
  | .taperMacmx _ => true
  | .taperAddh _ => true
  | .taperSubh _ => true
  | .taperAdda _ => true
  | .taperSuba _ => true
  | .taperZero _ => true
  | .taperNeg _ => true
  | .taperAbs _ => true
  | .taperRound _ => true
  | .taperClip _ => true
  | .taperSha _ => true
  | .taperShav _ => true
  | .taperNorm _ => true
  | .taperCmpa _ => true
  | .taperMova _ => true
  | .taperAdd _ => true
  | .taperSub _ => true
  | .taperAnd _ => true
  | .taperOr _ => true
  | .taperXor _ => true
  | .taperShl _ => true
  | .taperShr _ => true
  | .taperShra _ => true
  | .taperAddi _ => true
  | .taperCmp _ => true
  | .taperBrev _ => true
  | .taperPopc _ => true
  | .taperIllegal _ => true
  | .taperRun _ _ _ => true
  | .taperHostHalt _ _ _ => true
  | .taperStep _ _ _ => true
  | .taperDoorbell _ _ _ => true
  | .taperStateWrite _ _ _ _ => true
  | .taperMemoryAccess _ => true
  | .dmaDescriptorComplete _ _ => true
  | .taperWatchdogExpiry _ => true
  | .backboneRequest _ w a n d e _ _ => burstOk w a.toNat n d.length e.length
  | .arbitrationDecision _ => true
  | .grantRevocation _ => true
  | .writeCommit _ => true
  | .arbitrationWindowExpiry _ => true
  | .pointConfigWrite _ _ _ _ => true
  | .backboneLockup _ => true
  | .bbRuleCommit _ _ => true
  | .rulesDrained => true
  | .lockAcquire _ _ => true
  | .lockRelease _ _ _ => true
  | .lockForce _ _ _ => true
  | .mcEnable _ _ _ => true
  | .mcTrainingComplete _ => true
  | .mcTrainingFail _ => true
  | .mcSelfRefreshExit _ => true
  | .mcDisable _ _ _ => true
  | .mcSelfRefreshEntry _ => true
  | .mcConfigWrite _ _ _ => true
  | .mcRetrainDue _ => true
  | .mcRetrainStart _ => true
  | .mcRetrainDeferLong _ => true
  | .mcScheduleDecision _ => true
  | .rhWindowExpiry _ => true
  | .throttleExpiry _ => true
  | .mcRefreshDue _ _ => true
  | .mcPostponedRefresh _ _ => true
  | .mcRefreshRatePoll _ _ => true
  | .memoryLineRead _ => true
  | .memoryPartialWrite _ => true
  | .memoryLineWrite _ => true
  | .mcPllLossOfLock _ => true
  | .stgPortAAccess _ => true
  | .stgPortBAccess _ => true
  | .stgBitSet _ => true
  | .stgBitClear _ => true
  | .stgBankReq _ _ _ => true
  | .stgBankStateReached _ => true
  | .stgScrubRead => true
  | .shdKeyLoad _ _ => true
  | .shadeKeyLoadComplete => true
  | .shdCommit _ _ => true
  | .shadeDrained => true
  | .psmProgram _ _ => true
  | .psmProgramPulseDone _ => true
  | .psmErase _ _ => true
  | .psmEraseSliceEnd _ => true
  | .psmSuspend _ _ => true
  | .psmResume _ _ => true
  | .psmBadOp _ _ _ => true
  | .keyWrite _ _ => true
  | .keyErase _ _ => true
  | .psmWindowRead => true
  | .psmWindowWrite _ _ => true
  | .rasInjectArm _ _ => true
  | .rasPop _ _ => true
  | .mcScrubRead => true
  | .bramScrubRead => true
  | .psmScanRead => true
  | .criticalParityError _ => true
  | .systemWatchdogExpiry => true
  | .rasWdogKick _ _ => true
  | .rasWdogLimitWrite _ _ => true
  | .clockFailure _ => true
  | .readBurstComplete => true
  | .mcRetrainComplete _ => true

end Sys2Proof
end

