-- ==== Sys2Proof/Laws/PerInstr.lean ====
section
/-!
SUPPORT. Sys2Proof/Laws/PerInstr.lean: a fact about every command as syntax, one lemma for each constructor: a partner's register
command has operands any sender can form, and it addresses a whole word of a register page.
-/

namespace Sys2Proof.Laws.OperandForm

open Sys2Proof.Machine

/-- A command that is a partner's register request is well-formed, and the register it addresses is a word of a register page. -/
def Statement (i : Instr) : Prop :=
  ∀ p a, partnerTarget i = some (p, a) → i.wellFormed = true ∧ a % 4 = 0 ∧ isRegPage a = true

/-- A command that is no partner's register request. -/
theorem of_none {i : Instr} (h : partnerTarget i = none) : Statement i := fun _ _ e => nomatch h.symm.trans e

/-- A command whose register is a word of a register page. -/
theorem of_some {i : Instr} {p : Partner} {a : Nat} (h : partnerTarget i = some (p, a)) (hw : i.wellFormed = true)
    (ha : a % 4 = 0 ∧ 0x00F000000000 ≤ a ∧ a < 0x00F001000000) : Statement i := fun _ _ e => by
  cases h.symm.trans e
  exact ⟨hw, ha.1, decide_eq_true ha.2⟩

theorem registerWrite (p : Requester) (addr : LocalAddr) (whole : Bool) (v : Word) :
    Statement (.registerWrite p addr whole v) := of_none rfl
theorem ttNowLoRead (p : Partner) : Statement (.ttNowLoRead p) :=
  of_some rfl rfl (by decide)
theorem ttSourceSelect (p : Partner) (v : Word) (refKhz : Nat) : Statement (.ttSourceSelect p v refKhz) :=
  of_some rfl rfl (by decide)
theorem ttSyncArm (p : Partner) (v : Word) : Statement (.ttSyncArm p v) :=
  of_some rfl rfl (by decide)
theorem ttSyncEdge : Statement .ttSyncEdge := of_none rfl
theorem ttRefLossOfLock : Statement .ttRefLossOfLock := of_none rfl
theorem ttRefRelock (refKhz : Nat) : Statement (.ttRefRelock refKhz) := of_none rfl
theorem syncWordsMissed : Statement .syncWordsMissed := of_none rfl
theorem ttSlewStart (p : Partner) (rate : Byte) : Statement (.ttSlewStart p rate) :=
  of_some rfl rfl (by decide)
theorem ttStepArm (p : Partner) (rate : Byte) : Statement (.ttStepArm p rate) :=
  of_some rfl rfl (by decide)
theorem ttAdjCancel (p : Partner) (rate : Byte) (step go : Bool) : Statement (.ttAdjCancel p rate step go) :=
  of_some rfl rfl (by decide)
theorem ttSlewComplete : Statement .ttSlewComplete := of_none rfl
theorem ttStepApply : Statement .ttStepApply := of_none rfl
theorem ttWrap : Statement .ttWrap := of_none rfl
theorem lscEnable (p : Partner) (v : Word) : Statement (.lscEnable p v) :=
  of_some rfl rfl (by decide)
theorem lscLoRead (p : Partner) : Statement (.lscLoRead p) :=
  of_some rfl rfl (by decide)
theorem pilotComparatorEnable (p : Partner) (n : Fin 8) (v : Word) : Statement (.pilotComparatorEnable p n v) :=
  of_some rfl rfl (by have := n.isLt; simp only [R.PLT_CMP_CTRL]; omega)
theorem pilotMatchValueWrite (p : Partner) (n : Fin 4) (high : Bool) (v : Word) : Statement (.pilotMatchValueWrite p n high v) :=
  of_some rfl rfl (by have := n.isLt; cases high <;> simp only [R.PLT_TTM, b2n, if_true, if_false, Bool.false_eq_true] <;> omega)
theorem pilotTtMatch (n : Fin 4) : Statement (.pilotTtMatch n) := of_none rfl
theorem pilotAnalogCrossing (n : Fin 3) (level : Int) : Statement (.pilotAnalogCrossing n level) := of_none rfl
theorem pilotWakeEdge (level : Bool) : Statement (.pilotWakeEdge level) := of_none rfl
theorem badLinkWord (port : Port) (bytes : List Byte) : Statement (.badLinkWord port bytes) := of_none rfl
theorem train (port : Port) (lane : Fin 2) (ready : Bool) (sender : Byte) (credits : List Byte) :
    Statement (.train port lane ready sender credits) := of_none rfl
theorem linkActive (port : Port) : Statement (.linkActive port) := of_none rfl
theorem linkSilenceTimeout (port : Port) : Statement (.linkSilenceTimeout port) := of_none rfl
theorem retrainUs (p : Partner) (v : Word) : Statement (.retrainUs p v) :=
  of_some rfl rfl (by decide)
theorem retrainDs (p : Partner) (v : Word) : Statement (.retrainDs p v) :=
  of_some rfl rfl (by decide)
theorem linkTrainTimeout (port : Port) : Statement (.linkTrainTimeout port) := of_none rfl
theorem packetReceive (port : Port) (vc : Fin 4) (seq : BitVec 12) (words : BitVec 6) (bytes : List Byte) (crc : Word) :
    Statement (.packetReceive port vc seq words bytes crc) := of_none rfl
theorem packetForwardUpstream : Statement .packetForwardUpstream := of_none rfl
theorem packetTransmit (port : Port) : Statement (.packetTransmit port) := of_none rfl
theorem ackSend (port : Port) : Statement (.ackSend port) := of_none rfl
theorem ack (port : Port) (seq : BitVec 12) : Statement (.ack port seq) := of_none rfl
theorem nak (port : Port) (seq : BitVec 12) : Statement (.nak port seq) := of_none rfl
theorem ackTimeout (port : Port) : Statement (.ackTimeout port) := of_none rfl
theorem credit (port : Port) (credits : List Byte) : Statement (.credit port credits) := of_none rfl
theorem creditSend (port : Port) : Statement (.creditSend port) := of_none rfl
theorem rdReq : Statement .rdReq := of_none rfl
theorem rdRsp : Statement .rdRsp := of_none rfl
theorem wrReq : Statement .wrReq := of_none rfl
theorem wrRsp : Statement .wrRsp := of_none rfl
theorem bulkWr : Statement .bulkWr := of_none rfl
theorem bulkRsp : Statement .bulkRsp := of_none rfl
theorem bulkRd : Statement .bulkRd := of_none rfl
theorem enumPkt : Statement .enumPkt := of_none rfl
theorem enumTimeout : Statement .enumTimeout := of_none rfl
theorem enumWait : Statement .enumWait := of_none rfl
theorem own : Statement .own := of_none rfl
theorem statReq : Statement .statReq := of_none rfl
theorem chainReset : Statement .chainReset := of_none rfl
theorem syncPairSend : Statement .syncPairSend := of_none rfl
theorem syncPair (hops : Byte) (flags : Byte) (tt : TT64) : Statement (.syncPair hops flags tt) := of_none rfl
theorem stepTriple (amount : Word) (instant : TT64) : Statement (.stepTriple amount instant) := of_none rfl
theorem echoMeasurement : Statement .echoMeasurement := of_none rfl
theorem echoReq (tag : Byte) (reserved : List Byte) : Statement (.echoReq tag reserved) := of_none rfl
theorem echoRsp (tag : Byte) (turnaround : Word) : Statement (.echoRsp tag turnaround) := of_none rfl
theorem dsPm (p : Partner) (v : Word) : Statement (.dsPm p v) :=
  of_some rfl rfl (by decide)
theorem dozeReq : Statement .dozeReq := of_none rfl
theorem sleepReq : Statement .sleepReq := of_none rfl
theorem accept : Statement .accept := of_none rfl
theorem refuse : Statement .refuse := of_none rfl
theorem filWakeNLow (low : Bool) : Statement (.filWakeNLow low) := of_none rfl
theorem corePorRelease : Statement .corePorRelease := of_none rfl
theorem resetNLow (ns : Nat) : Statement (.resetNLow ns) := of_none rfl
theorem resetNRise : Statement .resetNRise := of_none rfl
theorem warmReset : Statement .warmReset := of_none rfl
theorem deferredReset : Statement .deferredReset := of_none rfl
theorem startTimeout : Statement .startTimeout := of_none rfl
theorem rstEngine (p : Partner) (v : Word) : Statement (.rstEngine p v) :=
  of_some rfl rfl (by decide)
theorem engineResetComplete : Statement .engineResetComplete := of_none rfl
theorem rstCtrl (p : Partner) (v : Word) : Statement (.rstCtrl p v) :=
  of_some rfl rfl (by decide)
theorem nlExit (p : Partner) (v : Word) : Statement (.nlExit p v) :=
  of_some rfl rfl (by decide)
theorem rstStartOk (p : Partner) (v : Word) : Statement (.rstStartOk p v) :=
  of_some rfl rfl (by decide)
theorem brownoutWarning : Statement .brownoutWarning := of_none rfl
theorem bowSelfRefresh : Statement .bowSelfRefresh := of_none rfl
theorem retentionRecordWrite : Statement .retentionRecordWrite := of_none rfl
theorem bowRecover : Statement .bowRecover := of_none rfl
theorem vccCoreBrownout : Statement .vccCoreBrownout := of_none rfl
theorem railFailure : Statement .railFailure := of_none rfl
theorem pilotPowerFail : Statement .pilotPowerFail := of_none rfl
theorem pilotPorRelease : Statement .pilotPorRelease := of_none rfl
theorem standby (p : Partner) (v : Word) : Statement (.standby p v) :=
  of_some rfl rfl (by decide)
theorem run (p : Partner) (v : Word) : Statement (.run p v) :=
  of_some rfl rfl (by decide)
theorem standbyExitComplete : Statement .standbyExitComplete := of_none rfl
theorem deep (p : Partner) (v : Word) : Statement (.deep p v) :=
  of_some rfl rfl (by decide)
theorem deepWake : Statement .deepWake := of_none rfl
theorem svpRd (header address : List Byte) : Statement (.svpRd header address) := of_none rfl
theorem svpReadWordReturn : Statement .svpReadWordReturn := of_none rfl
theorem svpReadTimeout : Statement .svpReadTimeout := of_none rfl
theorem svpWr (header words : List Byte) : Statement (.svpWr header words) := of_none rfl
theorem svpWriteWordCommit : Statement .svpWriteWordCommit := of_none rfl
theorem svpStatus (header : List Byte) : Statement (.svpStatus header) := of_none rfl
theorem svpTake : Statement .svpTake := of_none rfl
theorem svpFrameRejected (header words : List Byte) (byteCount : Nat) :
    Statement (.svpFrameRejected header words byteCount) := of_none rfl
theorem bfpEnable (p : Partner) (v : Word) : Statement (.bfpEnable p v) :=
  of_some rfl rfl (by decide)
theorem bfpCmd (p : Partner) (v : Word) : Statement (.bfpCmd p v) :=
  of_some rfl rfl (by decide)
theorem bfpCommandComplete (data : List Byte) : Statement (.bfpCommandComplete data) := of_none rfl
theorem bfpReadStrobeTimeout : Statement .bfpReadStrobeTimeout := of_none rfl
theorem cfgGo (p : Partner) (v : Word) : Statement (.cfgGo p v) :=
  of_some rfl rfl (by decide)
theorem cfgFifoWrite (p : Partner) (v : Word) : Statement (.cfgFifoWrite p v) :=
  of_some rfl rfl (by decide)
theorem configBlockCheck (flash : List Byte) : Statement (.configBlockCheck flash) := of_none rfl
theorem configFrameWrite : Statement .configFrameWrite := of_none rfl
theorem configDigestCheck : Statement .configDigestCheck := of_none rfl
theorem configLoadError : Statement .configLoadError := of_none rfl
theorem cfgAbort (p : Partner) (v : Word) : Statement (.cfgAbort p v) :=
  of_some rfl rfl (by decide)
theorem cfgRelease (p : Partner) (v : Word) : Statement (.cfgRelease p v) :=
  of_some rfl rfl (by decide)
theorem configReloadStart : Statement .configReloadStart := of_none rfl
theorem configLockup : Statement .configLockup := of_none rfl
theorem readbackVerifyPass : Statement .readbackVerifyPass := of_none rfl
theorem unload (p : Partner) (n : Fin 24) (v : Word) : Statement (.unload p n v) :=
  of_some rfl rfl (by have := n.isLt; simp only [R.RGN_CTRL]; omega)
theorem start (p : Partner) (n : Fin 24) (v : Word) : Statement (.start p n v) :=
  of_some rfl rfl (by have := n.isLt; simp only [R.RGN_CTRL]; omega)
theorem restart (p : Partner) (n : Fin 24) (v : Word) : Statement (.restart p n v) :=
  of_some rfl rfl (by have := n.isLt; simp only [R.RGN_CTRL]; omega)
theorem bramWrite (portB : Bool) (tile : Fin 3072) (width : Fin 7) (word : Nat) (data : BitVec 72) (be : BitVec 8) :
    Statement (.bramWrite portB tile width word data be) := of_none rfl
theorem bramRead (portB : Bool) (tile : Fin 3072) (width : Fin 7) (word : Nat) : Statement (.bramRead portB tile width word) := of_none rfl
theorem pllLock (n : Fin 16) : Statement (.pllLock n) := of_none rfl
theorem pllLossOfLock (n : Fin 16) : Statement (.pllLossOfLock n) := of_none rfl
theorem relock (p : Partner) (n : Fin 16) (v : Word) : Statement (.relock p n v) :=
  of_some rfl rfl (by have := n.isLt; simp only [R.CLK_PLL_CMD]; omega)
theorem urtTx (n : Fin 4) (ch : Byte) : Statement (.urtTx n ch) := of_none rfl
theorem urtRx (n : Fin 4) : Statement (.urtRx n) := of_none rfl
theorem txFlush (n : Fin 4) : Statement (.txFlush n) := of_none rfl
theorem rxFlush (n : Fin 4) : Statement (.rxFlush n) := of_none rfl
theorem uartCharReceived (n : Fin 4) (ch : Byte) (brk frameErr parityErr : Bool) :
    Statement (.uartCharReceived n ch brk frameErr parityErr) := of_none rfl
theorem uartCharSent (n : Fin 4) : Statement (.uartCharSent n) := of_none rfl
theorem rxIdle (n : Fin 4) : Statement (.rxIdle n) := of_none rfl
theorem evtLineRise (n : Fin 64) : Statement (.evtLineRise n) := of_none rfl
theorem firqAck (m : Fin 16) : Statement (.firqAck m) := of_none rfl
theorem firqEnd (m : Fin 16) (src : Byte) : Statement (.firqEnd m src) := of_none rfl
theorem fabricSlaveAccess (port : Fin 32) (data : List Byte) : Statement (.fabricSlaveAccess port data) := of_none rfl
theorem fabricSlaveTimeout (port : Fin 32) : Statement (.fabricSlaveTimeout port) := of_none rfl
theorem laneEnable (p : Partner) (n : Fin 64) (v : Word) : Statement (.laneEnable p n v) :=
  of_some rfl rfl (by have := n.isLt; simp only [R.XCV_CTRL]; omega)
theorem laneCalibrateStart (n : Fin 64) : Statement (.laneCalibrateStart n) := of_none rfl
theorem laneRunning (n : Fin 64) : Statement (.laneRunning n) := of_none rfl
theorem laneDisable (p : Partner) (n : Fin 64) (v : Word) : Statement (.laneDisable p n v) :=
  of_some rfl rfl (by have := n.isLt; simp only [R.XCV_CTRL]; omega)
theorem laneOff (n : Fin 64) : Statement (.laneOff n) := of_none rfl
theorem laneConfigWrite (p : Partner) (n : Fin 64) (rate : Bool) (v : Word) : Statement (.laneConfigWrite p n rate v) :=
  of_some rfl rfl (by have := n.isLt; cases rate <;> simp only [R.XCV_CFG, R.XCV_RATE, if_true, if_false, Bool.false_eq_true] <;> omega)
theorem txSrcChange (p : Partner) (n : Fin 64) (v : Word) : Statement (.txSrcChange p n v) :=
  of_some rfl rfl (by have := n.isLt; simp only [R.XCV_CTRL]; omega)
theorem cdrLock (n : Fin 64) : Statement (.cdrLock n) := of_none rfl
theorem pcsLock (n : Fin 64) (fec : Bool) : Statement (.pcsLock n fec) := of_none rfl
theorem laneLossOfLock (n : Fin 64) (which : Fin 3) : Statement (.laneLossOfLock n which) := of_none rfl
theorem deskewAligned (g : Fin 16) : Statement (.deskewAligned g) := of_none rfl
theorem fecUncorrectable (n : Fin 64) : Statement (.fecUncorrectable n) := of_none rfl
theorem deskewMaskWrite (p : Partner) (g : Fin 16) (v : Word) : Statement (.deskewMaskWrite p g v) :=
  of_some rfl rfl (by have := g.isLt; simp only [R.XCV_GRP_CTRL]; omega)
theorem prbsCheckerLock (n : Fin 64) : Statement (.prbsCheckerLock n) := of_none rfl
theorem prbsCheckerLoss (n : Fin 64) : Statement (.prbsCheckerLoss n) := of_none rfl
theorem prbsClr (p : Partner) (n : Fin 64) (v : Word) : Statement (.prbsClr p n v) :=
  of_some rfl rfl (by have := n.isLt; simp only [R.XCV_PRBS]; omega)
theorem prbsBitsRead (p : Partner) (n : Fin 64) : Statement (.prbsBitsRead p n) :=
  of_some rfl rfl (by have := n.isLt; simp only [R.XCV_PRBS_BITS_LO]; omega)
theorem eyeScanGo (p : Partner) (n : Fin 64) (v : Word) : Statement (.eyeScanGo p n v) :=
  of_some rfl rfl (by have := n.isLt; simp only [R.XCV_EYE_CTRL]; omega)
theorem eyeDone (n : Fin 64) : Statement (.eyeDone n) := of_none rfl
theorem lanternEnable (p : Partner) (n : Fin 16) (v : Word) : Statement (.lanternEnable p n v) :=
  of_some rfl rfl (by have := n.isLt; simp only [R.LNT_CTRL]; omega)
theorem lanternDisable (p : Partner) (n : Fin 16) (v : Word) : Statement (.lanternDisable p n v) :=
  of_some rfl rfl (by have := n.isLt; simp only [R.LNT_CTRL]; omega)
theorem lanternStopComplete (n : Fin 16) : Statement (.lanternStopComplete n) := of_none rfl
theorem tapUnit (n : Fin 16) (tap : Fin 4) (bytes : List Byte) (bad : Bool) : Statement (.tapUnit n tap bytes bad) := of_none rfl
theorem sequencerTransition (n : Fin 16) : Statement (.sequencerTransition n) := of_none rfl
theorem lanternFlushTimeout (n : Fin 16) : Statement (.lanternFlushTimeout n) := of_none rfl
theorem lanternBurstIssue (n : Fin 16) : Statement (.lanternBurstIssue n) := of_none rfl
theorem lanternBurstCommit (n : Fin 16) : Statement (.lanternBurstCommit n) := of_none rfl
theorem lanternIndexCommit (n : Fin 16) : Statement (.lanternIndexCommit n) := of_none rfl
theorem lanternBurstError (n : Fin 16) : Statement (.lanternBurstError n) := of_none rfl
theorem lanternRdPtrWrite (p : Partner) (n : Fin 16) (high : Bool) (v : Word) : Statement (.lanternRdPtrWrite p n high v) :=
  of_some rfl rfl (by have := n.isLt; simp only [R.LNT_RD_PTR_LO]; omega)
theorem ptrReset (p : Partner) (n : Fin 16) (v : Word) : Statement (.ptrReset p n v) :=
  of_some rfl rfl (by have := n.isLt; simp only [R.LNT_CTRL]; omega)
theorem lanternBytesRead (p : Partner) (n : Fin 16) (tap : Fin 4) : Statement (.lanternBytesRead p n tap) :=
  of_some rfl rfl (by have := n.isLt; have := tap.isLt; simp only [R.LNT_TAP_BYTES_LO]; omega)
theorem beaconEnable (p : Partner) (n : Fin 16) (v : Word) : Statement (.beaconEnable p n v) :=
  of_some rfl rfl (by have := n.isLt; simp only [R.BCN_CTRL]; omega)
theorem beaconReady (n : Fin 16) : Statement (.beaconReady n) := of_none rfl
theorem beaconCmdStart (p : Partner) (n : Fin 16) : Statement (.beaconCmdStart p n) :=
  of_some rfl rfl (by have := n.isLt; simp only [R.BCN_CMD]; omega)
theorem beaconCmdStop (p : Partner) (n : Fin 16) : Statement (.beaconCmdStop p n) :=
  of_some rfl rfl (by have := n.isLt; simp only [R.BCN_CMD]; omega)
theorem beaconDisable (p : Partner) (n : Fin 16) (v : Word) : Statement (.beaconDisable p n v) :=
  of_some rfl rfl (by have := n.isLt; simp only [R.BCN_CTRL]; omega)
theorem beaconIdle (n : Fin 16) : Statement (.beaconIdle n) := of_none rfl
theorem beaconPassEnd (n : Fin 16) : Statement (.beaconPassEnd n) := of_none rfl
theorem beaconJump (n : Fin 16) : Statement (.beaconJump n) := of_none rfl
theorem bcnnJump (p : Partner) (n : Fin 16) (v : Word) : Statement (.bcnnJump p n v) :=
  of_some rfl rfl (by have := n.isLt; simp only [R.BCN_JUMP]; omega)
theorem bcnnJumpClr (p : Partner) (n : Fin 16) (v : Word) : Statement (.bcnnJumpClr p n v) :=
  of_some rfl rfl (by have := n.isLt; simp only [R.BCN_JUMP_CLR]; omega)
theorem bcnJmpEdge (n : Fin 16) (k : Fin 8) : Statement (.bcnJmpEdge n k) := of_none rfl
theorem beaconStreamBurst (n : Fin 16) : Statement (.beaconStreamBurst n) := of_none rfl
theorem beaconUnderrun (n : Fin 16) : Statement (.beaconUnderrun n) := of_none rfl
theorem beaconReadError (n : Fin 16) : Statement (.beaconReadError n) := of_none rfl
theorem beaconUnitsRead (p : Partner) (n : Fin 16) : Statement (.beaconUnitsRead p n) :=
  of_some rfl rfl (by have := n.isLt; simp only [R.BCN_UNITS_LO]; omega)
theorem schEntryCommit (p : Partner) (entry : Fin 2048) (v : Word) : Statement (.schEntryCommit p entry v) :=
  of_some rfl rfl (by have := entry.isLt; simp only [R.SCH_TABLE]; omega)
theorem lntStart (entry : Fin 2048) : Statement (.lntStart entry) := of_none rfl
theorem lntStop (entry : Fin 2048) : Statement (.lntStop entry) := of_none rfl
theorem bcnStart (entry : Fin 2048) : Statement (.bcnStart entry) := of_none rfl
theorem bcnStop (entry : Fin 2048) : Statement (.bcnStop entry) := of_none rfl
theorem schEvent (entry : Fin 2048) : Statement (.schEvent entry) := of_none rfl
theorem schPin (entry : Fin 2048) : Statement (.schPin entry) := of_none rfl
theorem schPulseEnd (pin : Fin 16) : Statement (.schPulseEnd pin) := of_none rfl
theorem schReload (entry : Fin 2048) : Statement (.schReload entry) := of_none rfl
theorem schSnap (entry : Fin 2048) : Statement (.schSnap entry) := of_none rfl
theorem schSwapArm (p : Partner) (v : Word) : Statement (.schSwapArm p v) :=
  of_some rfl rfl (by decide)
theorem schTableSwap : Statement .schTableSwap := of_none rfl
theorem schSwapCancel (p : Partner) (v : Word) : Statement (.schSwapCancel p v) :=
  of_some rfl rfl (by decide)
theorem statsGroupEnable (p : Partner) (g : Fin 16) (v : Word) : Statement (.statsGroupEnable p g v) :=
  of_some rfl rfl (by have := g.isLt; simp only [R.SCH_GRP_CTRL]; omega)
theorem statsSample (g : Fin 16) : Statement (.statsSample g) := of_none rfl
theorem snapshotCommit (g : Fin 16) : Statement (.snapshotCommit g) := of_none rfl
theorem snapshotWriteError (g : Fin 16) : Statement (.snapshotWriteError g) := of_none rfl
theorem taperNop (n : Fin 8) : Statement (.taperNop n) := of_none rfl
theorem taperHalt (n : Fin 8) : Statement (.taperHalt n) := of_none rfl
theorem taperBkpt (n : Fin 8) : Statement (.taperBkpt n) := of_none rfl
theorem taperJ (n : Fin 8) : Statement (.taperJ n) := of_none rfl
theorem taperCall (n : Fin 8) : Statement (.taperCall n) := of_none rfl
theorem taperRet (n : Fin 8) : Statement (.taperRet n) := of_none rfl
theorem taperJr (n : Fin 8) : Statement (.taperJr n) := of_none rfl
theorem taperLoop (n : Fin 8) : Statement (.taperLoop n) := of_none rfl
theorem taperLoopr (n : Fin 8) : Statement (.taperLoopr n) := of_none rfl
theorem taperLeave (n : Fin 8) : Statement (.taperLeave n) := of_none rfl
theorem taperWaitev (n : Fin 8) : Statement (.taperWaitev n) := of_none rfl
theorem taperEvend (n : Fin 8) : Statement (.taperEvend n) := of_none rfl
theorem taperSignal (n : Fin 8) : Statement (.taperSignal n) := of_none rfl
theorem taperWdog (n : Fin 8) : Statement (.taperWdog n) := of_none rfl
theorem taperMode (n : Fin 8) : Statement (.taperMode n) := of_none rfl
theorem taperDma (n : Fin 8) : Statement (.taperDma n) := of_none rfl
theorem taperDmaw (n : Fin 8) : Statement (.taperDmaw n) := of_none rfl
theorem taperMovi (n : Fin 8) : Statement (.taperMovi n) := of_none rfl
theorem taperMov (n : Fin 8) : Statement (.taperMov n) := of_none rfl
theorem taperLd (n : Fin 8) : Statement (.taperLd n) := of_none rfl
theorem taperSt (n : Fin 8) : Statement (.taperSt n) := of_none rfl
theorem taperLdi (n : Fin 8) : Statement (.taperLdi n) := of_none rfl
theorem taperSti (n : Fin 8) : Statement (.taperSti n) := of_none rfl
theorem taperLdp (n : Fin 8) : Statement (.taperLdp n) := of_none rfl
theorem taperStp (n : Fin 8) : Statement (.taperStp n) := of_none rfl
theorem taperLea (n : Fin 8) : Statement (.taperLea n) := of_none rfl
theorem taperExt (n : Fin 8) : Statement (.taperExt n) := of_none rfl
theorem taperPack (n : Fin 8) : Statement (.taperPack n) := of_none rfl
theorem taperGetg (n : Fin 8) : Statement (.taperGetg n) := of_none rfl
theorem taperPutg (n : Fin 8) : Statement (.taperPutg n) := of_none rfl
theorem taperPar (n : Fin 8) : Statement (.taperPar n) := of_none rfl
theorem taperMul (n : Fin 8) : Statement (.taperMul n) := of_none rfl
theorem taperMac (n : Fin 8) : Statement (.taperMac n) := of_none rfl
theorem taperMsb (n : Fin 8) : Statement (.taperMsb n) := of_none rfl
theorem taperMacrn (n : Fin 8) : Statement (.taperMacrn n) := of_none rfl
theorem taperMacmx (n : Fin 8) : Statement (.taperMacmx n) := of_none rfl
theorem taperAddh (n : Fin 8) : Statement (.taperAddh n) := of_none rfl
theorem taperSubh (n : Fin 8) : Statement (.taperSubh n) := of_none rfl
theorem taperAdda (n : Fin 8) : Statement (.taperAdda n) := of_none rfl
theorem taperSuba (n : Fin 8) : Statement (.taperSuba n) := of_none rfl
theorem taperZero (n : Fin 8) : Statement (.taperZero n) := of_none rfl
theorem taperNeg (n : Fin 8) : Statement (.taperNeg n) := of_none rfl
theorem taperAbs (n : Fin 8) : Statement (.taperAbs n) := of_none rfl
theorem taperRound (n : Fin 8) : Statement (.taperRound n) := of_none rfl
theorem taperClip (n : Fin 8) : Statement (.taperClip n) := of_none rfl
theorem taperSha (n : Fin 8) : Statement (.taperSha n) := of_none rfl
theorem taperShav (n : Fin 8) : Statement (.taperShav n) := of_none rfl
theorem taperNorm (n : Fin 8) : Statement (.taperNorm n) := of_none rfl
theorem taperCmpa (n : Fin 8) : Statement (.taperCmpa n) := of_none rfl
theorem taperMova (n : Fin 8) : Statement (.taperMova n) := of_none rfl
theorem taperAdd (n : Fin 8) : Statement (.taperAdd n) := of_none rfl
theorem taperSub (n : Fin 8) : Statement (.taperSub n) := of_none rfl
theorem taperAnd (n : Fin 8) : Statement (.taperAnd n) := of_none rfl
theorem taperOr (n : Fin 8) : Statement (.taperOr n) := of_none rfl
theorem taperXor (n : Fin 8) : Statement (.taperXor n) := of_none rfl
theorem taperShl (n : Fin 8) : Statement (.taperShl n) := of_none rfl
theorem taperShr (n : Fin 8) : Statement (.taperShr n) := of_none rfl
theorem taperShra (n : Fin 8) : Statement (.taperShra n) := of_none rfl
theorem taperAddi (n : Fin 8) : Statement (.taperAddi n) := of_none rfl
theorem taperCmp (n : Fin 8) : Statement (.taperCmp n) := of_none rfl
theorem taperBrev (n : Fin 8) : Statement (.taperBrev n) := of_none rfl
theorem taperPopc (n : Fin 8) : Statement (.taperPopc n) := of_none rfl
theorem taperIllegal (n : Fin 8) : Statement (.taperIllegal n) := of_none rfl
theorem taperRun (p : Partner) (n : Fin 8) (v : Word) : Statement (.taperRun p n v) :=
  of_some rfl rfl (by have := n.isLt; simp only [R.TPR_CTRL]; omega)
theorem taperHostHalt (p : Partner) (n : Fin 8) (v : Word) : Statement (.taperHostHalt p n v) :=
  of_some rfl rfl (by have := n.isLt; simp only [R.TPR_CTRL]; omega)
theorem taperStep (p : Partner) (n : Fin 8) (v : Word) : Statement (.taperStep p n v) :=
  of_some rfl rfl (by have := n.isLt; simp only [R.TPR_CTRL]; omega)
theorem taperDoorbell (p : Partner) (n : Fin 8) (v : Word) : Statement (.taperDoorbell p n v) :=
  of_some rfl rfl (by have := n.isLt; simp only [R.TPR_MAILBOX]; omega)
theorem taperStateWrite (p : Partner) (n : Fin 8) (which : Fin 45) (v : Word) : Statement (.taperStateWrite p n which v) :=
  of_some rfl rfl (by have := n.isLt; simp only [R.TPR_CTRL]; omega)
theorem taperMemoryAccess (n : Fin 8) : Statement (.taperMemoryAccess n) := of_none rfl
theorem dmaDescriptorComplete (n : Fin 8) (c : Fin 2) : Statement (.dmaDescriptorComplete n c) := of_none rfl
theorem taperWatchdogExpiry (n : Fin 8) : Statement (.taperWatchdogExpiry n) := of_none rfl
theorem backboneRequest (m : Fin 128) (write : Bool) (addr : LocalAddr) (len : Nat) (data : List Byte) (be : List Bool) (deadline : Option TT64) (panic : Bool) :
    Statement (.backboneRequest m write addr len data be deadline panic) := of_none rfl
theorem arbitrationDecision (k : Fin 21) : Statement (.arbitrationDecision k) := of_none rfl
theorem grantRevocation (k : Fin 21) : Statement (.grantRevocation k) := of_none rfl
theorem writeCommit (k : Fin 21) : Statement (.writeCommit k) := of_none rfl
theorem arbitrationWindowExpiry (k : Fin 21) : Statement (.arbitrationWindowExpiry k) := of_none rfl
theorem pointConfigWrite (p : Partner) (k : Fin 21) (quota : Bool) (v : Word) : Statement (.pointConfigWrite p k quota v) :=
  of_some rfl rfl (by have := k.isLt; cases quota <;> simp only [R.BB_PT_CTRL, R.BB_PT_QUOTA, if_true, if_false, Bool.false_eq_true] <;> omega)
theorem backboneLockup (k : Fin 21) : Statement (.backboneLockup k) := of_none rfl
theorem bbRuleCommit (p : Partner) (v : Word) : Statement (.bbRuleCommit p v) :=
  of_some rfl rfl (by decide)
theorem rulesDrained : Statement .rulesDrained := of_none rfl
theorem lockAcquire (m : Fin 128) (k : Fin 64) : Statement (.lockAcquire m k) := of_none rfl
theorem lockRelease (m : Fin 128) (k : Fin 64) (v : Word) : Statement (.lockRelease m k v) := of_none rfl
theorem lockForce (m : Fin 128) (k : Fin 64) (v : Word) : Statement (.lockForce m k v) := of_none rfl
theorem mcEnable (p : Partner) (n : Fin 4) (v : Word) : Statement (.mcEnable p n v) :=
  of_some rfl rfl (by have := n.isLt; simp only [R.MC_CTRL]; omega)
theorem mcTrainingComplete (sc : Fin 8) : Statement (.mcTrainingComplete sc) := of_none rfl
theorem mcTrainingFail (sc : Fin 8) : Statement (.mcTrainingFail sc) := of_none rfl
theorem mcSelfRefreshExit (sc : Fin 8) : Statement (.mcSelfRefreshExit sc) := of_none rfl
theorem mcDisable (p : Partner) (n : Fin 4) (v : Word) : Statement (.mcDisable p n v) :=
  of_some rfl rfl (by have := n.isLt; simp only [R.MC_CTRL]; omega)
theorem mcSelfRefreshEntry (sc : Fin 8) : Statement (.mcSelfRefreshEntry sc) := of_none rfl
theorem mcConfigWrite (p : Partner) (n : Fin 4) (v : Word) : Statement (.mcConfigWrite p n v) :=
  of_some rfl rfl (by have := n.isLt; simp only [R.MC_CFG]; omega)
theorem mcRetrainDue (sc : Fin 8) : Statement (.mcRetrainDue sc) := of_none rfl
theorem mcRetrainStart (sc : Fin 8) : Statement (.mcRetrainStart sc) := of_none rfl
theorem mcRetrainDeferLong (sc : Fin 8) : Statement (.mcRetrainDeferLong sc) := of_none rfl
theorem mcScheduleDecision (sc : Fin 8) : Statement (.mcScheduleDecision sc) := of_none rfl
theorem rhWindowExpiry (n : Fin 4) : Statement (.rhWindowExpiry n) := of_none rfl
theorem throttleExpiry (m : Fin 128) : Statement (.throttleExpiry m) := of_none rfl
theorem mcRefreshDue (sc : Fin 8) (rank : Fin 2) : Statement (.mcRefreshDue sc rank) := of_none rfl
theorem mcPostponedRefresh (sc : Fin 8) (rank : Fin 2) : Statement (.mcPostponedRefresh sc rank) := of_none rfl
theorem mcRefreshRatePoll (n : Fin 4) (double : Bool) : Statement (.mcRefreshRatePoll n double) := of_none rfl
theorem memoryLineRead (sc : Fin 8) : Statement (.memoryLineRead sc) := of_none rfl
theorem memoryPartialWrite (sc : Fin 8) : Statement (.memoryPartialWrite sc) := of_none rfl
theorem memoryLineWrite (sc : Fin 8) : Statement (.memoryLineWrite sc) := of_none rfl
theorem mcPllLossOfLock (n : Fin 4) : Statement (.mcPllLossOfLock n) := of_none rfl
theorem stgPortAAccess (g : Fin 12) : Statement (.stgPortAAccess g) := of_none rfl
theorem stgPortBAccess (b : Fin 48) : Statement (.stgPortBAccess b) := of_none rfl
theorem stgBitSet (g : Fin 12) : Statement (.stgBitSet g) := of_none rfl
theorem stgBitClear (g : Fin 12) : Statement (.stgBitClear g) := of_none rfl
theorem stgBankReq (p : Partner) (b : Fin 48) (v : Word) : Statement (.stgBankReq p b v) :=
  of_some rfl rfl (by have := b.isLt; simp only [R.STG_BANK]; omega)
theorem stgBankStateReached (b : Fin 48) : Statement (.stgBankStateReached b) := of_none rfl
theorem stgScrubRead : Statement .stgScrubRead := of_none rfl
theorem shdKeyLoad (p : Partner) (v : Word) : Statement (.shdKeyLoad p v) :=
  of_some rfl rfl (by decide)
theorem shadeKeyLoadComplete : Statement .shadeKeyLoadComplete := of_none rfl
theorem shdCommit (p : Partner) (v : Word) : Statement (.shdCommit p v) :=
  of_some rfl rfl (by decide)
theorem shadeDrained : Statement .shadeDrained := of_none rfl
theorem psmProgram (p : Partner) (v : Word) : Statement (.psmProgram p v) :=
  of_some rfl rfl (by decide)
theorem psmProgramPulseDone (ok : Bool) : Statement (.psmProgramPulseDone ok) := of_none rfl
theorem psmErase (p : Partner) (v : Word) : Statement (.psmErase p v) :=
  of_some rfl rfl (by decide)
theorem psmEraseSliceEnd (ok : Bool) : Statement (.psmEraseSliceEnd ok) := of_none rfl
theorem psmSuspend (p : Partner) (v : Word) : Statement (.psmSuspend p v) :=
  of_some rfl rfl (by decide)
theorem psmResume (p : Partner) (v : Word) : Statement (.psmResume p v) :=
  of_some rfl rfl (by decide)
theorem psmBadOp (p : Partner) (key : Bool) (v : Word) : Statement (.psmBadOp p key v) :=
  of_some rfl rfl (by cases key <;> decide)
theorem keyWrite (p : Partner) (v : Word) : Statement (.keyWrite p v) :=
  of_some rfl rfl (by decide)
theorem keyErase (p : Partner) (v : Word) : Statement (.keyErase p v) :=
  of_some rfl rfl (by decide)
theorem psmWindowRead : Statement .psmWindowRead := of_none rfl
theorem psmWindowWrite (m : Fin 128) (addr : BitVec 23) : Statement (.psmWindowWrite m addr) := of_none rfl
theorem sourceEvent (n : Fin 256) : Statement (.sourceEvent n) := of_none rfl
theorem moderationTimerExpiry : Statement .moderationTimerExpiry := of_none rfl
theorem evcRaise (p : Partner) (v : Word) : Statement (.evcRaise p v) :=
  of_some rfl rfl (by decide)
theorem evcSourceConfigWrite (p : Partner) (n : Fin 256) (v : Word) : Statement (.evcSourceConfigWrite p n v) :=
  of_some rfl rfl (by have := n.isLt; simp only [R.EVC_STATUS]; omega)
theorem evcEnd (p : Partner) (w : Fin 8) (v : Word) : Statement (.evcEnd p w v) :=
  of_some rfl rfl (by have := w.isLt; simp only [R.EVC_END]; omega)
theorem rasInjectArm (p : Partner) (v : Word) : Statement (.rasInjectArm p v) :=
  of_some rfl rfl (by decide)
theorem rasPop (p : Partner) (v : Word) : Statement (.rasPop p v) :=
  of_some rfl rfl (by decide)
theorem mcScrubRead : Statement .mcScrubRead := of_none rfl
theorem bramScrubRead : Statement .bramScrubRead := of_none rfl
theorem psmScanRead : Statement .psmScanRead := of_none rfl
theorem criticalParityError (item : Fin 8) : Statement (.criticalParityError item) := of_none rfl
theorem systemWatchdogExpiry : Statement .systemWatchdogExpiry := of_none rfl
theorem rasWdogKick (p : Partner) (v : Word) : Statement (.rasWdogKick p v) :=
  of_some rfl rfl (by decide)
theorem rasWdogLimitWrite (p : Partner) (v : Word) : Statement (.rasWdogLimitWrite p v) :=
  of_some rfl rfl (by decide)
theorem clockFailure (c : Fin 4) : Statement (.clockFailure c) := of_none rfl
theorem jtagDebugRequest : Statement .jtagDebugRequest := of_none rfl
theorem readBurstComplete : Statement .readBurstComplete := of_none rfl
theorem mcRetrainComplete (sc : Fin 8) : Statement (.mcRetrainComplete sc) := of_none rfl
theorem drainUsExpiry (n : Fin 24) : Statement (.drainUsExpiry n) := of_none rfl
theorem deskewMarkerDisagree (g : Fin 16) : Statement (.deskewMarkerDisagree g) := of_none rfl
theorem ctsNChange (n : Fin 4) (high : Bool) : Statement (.ctsNChange n high) := of_none rfl

end Sys2Proof.Laws.OperandForm
end

