-- ==== Sys2Proof/Laws/Sparse.lean ====
section
/-!
SUPPORT. Sys2Proof/Laws/Sparse.lean: reads after writes of sorted-list maps, the canonical form that every write keeps, and
reads after writes of fixed rows and of fields in words.
-/

namespace Sys2Proof.Machine

/-! ### Reads after writes -/

section
variable {α : Type}

theorem sget_sremove_same (d : Nat → α) (m : List (Nat × α)) (a : Nat) : sget d (sremove a m) a = d a := by
  induction m with
  | nil => rfl
  | cons p m ih =>
    obtain ⟨k, w⟩ := p
    by_cases h : k = a
    · simpa [sremove, h] using ih
    · simpa [sremove, sget, h] using ih

theorem sget_sremove_ne (d : Nat → α) (m : List (Nat × α)) {a b : Nat} (h : b ≠ a) :
    sget d (sremove a m) b = sget d m b := by
  induction m with
  | nil => rfl
  | cons p m ih =>
    obtain ⟨k, w⟩ := p
    by_cases hk : k = a
    · have hb : k ≠ b := fun e => h (e.symm.trans hk)
      simp only [sremove, if_pos hk, sget, if_neg hb, ih]
    · simp only [sremove, if_neg hk, sget, ih]

theorem sget_sinsert_same (d : Nat → α) (m : List (Nat × α)) (a : Nat) (v : α) (h : ∀ p ∈ m, p.1 ≠ a) :
    sget d (sinsert a v m) a = v := by
  induction m with
  | nil => simp [sinsert, sget]
  | cons p m ih =>
    obtain ⟨k, w⟩ := p
    have hk : k ≠ a := h (k, w) (by simp)
    by_cases hl : a < k
    · simp [sinsert, sget, hl]
    · simpa [sinsert, sget, hl, hk] using ih fun q hq => h q (by simp [hq])

theorem sget_sinsert_ne (d : Nat → α) (m : List (Nat × α)) {a b : Nat} (v : α) (h : b ≠ a) :
    sget d (sinsert a v m) b = sget d m b := by
  induction m with
  | nil => simp only [sinsert, sget, if_neg (Ne.symm h)]
  | cons p m ih =>
    obtain ⟨k, w⟩ := p
    by_cases hl : a < k
    · simp only [sinsert, if_pos hl, sget, if_neg (Ne.symm h)]
    · simp only [sinsert, if_neg hl, sget, ih]

theorem not_mem_sremove (a : Nat) (m : List (Nat × α)) : ∀ p ∈ sremove a m, p.1 ≠ a := by
  induction m with
  | nil => simp [sremove]
  | cons p m ih =>
    obtain ⟨k, w⟩ := p
    by_cases h : k = a
    · simpa [sremove, h] using ih
    · simpa [sremove, h] using ih

variable [DecidableEq α]

/-- A write is read back. -/
@[simp] theorem sget_sset_same (d : Nat → α) (m : List (Nat × α)) (a : Nat) (v : α) : sget d (sset d m a v) a = v := by
  unfold sset
  split
  · next h => rw [sget_sremove_same, h]
  · exact sget_sinsert_same d _ a v (not_mem_sremove a m)

/-- A write leaves every other address alone. -/
theorem sget_sset_ne (d : Nat → α) (m : List (Nat × α)) {a b : Nat} (v : α) (h : b ≠ a) :
    sget d (sset d m a v) b = sget d m b := by
  unfold sset
  split
  · exact sget_sremove_ne d m h
  · rw [sget_sinsert_ne d _ v h, sget_sremove_ne d m h]

/-! ### The canonical form -/

theorem swfFrom_mono (d : Nat → α) {lo lo' : Nat} (m : List (Nat × α)) (h : lo' ≤ lo) (w : swfFrom d lo m = true) :
    swfFrom d lo' m = true := by
  cases m with
  | nil => rfl
  | cons p m =>
    obtain ⟨k, x⟩ := p
    simp only [swfFrom, Bool.and_eq_true, decide_eq_true_eq] at w ⊢
    exact ⟨⟨le_trans h w.1.1, w.1.2⟩, w.2⟩

theorem swfFrom_sremove (d : Nat → α) (a lo : Nat) (m : List (Nat × α)) (w : swfFrom d lo m = true) :
    swfFrom d lo (sremove a m) = true := by
  induction m generalizing lo with
  | nil => rfl
  | cons p m ih =>
    obtain ⟨k, x⟩ := p
    simp only [swfFrom, Bool.and_eq_true, decide_eq_true_eq] at w
    by_cases h : k = a
    · simpa [sremove, h] using swfFrom_mono d _ (by omega) (ih (k + 1) w.2)
    · simp only [sremove, h, if_false, swfFrom, Bool.and_eq_true, decide_eq_true_eq]
      exact ⟨w.1, ih (k + 1) w.2⟩

theorem swfFrom_sinsert (d : Nat → α) (a lo : Nat) (v : α) (m : List (Nat × α)) (ha : lo ≤ a) (hv : v ≠ d a)
    (hm : ∀ p ∈ m, p.1 ≠ a) (w : swfFrom d lo m = true) : swfFrom d lo (sinsert a v m) = true := by
  induction m generalizing lo with
  | nil => simp [sinsert, swfFrom, ha, hv]
  | cons p m ih =>
    obtain ⟨k, x⟩ := p
    have w' := w
    simp only [swfFrom, Bool.and_eq_true, decide_eq_true_eq] at w
    have hk : k ≠ a := hm (k, x) (by simp)
    by_cases h : a < k
    · simp only [sinsert, h, if_true, swfFrom, Bool.and_eq_true, decide_eq_true_eq]
      exact ⟨⟨ha, by simp [hv]⟩, ⟨by omega, w.1.2⟩, w.2⟩
    · simp only [sinsert, h, if_false, swfFrom, Bool.and_eq_true, decide_eq_true_eq]
      exact ⟨w.1, ih (k + 1) (by omega) (fun q hq => hm q (by simp [hq])) w.2⟩

/-- Every write keeps the canonical form. -/
theorem swf_sset (d : Nat → α) (m : List (Nat × α)) (a : Nat) (v : α) (w : swf d m = true) :
    swf d (sset d m a v) = true := by
  unfold sset
  split
  · exact swfFrom_sremove d a 0 m w
  · next h => exact swfFrom_sinsert d a 0 v _ (Nat.zero_le a) h (not_mem_sremove a m) (swfFrom_sremove d a 0 m w)

/-- Removing an entry keeps the canonical form. -/
theorem swf_sremove (d : Nat → α) (m : List (Nat × α)) (a : Nat) (w : swf d m = true) : swf d (sremove a m) = true :=
  swfFrom_sremove d a 0 m w

/-- Taking entries away keeps the canonical form. -/
theorem swfFrom_filter (d : Nat → α) (p : Nat × α → Bool) (lo : Nat) (m : List (Nat × α)) (w : swfFrom d lo m = true) :
    swfFrom d lo (m.filter p) = true := by
  induction m generalizing lo with
  | nil => rfl
  | cons q m ih =>
    obtain ⟨k, x⟩ := q
    simp only [swfFrom, Bool.and_eq_true, decide_eq_true_eq] at w
    by_cases h : p (k, x) = true
    · simp only [List.filter_cons_of_pos h, swfFrom, Bool.and_eq_true, decide_eq_true_eq]
      exact ⟨w.1, ih (k + 1) w.2⟩
    · rw [List.filter_cons_of_neg h]
      exact swfFrom_mono d _ (by omega) (ih (k + 1) w.2)

theorem swf_filter (d : Nat → α) (p : Nat × α → Bool) (m : List (Nat × α)) (w : swf d m = true) :
    swf d (m.filter p) = true := swfFrom_filter d p 0 m w

end

/-- Storing bytes keeps the canonical form of a byte memory. -/
theorem swf_mput (d : Nat → Byte) (m : List Host.Cell) (a : Nat) (l : List Byte) (w : swf d m = true) :
    swf d (mput d m a l) = true := by
  induction l generalizing m a with
  | nil => exact w
  | cons b l ih => exact ih (sset d m a b) (a + 1) (swf_sset d m a b w)

/-- A byte outside the stored ones reads as before. -/
theorem sget_mput_outside (d : Nat → Byte) (m : List Host.Cell) (a x : Nat) (l : List Byte)
    (h : x < a ∨ a + l.length ≤ x) : sget d (mput d m a l) x = sget d m x := by
  induction l generalizing m a with
  | nil => rfl
  | cons b l ih =>
    simp only [List.length_cons] at h
    rw [mput, ih (sset d m a b) (a + 1) (by omega), sget_sset_ne d m b (by omega)]

/-! ### Fixed rows -/

@[simp] theorem vget_vset_same {α : Type} {n : Nat} (v : Vector α n) (i : Fin n) (x : α) : vget (vset v i x) i = x := by
  simp [vget, vset]

theorem vget_vset_ne {α : Type} {n : Nat} (v : Vector α n) {i j : Fin n} (x : α) (h : i ≠ j) :
    vget (vset v i x) j = vget v j := by
  have hv : i.val ≠ j.val := fun e => h (Fin.ext e)
  simp [vget, vset, hv]

/-! ### Fields -/

theorem ones_getLsbD (n i : Nat) (h : i < 32) : (ones n).getLsbD i = decide (i < n) := by
  rw [ones, BitVec.getLsbD_ofNat, Nat.testBit_two_pow_sub_one]
  simp [h]

theorem fieldGet_getLsbD (w : Word) (hi lo i : Nat) (h : i < 32) :
    (fieldGet w hi lo).getLsbD i = (w.getLsbD (lo + i) && decide (i < hi + 1 - lo)) := by
  rw [fieldGet, BitVec.getLsbD_and, ones_getLsbD _ _ h, BitVec.getLsbD_ushiftRight]

theorem maskOf_getLsbD (hi lo i : Nat) (h : i < 32) :
    (maskOf hi lo).getLsbD i = (decide (lo ≤ i) && decide (i - lo < hi + 1 - lo)) := by
  simp only [maskOf, BitVec.getLsbD_shiftLeft, h, decide_true, Bool.true_and]
  by_cases hl : i < lo
  · simp [hl]
  · rw [ones_getLsbD _ _ (by omega)]
    simp only [hl, decide_false, Bool.not_false, Bool.true_and]
    have : lo ≤ i := by omega
    simp [this]

theorem fieldSet_getLsbD (w v : Word) (hi lo i : Nat) (h : i < 32) :
    (fieldSet w hi lo v).getLsbD i =
      if lo ≤ i ∧ i ≤ hi then v.getLsbD (i - lo) else w.getLsbD i := by
  simp only [fieldSet, BitVec.getLsbD_or, BitVec.getLsbD_and, BitVec.getLsbD_not, h, decide_true, Bool.true_and,
    maskOf_getLsbD _ _ _ h, BitVec.getLsbD_shiftLeft]
  by_cases hl : lo ≤ i
  · by_cases hh : i ≤ hi
    · have h1 : i - lo < hi + 1 - lo := by omega
      have h2 : ¬ i < lo := by omega
      simp [hl, hh, h1, h2]
    · have h1 : ¬ i - lo < hi + 1 - lo := by omega
      simp [hl, hh, h1]
  · simp [hl]

/-- A field that was written reads as the value, cut to its width. -/
theorem fieldGet_fieldSet_same (w v : Word) (hi lo : Nat) (h : hi < 32) :
    fieldGet (fieldSet w hi lo v) hi lo = v &&& ones (hi + 1 - lo) := by
  apply BitVec.eq_of_getLsbD_eq
  intro i hi'
  rw [fieldGet_getLsbD _ _ _ _ hi', BitVec.getLsbD_and, ones_getLsbD _ _ hi']
  by_cases hb : i < hi + 1 - lo
  · rw [fieldSet_getLsbD _ _ _ _ _ (by omega), if_pos (by omega)]
    simp [hb]
  · simp [hb]

/-- A field beside the one written reads as before. -/
theorem fieldGet_fieldSet_disjoint (w v : Word) (hi lo hi' lo' : Nat) (h : hi' < 32)
    (hd : hi < lo' ∨ hi' < lo) : fieldGet (fieldSet w hi lo v) hi' lo' = fieldGet w hi' lo' := by
  apply BitVec.eq_of_getLsbD_eq
  intro i hi''
  rw [fieldGet_getLsbD _ _ _ _ hi'', fieldGet_getLsbD _ _ _ _ hi'']
  by_cases hb : i < hi' + 1 - lo'
  · rw [fieldSet_getLsbD _ _ _ _ _ (by omega), if_neg (by omega)]
  · simp [hb]

theorem and_ones_toNat (v : Word) (n : Nat) (h : n ≤ 32) : (v &&& ones n).toNat = v.toNat % 2 ^ n := by
  rw [BitVec.toNat_and, ones, BitVec.toNat_ofNat]
  have hp : (2 : Nat) ^ n ≤ 2 ^ 32 := Nat.pow_le_pow_right (by decide) h
  have hq : 0 < (2 : Nat) ^ n := Nat.pos_of_ne_zero (by simp)
  rw [Nat.mod_eq_of_lt (by omega), Nat.and_two_pow_sub_one_eq_mod]

end Sys2Proof.Machine
end

