-- ==== Sys2Proof/Laws/State.lean ====
section
/-!
SUPPORT. Sys2Proof/Laws/State.lean: for each basic operation and each part of the state, what the operation leaves there.
-/

namespace Sys2Proof.Machine

variable (s : State)

/-! ### `wr` -/

@[simp] theorem State.wr_clk (a : Nat) (v : Word) : (s.wr a v).clk = s.clk := rfl
@[simp] theorem State.wr_resp (a : Nat) (v : Word) : (s.wr a v).resp = s.resp := rfl
@[simp] theorem State.wr_tt (a : Nat) (v : Word) : (s.wr a v).tt = s.tt := rfl
@[simp] theorem State.wr_fil (a : Nat) (v : Word) : (s.wr a v).fil = s.fil := rfl
@[simp] theorem State.wr_rst (a : Nat) (v : Word) : (s.wr a v).rst = s.rst := rfl
@[simp] theorem State.wr_jtag (a : Nat) (v : Word) : (s.wr a v).jtag = s.jtag := rfl
@[simp] theorem State.wr_svp (a : Nat) (v : Word) : (s.wr a v).svp = s.svp := rfl
@[simp] theorem State.wr_bfp (a : Nat) (v : Word) : (s.wr a v).bfp = s.bfp := rfl
@[simp] theorem State.wr_cfg (a : Nat) (v : Word) : (s.wr a v).cfg = s.cfg := rfl
@[simp] theorem State.wr_rgn (a : Nat) (v : Word) : (s.wr a v).rgn = s.rgn := rfl
@[simp] theorem State.wr_fab (a : Nat) (v : Word) : (s.wr a v).fab = s.fab := rfl
@[simp] theorem State.wr_xcv (a : Nat) (v : Word) : (s.wr a v).xcv = s.xcv := rfl
@[simp] theorem State.wr_lnt (a : Nat) (v : Word) : (s.wr a v).lnt = s.lnt := rfl
@[simp] theorem State.wr_bcn (a : Nat) (v : Word) : (s.wr a v).bcn = s.bcn := rfl
@[simp] theorem State.wr_sch (a : Nat) (v : Word) : (s.wr a v).sch = s.sch := rfl
@[simp] theorem State.wr_tpr (a : Nat) (v : Word) : (s.wr a v).tpr = s.tpr := rfl
@[simp] theorem State.wr_bb (a : Nat) (v : Word) : (s.wr a v).bb = s.bb := rfl
@[simp] theorem State.wr_mem (a : Nat) (v : Word) : (s.wr a v).mem = s.mem := rfl
@[simp] theorem State.wr_stg (a : Nat) (v : Word) : (s.wr a v).stg = s.stg := rfl
@[simp] theorem State.wr_shd (a : Nat) (v : Word) : (s.wr a v).shd = s.shd := rfl
@[simp] theorem State.wr_psm (a : Nat) (v : Word) : (s.wr a v).psm = s.psm := rfl
@[simp] theorem State.wr_evc (a : Nat) (v : Word) : (s.wr a v).evc = s.evc := rfl
@[simp] theorem State.wr_ras (a : Nat) (v : Word) : (s.wr a v).ras = s.ras := rfl
@[simp] theorem State.wr_pending (a : Nat) (v : Word) : (s.wr a v).pending = s.pending := rfl

/-! ### `set` -/

@[simp] theorem State.set_clk (f : Field) (v : Nat) : (s.set f v).clk = s.clk := rfl
@[simp] theorem State.set_resp (f : Field) (v : Nat) : (s.set f v).resp = s.resp := rfl
@[simp] theorem State.set_tt (f : Field) (v : Nat) : (s.set f v).tt = s.tt := rfl
@[simp] theorem State.set_fil (f : Field) (v : Nat) : (s.set f v).fil = s.fil := rfl
@[simp] theorem State.set_rst (f : Field) (v : Nat) : (s.set f v).rst = s.rst := rfl
@[simp] theorem State.set_jtag (f : Field) (v : Nat) : (s.set f v).jtag = s.jtag := rfl
@[simp] theorem State.set_svp (f : Field) (v : Nat) : (s.set f v).svp = s.svp := rfl
@[simp] theorem State.set_bfp (f : Field) (v : Nat) : (s.set f v).bfp = s.bfp := rfl
@[simp] theorem State.set_cfg (f : Field) (v : Nat) : (s.set f v).cfg = s.cfg := rfl
@[simp] theorem State.set_rgn (f : Field) (v : Nat) : (s.set f v).rgn = s.rgn := rfl
@[simp] theorem State.set_fab (f : Field) (v : Nat) : (s.set f v).fab = s.fab := rfl
@[simp] theorem State.set_xcv (f : Field) (v : Nat) : (s.set f v).xcv = s.xcv := rfl
@[simp] theorem State.set_lnt (f : Field) (v : Nat) : (s.set f v).lnt = s.lnt := rfl
@[simp] theorem State.set_bcn (f : Field) (v : Nat) : (s.set f v).bcn = s.bcn := rfl
@[simp] theorem State.set_sch (f : Field) (v : Nat) : (s.set f v).sch = s.sch := rfl
@[simp] theorem State.set_tpr (f : Field) (v : Nat) : (s.set f v).tpr = s.tpr := rfl
@[simp] theorem State.set_bb (f : Field) (v : Nat) : (s.set f v).bb = s.bb := rfl
@[simp] theorem State.set_mem (f : Field) (v : Nat) : (s.set f v).mem = s.mem := rfl
@[simp] theorem State.set_stg (f : Field) (v : Nat) : (s.set f v).stg = s.stg := rfl
@[simp] theorem State.set_shd (f : Field) (v : Nat) : (s.set f v).shd = s.shd := rfl
@[simp] theorem State.set_psm (f : Field) (v : Nat) : (s.set f v).psm = s.psm := rfl
@[simp] theorem State.set_evc (f : Field) (v : Nat) : (s.set f v).evc = s.evc := rfl
@[simp] theorem State.set_ras (f : Field) (v : Nat) : (s.set f v).ras = s.ras := rfl
@[simp] theorem State.set_pending (f : Field) (v : Nat) : (s.set f v).pending = s.pending := rfl

/-! ### `setB` -/

@[simp] theorem State.setB_clk (f : Field) (b : Bool) : (s.setB f b).clk = s.clk := rfl
@[simp] theorem State.setB_resp (f : Field) (b : Bool) : (s.setB f b).resp = s.resp := rfl
@[simp] theorem State.setB_tt (f : Field) (b : Bool) : (s.setB f b).tt = s.tt := rfl
@[simp] theorem State.setB_fil (f : Field) (b : Bool) : (s.setB f b).fil = s.fil := rfl
@[simp] theorem State.setB_rst (f : Field) (b : Bool) : (s.setB f b).rst = s.rst := rfl
@[simp] theorem State.setB_jtag (f : Field) (b : Bool) : (s.setB f b).jtag = s.jtag := rfl
@[simp] theorem State.setB_svp (f : Field) (b : Bool) : (s.setB f b).svp = s.svp := rfl
@[simp] theorem State.setB_bfp (f : Field) (b : Bool) : (s.setB f b).bfp = s.bfp := rfl
@[simp] theorem State.setB_cfg (f : Field) (b : Bool) : (s.setB f b).cfg = s.cfg := rfl
@[simp] theorem State.setB_rgn (f : Field) (b : Bool) : (s.setB f b).rgn = s.rgn := rfl
@[simp] theorem State.setB_fab (f : Field) (b : Bool) : (s.setB f b).fab = s.fab := rfl
@[simp] theorem State.setB_xcv (f : Field) (b : Bool) : (s.setB f b).xcv = s.xcv := rfl
@[simp] theorem State.setB_lnt (f : Field) (b : Bool) : (s.setB f b).lnt = s.lnt := rfl
@[simp] theorem State.setB_bcn (f : Field) (b : Bool) : (s.setB f b).bcn = s.bcn := rfl
@[simp] theorem State.setB_sch (f : Field) (b : Bool) : (s.setB f b).sch = s.sch := rfl
@[simp] theorem State.setB_tpr (f : Field) (b : Bool) : (s.setB f b).tpr = s.tpr := rfl
@[simp] theorem State.setB_bb (f : Field) (b : Bool) : (s.setB f b).bb = s.bb := rfl
@[simp] theorem State.setB_mem (f : Field) (b : Bool) : (s.setB f b).mem = s.mem := rfl
@[simp] theorem State.setB_stg (f : Field) (b : Bool) : (s.setB f b).stg = s.stg := rfl
@[simp] theorem State.setB_shd (f : Field) (b : Bool) : (s.setB f b).shd = s.shd := rfl
@[simp] theorem State.setB_psm (f : Field) (b : Bool) : (s.setB f b).psm = s.psm := rfl
@[simp] theorem State.setB_evc (f : Field) (b : Bool) : (s.setB f b).evc = s.evc := rfl
@[simp] theorem State.setB_ras (f : Field) (b : Bool) : (s.setB f b).ras = s.ras := rfl
@[simp] theorem State.setB_pending (f : Field) (b : Bool) : (s.setB f b).pending = s.pending := rfl

/-! ### `incSat` -/

@[simp] theorem State.incSat_clk (f : Field) : (s.incSat f).clk = s.clk := rfl
@[simp] theorem State.incSat_resp (f : Field) : (s.incSat f).resp = s.resp := rfl
@[simp] theorem State.incSat_tt (f : Field) : (s.incSat f).tt = s.tt := rfl
@[simp] theorem State.incSat_fil (f : Field) : (s.incSat f).fil = s.fil := rfl
@[simp] theorem State.incSat_rst (f : Field) : (s.incSat f).rst = s.rst := rfl
@[simp] theorem State.incSat_jtag (f : Field) : (s.incSat f).jtag = s.jtag := rfl
@[simp] theorem State.incSat_svp (f : Field) : (s.incSat f).svp = s.svp := rfl
@[simp] theorem State.incSat_bfp (f : Field) : (s.incSat f).bfp = s.bfp := rfl
@[simp] theorem State.incSat_cfg (f : Field) : (s.incSat f).cfg = s.cfg := rfl
@[simp] theorem State.incSat_rgn (f : Field) : (s.incSat f).rgn = s.rgn := rfl
@[simp] theorem State.incSat_fab (f : Field) : (s.incSat f).fab = s.fab := rfl
@[simp] theorem State.incSat_xcv (f : Field) : (s.incSat f).xcv = s.xcv := rfl
@[simp] theorem State.incSat_lnt (f : Field) : (s.incSat f).lnt = s.lnt := rfl
@[simp] theorem State.incSat_bcn (f : Field) : (s.incSat f).bcn = s.bcn := rfl
@[simp] theorem State.incSat_sch (f : Field) : (s.incSat f).sch = s.sch := rfl
@[simp] theorem State.incSat_tpr (f : Field) : (s.incSat f).tpr = s.tpr := rfl
@[simp] theorem State.incSat_bb (f : Field) : (s.incSat f).bb = s.bb := rfl
@[simp] theorem State.incSat_mem (f : Field) : (s.incSat f).mem = s.mem := rfl
@[simp] theorem State.incSat_stg (f : Field) : (s.incSat f).stg = s.stg := rfl
@[simp] theorem State.incSat_shd (f : Field) : (s.incSat f).shd = s.shd := rfl
@[simp] theorem State.incSat_psm (f : Field) : (s.incSat f).psm = s.psm := rfl
@[simp] theorem State.incSat_evc (f : Field) : (s.incSat f).evc = s.evc := rfl
@[simp] theorem State.incSat_ras (f : Field) : (s.incSat f).ras = s.ras := rfl
@[simp] theorem State.incSat_pending (f : Field) : (s.incSat f).pending = s.pending := rfl

/-! ### `addWrap` -/

@[simp] theorem State.addWrap_clk (f : Field) (n : Nat) : (s.addWrap f n).clk = s.clk := rfl
@[simp] theorem State.addWrap_resp (f : Field) (n : Nat) : (s.addWrap f n).resp = s.resp := rfl
@[simp] theorem State.addWrap_tt (f : Field) (n : Nat) : (s.addWrap f n).tt = s.tt := rfl
@[simp] theorem State.addWrap_fil (f : Field) (n : Nat) : (s.addWrap f n).fil = s.fil := rfl
@[simp] theorem State.addWrap_rst (f : Field) (n : Nat) : (s.addWrap f n).rst = s.rst := rfl
@[simp] theorem State.addWrap_jtag (f : Field) (n : Nat) : (s.addWrap f n).jtag = s.jtag := rfl
@[simp] theorem State.addWrap_svp (f : Field) (n : Nat) : (s.addWrap f n).svp = s.svp := rfl
@[simp] theorem State.addWrap_bfp (f : Field) (n : Nat) : (s.addWrap f n).bfp = s.bfp := rfl
@[simp] theorem State.addWrap_cfg (f : Field) (n : Nat) : (s.addWrap f n).cfg = s.cfg := rfl
@[simp] theorem State.addWrap_rgn (f : Field) (n : Nat) : (s.addWrap f n).rgn = s.rgn := rfl
@[simp] theorem State.addWrap_fab (f : Field) (n : Nat) : (s.addWrap f n).fab = s.fab := rfl
@[simp] theorem State.addWrap_xcv (f : Field) (n : Nat) : (s.addWrap f n).xcv = s.xcv := rfl
@[simp] theorem State.addWrap_lnt (f : Field) (n : Nat) : (s.addWrap f n).lnt = s.lnt := rfl
@[simp] theorem State.addWrap_bcn (f : Field) (n : Nat) : (s.addWrap f n).bcn = s.bcn := rfl
@[simp] theorem State.addWrap_sch (f : Field) (n : Nat) : (s.addWrap f n).sch = s.sch := rfl
@[simp] theorem State.addWrap_tpr (f : Field) (n : Nat) : (s.addWrap f n).tpr = s.tpr := rfl
@[simp] theorem State.addWrap_bb (f : Field) (n : Nat) : (s.addWrap f n).bb = s.bb := rfl
@[simp] theorem State.addWrap_mem (f : Field) (n : Nat) : (s.addWrap f n).mem = s.mem := rfl
@[simp] theorem State.addWrap_stg (f : Field) (n : Nat) : (s.addWrap f n).stg = s.stg := rfl
@[simp] theorem State.addWrap_shd (f : Field) (n : Nat) : (s.addWrap f n).shd = s.shd := rfl
@[simp] theorem State.addWrap_psm (f : Field) (n : Nat) : (s.addWrap f n).psm = s.psm := rfl
@[simp] theorem State.addWrap_evc (f : Field) (n : Nat) : (s.addWrap f n).evc = s.evc := rfl
@[simp] theorem State.addWrap_ras (f : Field) (n : Nat) : (s.addWrap f n).ras = s.ras := rfl
@[simp] theorem State.addWrap_pending (f : Field) (n : Nat) : (s.addWrap f n).pending = s.pending := rfl

/-! ### `set64` -/

@[simp] theorem State.set64_clk (lo hi v : Nat) : (s.set64 lo hi v).clk = s.clk := rfl
@[simp] theorem State.set64_resp (lo hi v : Nat) : (s.set64 lo hi v).resp = s.resp := rfl
@[simp] theorem State.set64_tt (lo hi v : Nat) : (s.set64 lo hi v).tt = s.tt := rfl
@[simp] theorem State.set64_fil (lo hi v : Nat) : (s.set64 lo hi v).fil = s.fil := rfl
@[simp] theorem State.set64_rst (lo hi v : Nat) : (s.set64 lo hi v).rst = s.rst := rfl
@[simp] theorem State.set64_jtag (lo hi v : Nat) : (s.set64 lo hi v).jtag = s.jtag := rfl
@[simp] theorem State.set64_svp (lo hi v : Nat) : (s.set64 lo hi v).svp = s.svp := rfl
@[simp] theorem State.set64_bfp (lo hi v : Nat) : (s.set64 lo hi v).bfp = s.bfp := rfl
@[simp] theorem State.set64_cfg (lo hi v : Nat) : (s.set64 lo hi v).cfg = s.cfg := rfl
@[simp] theorem State.set64_rgn (lo hi v : Nat) : (s.set64 lo hi v).rgn = s.rgn := rfl
@[simp] theorem State.set64_fab (lo hi v : Nat) : (s.set64 lo hi v).fab = s.fab := rfl
@[simp] theorem State.set64_xcv (lo hi v : Nat) : (s.set64 lo hi v).xcv = s.xcv := rfl
@[simp] theorem State.set64_lnt (lo hi v : Nat) : (s.set64 lo hi v).lnt = s.lnt := rfl
@[simp] theorem State.set64_bcn (lo hi v : Nat) : (s.set64 lo hi v).bcn = s.bcn := rfl
@[simp] theorem State.set64_sch (lo hi v : Nat) : (s.set64 lo hi v).sch = s.sch := rfl
@[simp] theorem State.set64_tpr (lo hi v : Nat) : (s.set64 lo hi v).tpr = s.tpr := rfl
@[simp] theorem State.set64_bb (lo hi v : Nat) : (s.set64 lo hi v).bb = s.bb := rfl
@[simp] theorem State.set64_mem (lo hi v : Nat) : (s.set64 lo hi v).mem = s.mem := rfl
@[simp] theorem State.set64_stg (lo hi v : Nat) : (s.set64 lo hi v).stg = s.stg := rfl
@[simp] theorem State.set64_shd (lo hi v : Nat) : (s.set64 lo hi v).shd = s.shd := rfl
@[simp] theorem State.set64_psm (lo hi v : Nat) : (s.set64 lo hi v).psm = s.psm := rfl
@[simp] theorem State.set64_evc (lo hi v : Nat) : (s.set64 lo hi v).evc = s.evc := rfl
@[simp] theorem State.set64_ras (lo hi v : Nat) : (s.set64 lo hi v).ras = s.ras := rfl
@[simp] theorem State.set64_pending (lo hi v : Nat) : (s.set64 lo hi v).pending = s.pending := rfl

/-! ### `writeByAcc` -/

@[simp] theorem State.writeByAcc_clk (a : Nat) (v : Word) : (s.writeByAcc a v).clk = s.clk := rfl
@[simp] theorem State.writeByAcc_resp (a : Nat) (v : Word) : (s.writeByAcc a v).resp = s.resp := rfl
@[simp] theorem State.writeByAcc_tt (a : Nat) (v : Word) : (s.writeByAcc a v).tt = s.tt := rfl
@[simp] theorem State.writeByAcc_fil (a : Nat) (v : Word) : (s.writeByAcc a v).fil = s.fil := rfl
@[simp] theorem State.writeByAcc_rst (a : Nat) (v : Word) : (s.writeByAcc a v).rst = s.rst := rfl
@[simp] theorem State.writeByAcc_jtag (a : Nat) (v : Word) : (s.writeByAcc a v).jtag = s.jtag := rfl
@[simp] theorem State.writeByAcc_svp (a : Nat) (v : Word) : (s.writeByAcc a v).svp = s.svp := rfl
@[simp] theorem State.writeByAcc_bfp (a : Nat) (v : Word) : (s.writeByAcc a v).bfp = s.bfp := rfl
@[simp] theorem State.writeByAcc_cfg (a : Nat) (v : Word) : (s.writeByAcc a v).cfg = s.cfg := rfl
@[simp] theorem State.writeByAcc_rgn (a : Nat) (v : Word) : (s.writeByAcc a v).rgn = s.rgn := rfl
@[simp] theorem State.writeByAcc_fab (a : Nat) (v : Word) : (s.writeByAcc a v).fab = s.fab := rfl
@[simp] theorem State.writeByAcc_xcv (a : Nat) (v : Word) : (s.writeByAcc a v).xcv = s.xcv := rfl
@[simp] theorem State.writeByAcc_lnt (a : Nat) (v : Word) : (s.writeByAcc a v).lnt = s.lnt := rfl
@[simp] theorem State.writeByAcc_bcn (a : Nat) (v : Word) : (s.writeByAcc a v).bcn = s.bcn := rfl
@[simp] theorem State.writeByAcc_sch (a : Nat) (v : Word) : (s.writeByAcc a v).sch = s.sch := rfl
@[simp] theorem State.writeByAcc_tpr (a : Nat) (v : Word) : (s.writeByAcc a v).tpr = s.tpr := rfl
@[simp] theorem State.writeByAcc_bb (a : Nat) (v : Word) : (s.writeByAcc a v).bb = s.bb := rfl
@[simp] theorem State.writeByAcc_mem (a : Nat) (v : Word) : (s.writeByAcc a v).mem = s.mem := rfl
@[simp] theorem State.writeByAcc_stg (a : Nat) (v : Word) : (s.writeByAcc a v).stg = s.stg := rfl
@[simp] theorem State.writeByAcc_shd (a : Nat) (v : Word) : (s.writeByAcc a v).shd = s.shd := rfl
@[simp] theorem State.writeByAcc_psm (a : Nat) (v : Word) : (s.writeByAcc a v).psm = s.psm := rfl
@[simp] theorem State.writeByAcc_evc (a : Nat) (v : Word) : (s.writeByAcc a v).evc = s.evc := rfl
@[simp] theorem State.writeByAcc_ras (a : Nat) (v : Word) : (s.writeByAcc a v).ras = s.ras := rfl
@[simp] theorem State.writeByAcc_pending (a : Nat) (v : Word) : (s.writeByAcc a v).pending = s.pending := rfl

/-! ### `answer` -/

@[simp] theorem State.answer_regs (p : Requester) (e : Status) (w : Word) : (s.answer p e w).regs = s.regs := rfl
@[simp] theorem State.answer_clk (p : Requester) (e : Status) (w : Word) : (s.answer p e w).clk = s.clk := rfl
@[simp] theorem State.answer_tt (p : Requester) (e : Status) (w : Word) : (s.answer p e w).tt = s.tt := rfl
@[simp] theorem State.answer_fil (p : Requester) (e : Status) (w : Word) : (s.answer p e w).fil = s.fil := rfl
@[simp] theorem State.answer_rst (p : Requester) (e : Status) (w : Word) : (s.answer p e w).rst = s.rst := rfl
@[simp] theorem State.answer_jtag (p : Requester) (e : Status) (w : Word) : (s.answer p e w).jtag = s.jtag := rfl
@[simp] theorem State.answer_svp (p : Requester) (e : Status) (w : Word) : (s.answer p e w).svp = s.svp := rfl
@[simp] theorem State.answer_bfp (p : Requester) (e : Status) (w : Word) : (s.answer p e w).bfp = s.bfp := rfl
@[simp] theorem State.answer_cfg (p : Requester) (e : Status) (w : Word) : (s.answer p e w).cfg = s.cfg := rfl
@[simp] theorem State.answer_rgn (p : Requester) (e : Status) (w : Word) : (s.answer p e w).rgn = s.rgn := rfl
@[simp] theorem State.answer_fab (p : Requester) (e : Status) (w : Word) : (s.answer p e w).fab = s.fab := rfl
@[simp] theorem State.answer_xcv (p : Requester) (e : Status) (w : Word) : (s.answer p e w).xcv = s.xcv := rfl
@[simp] theorem State.answer_lnt (p : Requester) (e : Status) (w : Word) : (s.answer p e w).lnt = s.lnt := rfl
@[simp] theorem State.answer_bcn (p : Requester) (e : Status) (w : Word) : (s.answer p e w).bcn = s.bcn := rfl
@[simp] theorem State.answer_sch (p : Requester) (e : Status) (w : Word) : (s.answer p e w).sch = s.sch := rfl
@[simp] theorem State.answer_tpr (p : Requester) (e : Status) (w : Word) : (s.answer p e w).tpr = s.tpr := rfl
@[simp] theorem State.answer_bb (p : Requester) (e : Status) (w : Word) : (s.answer p e w).bb = s.bb := rfl
@[simp] theorem State.answer_mem (p : Requester) (e : Status) (w : Word) : (s.answer p e w).mem = s.mem := rfl
@[simp] theorem State.answer_stg (p : Requester) (e : Status) (w : Word) : (s.answer p e w).stg = s.stg := rfl
@[simp] theorem State.answer_shd (p : Requester) (e : Status) (w : Word) : (s.answer p e w).shd = s.shd := rfl
@[simp] theorem State.answer_psm (p : Requester) (e : Status) (w : Word) : (s.answer p e w).psm = s.psm := rfl
@[simp] theorem State.answer_evc (p : Requester) (e : Status) (w : Word) : (s.answer p e w).evc = s.evc := rfl
@[simp] theorem State.answer_ras (p : Requester) (e : Status) (w : Word) : (s.answer p e w).ras = s.ras := rfl
@[simp] theorem State.answer_pending (p : Requester) (e : Status) (w : Word) : (s.answer p e w).pending = s.pending := rfl

/-! ### `draw` -/

@[simp] theorem State.draw_regs : (s.draw).regs = s.regs := rfl
@[simp] theorem State.draw_resp : (s.draw).resp = s.resp := rfl
@[simp] theorem State.draw_tt : (s.draw).tt = s.tt := rfl
@[simp] theorem State.draw_fil : (s.draw).fil = s.fil := rfl
@[simp] theorem State.draw_rst : (s.draw).rst = s.rst := rfl
@[simp] theorem State.draw_jtag : (s.draw).jtag = s.jtag := rfl
@[simp] theorem State.draw_svp : (s.draw).svp = s.svp := rfl
@[simp] theorem State.draw_bfp : (s.draw).bfp = s.bfp := rfl
@[simp] theorem State.draw_cfg : (s.draw).cfg = s.cfg := rfl
@[simp] theorem State.draw_rgn : (s.draw).rgn = s.rgn := rfl
@[simp] theorem State.draw_fab : (s.draw).fab = s.fab := rfl
@[simp] theorem State.draw_xcv : (s.draw).xcv = s.xcv := rfl
@[simp] theorem State.draw_lnt : (s.draw).lnt = s.lnt := rfl
@[simp] theorem State.draw_bcn : (s.draw).bcn = s.bcn := rfl
@[simp] theorem State.draw_sch : (s.draw).sch = s.sch := rfl
@[simp] theorem State.draw_tpr : (s.draw).tpr = s.tpr := rfl
@[simp] theorem State.draw_bb : (s.draw).bb = s.bb := rfl
@[simp] theorem State.draw_mem : (s.draw).mem = s.mem := rfl
@[simp] theorem State.draw_stg : (s.draw).stg = s.stg := rfl
@[simp] theorem State.draw_shd : (s.draw).shd = s.shd := rfl
@[simp] theorem State.draw_psm : (s.draw).psm = s.psm := rfl
@[simp] theorem State.draw_evc : (s.draw).evc = s.evc := rfl
@[simp] theorem State.draw_ras : (s.draw).ras = s.ras := rfl
@[simp] theorem State.draw_pending : (s.draw).pending = s.pending := rfl

/-! ### `raise` -/

@[simp] theorem raise_regs (n : Nat) : (raise n s).regs = s.regs := rfl
@[simp] theorem raise_clk (n : Nat) : (raise n s).clk = s.clk := rfl
@[simp] theorem raise_resp (n : Nat) : (raise n s).resp = s.resp := rfl
@[simp] theorem raise_tt (n : Nat) : (raise n s).tt = s.tt := rfl
@[simp] theorem raise_fil (n : Nat) : (raise n s).fil = s.fil := rfl
@[simp] theorem raise_rst (n : Nat) : (raise n s).rst = s.rst := rfl
@[simp] theorem raise_svp (n : Nat) : (raise n s).svp = s.svp := rfl
@[simp] theorem raise_bfp (n : Nat) : (raise n s).bfp = s.bfp := rfl
@[simp] theorem raise_cfg (n : Nat) : (raise n s).cfg = s.cfg := rfl
@[simp] theorem raise_rgn (n : Nat) : (raise n s).rgn = s.rgn := rfl
@[simp] theorem raise_fab (n : Nat) : (raise n s).fab = s.fab := rfl
@[simp] theorem raise_xcv (n : Nat) : (raise n s).xcv = s.xcv := rfl
@[simp] theorem raise_lnt (n : Nat) : (raise n s).lnt = s.lnt := rfl
@[simp] theorem raise_bcn (n : Nat) : (raise n s).bcn = s.bcn := rfl
@[simp] theorem raise_sch (n : Nat) : (raise n s).sch = s.sch := rfl
@[simp] theorem raise_tpr (n : Nat) : (raise n s).tpr = s.tpr := rfl
@[simp] theorem raise_bb (n : Nat) : (raise n s).bb = s.bb := rfl
@[simp] theorem raise_mem (n : Nat) : (raise n s).mem = s.mem := rfl
@[simp] theorem raise_stg (n : Nat) : (raise n s).stg = s.stg := rfl
@[simp] theorem raise_shd (n : Nat) : (raise n s).shd = s.shd := rfl
@[simp] theorem raise_psm (n : Nat) : (raise n s).psm = s.psm := rfl
@[simp] theorem raise_ras (n : Nat) : (raise n s).ras = s.ras := rfl
@[simp] theorem raise_pending (n : Nat) : (raise n s).pending = s.pending := rfl

/-- An event changes the Event Controller alone, and there by its state machine. -/
@[simp] theorem raise_evc (n : Nat) : (raise n s).evc = s.evc.event s.evcEnv n := rfl

/-- An answer is the latest one. -/
@[simp] theorem State.answer_resp (p : Requester) (e : Status) (w : Word) : (s.answer p e w).resp = some ⟨p, e, w⟩ := rfl

end Sys2Proof.Machine
end

