-- ==== Sys2Proof/Laws/Registers.lean ====
section
/-!
SUPPORT. Sys2Proof/Laws/Registers.lean: registers and fields: what a read gives after a write, and the canonical form of the
register map.
-/

namespace Sys2Proof.Machine

variable (s : State)

/-! ### Words -/

@[simp] theorem State.rd_wr_same (a : Nat) (v : Word) : (s.wr a v).rd a = v := sget_sset_same _ _ _ _

theorem State.rd_wr_ne {a b : Nat} (v : Word) (h : b ≠ a) : (s.wr a v).rd b = s.rd b := sget_sset_ne _ _ _ h

theorem State.rd_set_ne (f : Field) (v : Nat) {b : Nat} (h : b ≠ f.addr) : (s.set f v).rd b = s.rd b :=
  State.rd_wr_ne s _ h

@[simp] theorem State.rd_answer (p : Requester) (e : Status) (w : Word) (a : Nat) : (s.answer p e w).rd a = s.rd a := rfl
@[simp] theorem State.rd_draw (a : Nat) : s.draw.rd a = s.rd a := rfl
@[simp] theorem rd_raise (n a : Nat) : (raise n s).rd a = s.rd a := rfl

/-! ### Fields -/

@[simp] theorem State.get_answer (p : Requester) (e : Status) (w : Word) (f : Field) : (s.answer p e w).get f = s.get f :=
  rfl
@[simp] theorem State.get_draw (f : Field) : s.draw.get f = s.get f := rfl
@[simp] theorem get_raise (n : Nat) (f : Field) : (raise n s).get f = s.get f := rfl
@[simp] theorem State.flag_answer (p : Requester) (e : Status) (w : Word) (f : Field) :
    (s.answer p e w).flag f = s.flag f := rfl
@[simp] theorem flag_raise (n : Nat) (f : Field) : (raise n s).flag f = s.flag f := rfl

/-- A field that was set reads as the value, cut to the field's width. -/
theorem State.get_set_same (f : Field) (v : Nat) (h : f.hi < 32) :
    (s.set f v).get f = v % 2 ^ (f.hi + 1 - f.lo) := by
  rw [State.get, State.set, State.rd_wr_same, fieldGet_fieldSet_same _ _ _ _ h, and_ones_toNat _ _ (by omega),
    BitVec.toNat_ofNat, Nat.mod_mod_of_dvd _ (Nat.pow_dvd_pow 2 (by omega))]

/-- A field of another register keeps its value. -/
theorem State.get_set_ne (f g : Field) (v : Nat) (h : g.addr ≠ f.addr) : (s.set f v).get g = s.get g := by
  rw [State.get, State.rd_set_ne s f v h, State.get]

/-- A field beside the one set keeps its value. -/
theorem State.get_set_disjoint (f g : Field) (v : Nat) (h : g.addr = f.addr) (hg : g.hi < 32)
    (hd : f.hi < g.lo ∨ g.hi < f.lo) : (s.set f v).get g = s.get g := by
  rw [State.get, State.set, h, State.rd_wr_same, fieldGet_fieldSet_disjoint _ _ _ _ _ _ hg hd, State.get, h]

/-- A flag that was set is set. -/
theorem State.flag_set_one (f : Field) (h : f.hi < 32) (hl : f.lo ≤ f.hi) : (s.set f 1).flag f = true := by
  have h2 : (2 : Nat) ≤ 2 ^ (f.hi + 1 - f.lo) := by
    calc (2 : Nat) = 2 ^ 1 := rfl
      _ ≤ 2 ^ (f.hi + 1 - f.lo) := Nat.pow_le_pow_right (by decide) (by omega)
  simp [State.flag, State.get_set_same s f 1 h, Nat.mod_eq_of_lt (by omega : 1 < 2 ^ (f.hi + 1 - f.lo))]

/-- A flag that was cleared is clear. -/
theorem State.flag_set_zero (f : Field) (h : f.hi < 32) : (s.set f 0).flag f = false := by
  simp [State.flag, State.get_set_same s f 0 h]

/-! ### The canonical form -/

/-- The register map is canonical. -/
def State.regsOk (s : State) : Prop := swf resetValue s.regs = true

theorem State.regsOk_wr (a : Nat) (v : Word) (h : s.regsOk) : (s.wr a v).regsOk := swf_sset _ _ _ _ h
theorem State.regsOk_set (f : Field) (v : Nat) (h : s.regsOk) : (s.set f v).regsOk := s.regsOk_wr _ _ h
theorem State.regsOk_writeByAcc (a : Nat) (v : Word) (h : s.regsOk) : (s.writeByAcc a v).regsOk := s.regsOk_wr _ _ h

/-- A map of the entries that keeps their keys and lists no default keeps the canonical form. -/
theorem swfFrom_filterMap {α : Type} [DecidableEq α] (d : Nat → α) (g : Nat × α → Option (Nat × α)) (lo : Nat)
    (m : List (Nat × α)) (hg : ∀ p q, g p = some q → q.1 = p.1 ∧ (p.2 ≠ d p.1 → q.2 ≠ d q.1))
    (w : swfFrom d lo m = true) : swfFrom d lo (m.filterMap g) = true := by
  induction m generalizing lo with
  | nil => rfl
  | cons p m ih =>
    obtain ⟨k, x⟩ := p
    simp only [swfFrom, Bool.and_eq_true, decide_eq_true_eq, Bool.not_eq_true', decide_eq_false_iff_not] at w
    cases hq : g (k, x) with
    | none =>
      rw [List.filterMap_cons_none hq]
      exact swfFrom_mono d _ (by omega) (ih (k + 1) w.2)
    | some q =>
      obtain ⟨k', x'⟩ := q
      obtain ⟨h1, h2⟩ := hg _ _ hq
      simp only at h1 h2
      subst h1
      rw [List.filterMap_cons_some hq]
      simp only [swfFrom, Bool.and_eq_true, decide_eq_true_eq, Bool.not_eq_true', decide_eq_false_iff_not]
      exact ⟨⟨w.1.1, h2 w.1.2⟩, ih (k' + 1) w.2⟩

/-- A reset of fields keeps the canonical form. -/
theorem swf_restoreRegs (p : Scope → Bool) (m : List (Nat × Word)) (h : swf resetValue m = true) :
    swf resetValue (restoreRegs p m) = true := by
  refine swfFrom_filterMap resetValue _ 0 m ?_ h
  rintro ⟨a, w⟩ ⟨b, x⟩ hq
  dsimp only at hq
  split at hq
  · cases hq
  · next hne =>
    cases hq
    exact ⟨rfl, fun _ => hne⟩

/-- A reset of an address range keeps the canonical form. -/
theorem swf_restoreIn (lo hi : Nat) (p : Scope → Bool) (m : List (Nat × Word)) (h : swf resetValue m = true) :
    swf resetValue (restoreIn lo hi p m) = true := by
  refine swfFrom_filterMap resetValue _ 0 m ?_ h
  rintro ⟨a, w⟩ ⟨b, x⟩ hq
  dsimp only at hq
  split at hq
  · split at hq
    · cases hq
    · next hne =>
      cases hq
      exact ⟨rfl, fun _ => hne⟩
  · cases hq
    exact ⟨rfl, fun hw => hw⟩

end Sys2Proof.Machine
end

