-- ==== Sys2Proof/Tests/Slice0.lean ====
section
/-!
SUPPORT. Sys2Proof/Tests/Slice0.lean: checks of the model against the worked cases and tables of the spec, one ill-formed command for
each check of WellFormed, and for every statement with hypotheses a state and operands that meet them.
-/

namespace Sys2Proof.Machine

set_option maxRecDepth 100000
set_option linter.unusedVariables false

/-! ### Taper words, written out from the formats of R631 and the opcodes of R635 -/

/-- The first words of the program of 12_taper_cores.md's worked case. -/
theorem test_taper_program :
    [0x45000100, 0x45C00001, 0x46000200, 0x46400010, 0x38001C1C, 0x80112100, 0xA8000000, 0x1C004000, 0x88112102, 0xB4000000,
      0x68840000, 0x50212000, 0x04000000].map decodeTaper =
    [some (.movi 16 0x0100), some (.movi 28 1), some (.movi 32 0x0200), some (.movi 36 16), some (.mode 0x1C 0x1C),
      some (.par .par ⟨0, 1, 0, 4, 4, 1, 0, 0, 0, false⟩), some (.zero 0), some (.loop 16 0),
      some (.par .mac ⟨0, 1, 0, 4, 4, 1, 0, 0, 1, false⟩), some (.round 0), some (.ext 2 0 16), some (.st 2 false 1 1),
      some .halt] := by decide

/-- Control: NOP; BKPT; J EQ, 0x123; CALL NE, 0x3FFF; RET GC; JR p5; LOOPR d3, 2; LEAVE; WAITEV d2, NB; EVEND d7;
SIGNAL 0xAB; WDOG; DMA 1, p6; DMAW 1. -/
theorem test_taper_control :
    [0x00000000, 0x08000000, 0x0C400123, 0x10803FFF, 0x17000000, 0x1A800000, 0x20300002, 0x24000000, 0x29000001, 0x2F800000,
      0x300000AB, 0x34000000, 0x3F800000, 0x42000000].map decodeTaper =
    [some .nop, some .bkpt, some (.j 1 0x123), some (.call 2 0x3FFF), some (.ret 12), some (.jr 5), some (.loopr 3 2),
      some .leave, some (.waitev 2 true), some (.evend 7), some (.signal 0xAB), some .wdog, some (.dma 1 6),
      some (.dmaw 1)] := by decide

/-- Moves: MOV p0, sr; LD d1, Y:[p2 += m]; LDI d5, X; STI d5, Y; LDP pair 2, P:[p7++]; STP pair 3, P:[p1]; LEA [p3--]. -/
theorem test_taper_moves :
    [0x49024000, 0x4C1A6000, 0x54500155, 0x58580155, 0x5C272000, 0x60310000, 0x64034000].map decodeTaper =
    [some (.mov 16 9), some (.ld 1 true 2 3), some (.ldi 5 false 0x155), some (.sti 5 true 0x155), some (.ldp 2 7 1),
      some (.stp 3 1 0), some (.lea 3 2)] := by decide

/-- Accumulators: PACK a1, d2, d3; GETG d4, a1; PUTG a0, d5; MSB a1, d4, d5 with PB and no other access; ADDA a0, a1;
SHA a1, -3; SHAV a0, d6; NORM d2, a1; CMPA a1, a0. -/
theorem test_taper_accumulators :
    [0x6E980000, 0x73000000, 0x75400000, 0x8C7038CB, 0xA1000000, 0xBEF40000, 0xC0030000, 0xC5010000, 0xCA000000].map decodeTaper =
    [some (.pack 1 2 3), some (.getg 4 1), some (.putg 0 5), some (.par .msb ⟨0, 7, 0, 0, 7, 0, 1, 4, 5, true⟩),
      some (.adda 0 1), some (.sha 1 (-3)), some (.shav 0 6), some (.norm 2 1), some (.cmpa 1 0)] := by decide

/-- d registers: SUB d1, d2, d3; SHRA d7, d1, 15; ADDI d0, d1, 0x8000; CMP d6, d7; BREV d1, d1, 3; POPC d3, d4. -/
theorem test_taper_alu :
    [0xD4A60000, 0xEF90000F, 0xF0108000, 0xF46E0000, 0xF8900003, 0xFDC00000].map decodeTaper =
    [some (.sub 1 2 3), some (.shra 7 1 15), some (.addi 0 1 0x8000), some (.cmp 6 7), some (.brev 1 1 3),
      some (.popc 3 4)] := by decide

/-- Illegal words: a Reserved opcode, a Reserved condition, a Reserved register, a bit in a field marked zero, DD of CMP, a POS above 24,
SPACE of LEA. -/
theorem test_taper_illegal :
    [0x78000000, 0x0F400000, 0x44A00000, 0x00000001, 0xF4EE0000, 0x68064000, 0x640B4000].map decodeTaper =
    List.replicate 7 none := by decide

/-! ### Worked cases of the other chapters -/

/-- The state after a command. -/
def after (c : Instr) (s : State) : State :=
  match exec c s with
  | .next t => t
  | _ => s

/-- 21_address_map.md: the points of two addresses, and the register pages. -/
theorem test_routes : route 0x0000401A00 = 2 ∧ route 0x008002810000 = 18 ∧ isRegPage 0x00F000710018 = true ∧
    isRegPage 0x008002810000 = false ∧ engineOf 0x0000401A00 = 2 := by decide

/-- 21_address_map.md: offset 0x010 of the ID page has no register. -/
theorem test_unmapped : (regReadWord 0 0x00F000FF0010 true State.reset).1 = .unmapped ∧
    (regReadWord 0 0x00F000FF0000 true State.reset).2.1 = 0x00019640 := by decide

/-- 14_memory_controllers.md: the line of 0x0000_0040_1A00 on a part with CFG 0x0003_1110. -/
theorem test_line_mapping : let s := State.reset.wr (R.MC_CFG 1) 0x00031110
    lineIndex 0x401A00 = 0x200C ∧ rowOf s 0x401A00 = 1 ∧ rankOf s 0x401A00 = 0 := by decide

/-- 16_shade.md: the tweak, the first block and the tag address of the line at 0x0000_1234_5A40. -/
theorem test_shade_line : let p : Prot := ⟨2, 3, false, none, 0x10000000, 0x100000, 4096, 0x40000000, 1⟩
    tweakOf p 0x12345A40 = [0x45, 0x23, 0x10] ++ List.replicate 13 0 ∧ blockOf p 0x12345A40 = 164 ∧
      tagAddr p 0x12345A40 = 0x40468A68 := by decide

/-- 06_zenum_images.md: sixteen compressed bytes make 81 bytes of dictionary frame 37. -/
theorem test_zenum_lz :
    let s := { State.reset with cfg := { State.reset.cfg with
      frames := [(0x12000A, 0x5E), (0x12000D, 0xC1), (0x12000E, 0x07)] } }
    let l : Load := ⟨0, 0, 0, [], 0, 0, [], none, false, [], [], 0, [], 0, [], [0x1200], [], [], none, none, false, 0, none⟩
    let f : List Byte := [0xA0, 0xA1, 0xA2, 0xA3, 0xA0, 0xA1, 0xA2, 0xA3, 0xA0, 0xA1, 0x5E, 0x00, 0x00, 0xC1, 0x07]
    lzTo s l [0x03, 0xA0, 0xA1, 0xA2, 0xA3, 0x43, 0x03, 0x00, 0x82, 0x00, 0x12, 0x00, 0x7F, 0x00, 0x0E, 0x00] 81 4 [] 0 =
      .out (f ++ f ++ f ++ f ++ f ++ f.take 6) 16 := by decide

/-- FIPS 180-4's example message "abc", and the check value of the CRC of IEEE 802.3. -/
theorem test_check_codes : sha256 [0x61, 0x62, 0x63] =
    (leBytes 32 0xba7816bf8f01cfea414140de5dae2223b00361a396177a9cb410ff61f20015ad).reverse ∧
    crc32 [0x31, 0x32, 0x33, 0x34, 0x35, 0x36, 0x37, 0x38, 0x39] = 0xCBF43926 := by decide

/-- 06_zenum_images.md: a stream of 1,002,560 bytes makes a file of 1,002,624 in 16 blocks. -/
theorem test_file_length : fileLen 1002560 = 1002624 ∧ blockLen 1002560 15 = 19584 := by decide

/-- 03_filament_chain.md: the SOP bytes and the fields of the ENUM of step 1. -/
theorem test_enum_packet :
    let k : Packet := ⟨2, 3, [0x00, 0x00, 0x20, 0x01, 0x04, 0x00, 0x00, 0x00, 0, 0, 0, 0, 0, 0, 0, 0, 0x10, 0, 0, 0, 0, 0, 0, 0]⟩
    sopBytes 2 0 3 = [0x02, 0x00, 0x00, 0x03, 0x00, 0x00] ∧ k.type = 0x20 ∧ k.tag = 1 ∧ k.payload = [0x10, 0, 0, 0] := by
  decide

/-- 05_service_boot_ports.md: the status word 0x0000_0326. -/
theorem test_svp_status : svpStatusWord (((((State.reset.set F.SVP_HOLD_HOLD 1).set F.OWN_STATUS_ADDRESSED 1).set
    F.CFG_STATUS_DONE 1).set F.SVP_STATUS_FRAME_ERR 1).set F.SVP_STATUS_ERR_CODE 1) = 0x00000326 := by decide

/-- 10_lanterns.md: the header of the FRAME record and its 33 payload bytes: A, four times B, C with COMP_MIN 4. -/
theorem test_frame_record :
    let a : List Byte := [0x02, 0x78, 0x55, 0x55, 0x55, 0x55, 0x55, 0x55, 0xD5]
    let b : List Byte := [0x02, 0x1E, 0, 0, 0, 0, 0, 0, 0]
    let c : List Byte := [0x02, 0x87, 0, 0, 0, 0, 0, 0, 0]
    recHeader 1 1 false 0x10 9 0x0123 4 3 = [0x11, 0x10, 0x09, 0x00, 0x23, 0x01, 0x04, 0x03] ∧
      tokenCode 4 [a, b, b, b, b, c] = [0x01, 0x00] ++ a ++ [0x04, 0x80] ++ b ++ [0x01, 0x00] ++ c := by decide

/-- 11_beacons_schedule.md: the descriptor of segment 1. -/
theorem test_descriptor : segAt (List.replicate 32 0 ++ [0x0C, 0x01, 0x00, 0x02, 0, 0, 0, 0, 0xE8, 0x03, 0, 0, 0, 0, 0, 0, 0xA8,
    0x0B, 0, 0, 0, 0] ++ List.replicate 10 0) 1 = ⟨false, false, true, true, false, 1, 0, 2, 0, 1000, 0xBA8⟩ := by decide

/-- 13_backbone.md: the record of the denied write of master 9. -/
theorem test_denied : let t := recordDenied 9 0x01002100 true State.reset
    t.rd R.BB_VIOL_INFO = 0x80000109 ∧ t.rd R.BB_VIOL_ADDR_LO = 0x01002100 := by decide

/-- 15_staging_sram.md: bank 3 under a running Lantern 3 refuses Retention. -/
theorem test_bank_refused : let s := ((State.reset.wr (R.LNT_FIFO 3) 0x00300010).set (F.LNT_STATUS_STATE 3) 1)
    (after (.stgBankReq .svp 3 1) s).rd (R.STG_BANK 3) = 0x00000100 := by decide

/-- 15_staging_sram.md: bank 40 reaches Off. -/
theorem test_bank_off : let s := after (.stgBankReq .svp 40 2) State.reset
    let s := { s with clk := { s.clk with now := 1000 } }
    (after (.stgBankStateReached 40) s).rd (R.STG_BANK 40) = 0x00000022 := by decide

/-- 18_event_controller.md: source 84 In service and source 86 Idle read as EVC_STATE5 = 0x0000_0200. -/
theorem test_evc_state :
    let e := State.reset.evc.put 84 ⟨.inService, false, true, true, 0, 0⟩
    evcStateWord { State.reset with evc := e } 5 = 0x00000200 := by decide

/-- 02_tester_time.md: a step of 20 us at TT 8_589_934_592. -/
theorem test_tt_step :
    let s := ((State.reset.set F.TT_STATUS_RUNNING 1).set F.TT_STATUS_ADJ_BUSY 1)
    let s := { s with tt := { s.tt with tt := 0x8000000000, step := some ⟨0x8000000000, 0x138800, false, 200⟩ } }
    (after .ttStepApply s).tt.tt = BitVec.ofNat 64 (8589954592 * 64) := by decide

/-- R7: the Filament does not own the register space at reset. -/
theorem test_not_owner : let s := { State.reset with fil := { State.reset.fil with addr := 0x2C } }
    (after (.ttNowLoRead .fil) s).resp = some ⟨.partner .fil, .notOwner, 0⟩ := by decide

/-! ### Ill-formed commands -/

theorem ill_formed :
    (Instr.badLinkWord .us [1, 2, 3]).wellFormed = false ∧ (Instr.train .us 0 true 0 [1]).wellFormed = false ∧
    (Instr.credit .us []).wellFormed = false ∧ (Instr.svpRd [1, 1, 0, 0] []).wellFormed = false ∧
    (Instr.svpWr [2, 0, 0] []).wellFormed = false ∧ (Instr.echoReq 1 []).wellFormed = false ∧
    (Instr.svpStatus []).wellFormed = false ∧
    (Instr.bfpCommandComplete (List.replicate 257 0)).wellFormed = false ∧
    (Instr.bramWrite false 0 6 512 0 0).wellFormed = false ∧ (Instr.bramRead false 0 0 32768).wellFormed = false ∧
    (Instr.fabricSlaveAccess 0 (List.replicate 257 0)).wellFormed = false ∧
    (Instr.tapUnit 0 0 [1, 2, 3] false).wellFormed = false ∧
    (Instr.backboneRequest 64 false 0xFF 2 [] [] none false).wellFormed = false ∧
    (Instr.registerWrite (.uart 4) 0 true 0).wellFormed = false := by decide

theorem ill_formed_block : (Instr.configBlockCheck (List.replicate 65537 0)).wellFormed = false := by
  simp only [Instr.wellFormed, List.length_replicate]
  decide

theorem well_formed : (Instr.tapUnit 0 0 (List.replicate 9 0) false).wellFormed = true ∧
    (Instr.backboneRequest 64 false 0xFE 2 [] [] none false).wellFormed = true := by decide

/-- No word spells a command, so the queue stays as it is. -/
theorem test_no_words : decodeTableWord 32 0 = none ∧ (State.reset.withFetchWord 32 0).pending = [] := by decide

/-! ### Hypotheses that hold -/

/-! The parts of a state, changed one at a time. -/

def w_clk (f : Clk → Clk) (s : State) : State := { s with clk := f s.clk }
def w_tt (f : TtS → TtS) (s : State) : State := { s with tt := f s.tt }
def w_fil (f : FilS → FilS) (s : State) : State := { s with fil := f s.fil }
def w_rst (f : RstS → RstS) (s : State) : State := { s with rst := f s.rst }
def w_svp (f : SvpS → SvpS) (s : State) : State := { s with svp := f s.svp }
def w_bfp (f : BfpS → BfpS) (s : State) : State := { s with bfp := f s.bfp }
def w_cfg (f : CfgS → CfgS) (s : State) : State := { s with cfg := f s.cfg }
def w_fab (f : FabS → FabS) (s : State) : State := { s with fab := f s.fab }
def w_sch (f : SchS → SchS) (s : State) : State := { s with sch := f s.sch }
def w_bb (f : BbS → BbS) (s : State) : State := { s with bb := f s.bb }
def w_mem (f : MemS → MemS) (s : State) : State := { s with mem := f s.mem }
def w_stg (f : StgS → StgS) (s : State) : State := { s with stg := f s.stg }
def w_shd (f : ShdS → ShdS) (s : State) : State := { s with shd := f s.shd }
def w_psm (f : PsmS → PsmS) (s : State) : State := { s with psm := f s.psm }
def w_evc (f : EvcS → EvcS) (s : State) : State := { s with evc := f s.evc }
def w_ras (f : RasS → RasS) (s : State) : State := { s with ras := f s.ras }
def w_rgn (i : Fin 24) (f : RgnS → RgnS) (s : State) : State := { s with rgn := vset s.rgn i (f (vget s.rgn i)) }
def w_xcv (i : Fin 64) (f : XcvS → XcvS) (s : State) : State := { s with xcv := vset s.xcv i (f (vget s.xcv i)) }
def w_lnt (i : Fin 16) (f : LntS → LntS) (s : State) : State := { s with lnt := vset s.lnt i (f (vget s.lnt i)) }
def w_bcn (i : Fin 16) (f : BcnS → BcnS) (s : State) : State := { s with bcn := vset s.bcn i (f (vget s.bcn i)) }
def w_tpr (i : Fin 8) (f : TaperCore → TaperCore) (s : State) : State := { s with tpr := vset s.tpr i (f (vget s.tpr i)) }
def w_us (f : Link → Link) (s : State) : State := { s with fil := { s.fil with us := f s.fil.us } }
def w_ds (f : Link → Link) (s : State) : State := { s with fil := { s.fil with ds := f s.fil.ds } }

theorem w_trip (b : Bool) : -10 ≤ tripError 0 b ∧ tripError 0 b ≤ 10 := by
  simp only [tripError, if_neg (by decide : ¬ (0 : Nat) = 2)]
  omega

theorem w_sound (w : Nat) : stgReadWord w State.reset = (some (stgRaw State.reset w), State.reset) := by
  have g : State.reset.stg.losses (bankOfWord w) = 0 := by simp [StgS.losses, State.reset, StgS.init, vget]
  have h : stgMark State.reset w = none := by
    show stgCheck State.reset.stg w = none
    simp [stgCheck, g]
  have k : portAHit State.reset w = none := rfl
  simp only [stgReadWord, h, k, stgReadAs]

theorem witness_TtNowLatch :
    (∃ (s : State) (p : Partner), s.admits p R.TT_NOW_LO) :=
  ⟨State.reset, .svp, by decide⟩

theorem witness_LscAndComparators :
    (∃ (s : State) (p : Partner), s.admits p R.TT_LSC_LO) ∧
    (∃ (s : State) (p : Partner) (n : Fin 8), s.admits p (R.PLT_CMP_CTRL n.val)) ∧
    (∃ (s : State) (p : Partner) (n : Fin 4) (high : Bool), s.admits p (R.PLT_TTM n.val (b2n high))) ∧
    (∃ (s : State) (n : Fin 4), (vget s.tt.cmpArmed n = true) ∧ (s.flag (F.PLT_CMP_CTRL_EN n.val) = true) ∧ (s.get64 (R.PLT_TTM n.val 0) (R.PLT_TTM n.val 1) ≤ s.tt.tt.toNat)) ∧
    (∃ (s : State) (n : Fin 3) (level : Int), (s.flag (F.PLT_CMP_CTRL_EN (4 + n.val)) = true) ∧ (vget s.tt.cmpOut (finOf 3 n.val) = false) ∧ (s.get (F.PLT_CMP_CTRL_EDGE (4 + n.val)) % 2 = 1) ∧ ((if n.val = 2 then 1000 * s.get (F.PLT_CMP_CTRL_THRESHOLD 6) + 1000 else 5 * s.get (F.PLT_CMP_CTRL_THRESHOLD (4 + n.val)) + 10) + tripError n.val true < level)) ∧
    (∃ (s : State) (n : Fin 3) (level : Int), ((if n.val = 2 then 1000 * s.get (F.PLT_CMP_CTRL_THRESHOLD 6) - 1000 else 5 * s.get (F.PLT_CMP_CTRL_THRESHOLD (4 + n.val)) - 10 : Int) + tripError n.val false ≤ level) ∧ (level ≤ (if n.val = 2 then 1000 * s.get (F.PLT_CMP_CTRL_THRESHOLD 6) + 1000 else 5 * s.get (F.PLT_CMP_CTRL_THRESHOLD (4 + n.val)) + 10) + tripError n.val true)) ∧
    (∃ (s : State) (level : Bool), (s.flag (F.PLT_CMP_CTRL_EN 7) = true) ∧ (vget s.tt.cmpOut 3 = !level) ∧ (s.get (F.PLT_CMP_CTRL_EDGE 7) = 3)) ∧
    (∃ (s : State), (s.flag F.TT_STATUS_RUNNING = true) ∧ (s.tt.slew = none) ∧ (2 ^ 64 - 64 ≤ s.tt.tt.toNat)) ∧
    (∃ (s : State) (p : Partner), (s.admits p R.TT_LSC_CTRL) ∧ (s.flag F.TT_LSC_CTRL_EN = false)) ∧
    (∃ (s : State) (p : Partner), (s.admits p R.TT_LSC_CTRL) ∧ (s.flag F.TT_LSC_CTRL_EN = true)) :=
  ⟨⟨State.reset, .svp, by decide⟩,
    ⟨State.reset, .svp, 0, by decide⟩,
    ⟨State.reset, .svp, 0, false, by decide⟩,
    ⟨(w_tt (fun x => { x with cmpArmed := vset x.cmpArmed (0 : Fin 4) true }) State.reset).set (F.PLT_CMP_CTRL_EN (0 : Fin 4).val) 1, 0, by decide⟩,
    ⟨(w_tt (fun x => { x with cmpOut := vset x.cmpOut 0 false }) (State.reset.set (F.PLT_CMP_CTRL_EN 4) 1)).set (F.PLT_CMP_CTRL_EDGE 4) 1, 0, 11 + tripError 0 true, by decide, by decide, by decide, Int.add_lt_add_right (by decide) _⟩,
    ⟨State.reset, 0, 0, le_trans (Int.add_le_add_left (w_trip false).2 _) (by decide), by refine le_trans ?_ (Int.add_le_add_left (w_trip true).1 _); decide⟩,
    ⟨(w_tt (fun x => { x with cmpOut := vset x.cmpOut 3 (!(false : Bool)) }) (State.reset.set (F.PLT_CMP_CTRL_EN 7) 1)).set (F.PLT_CMP_CTRL_EDGE 7) 3, false, by decide⟩,
    ⟨w_tt (fun x => { x with tt := BitVec.allOnes 64 }) (w_tt (fun x => { x with slew := none }) (State.reset.set F.TT_STATUS_RUNNING 1)), by decide⟩,
    ⟨State.reset.set F.TT_LSC_CTRL_EN 0, .svp, by decide⟩,
    ⟨State.reset.set F.TT_LSC_CTRL_EN 1, .svp, by decide⟩⟩

theorem witness_TtReference :
    (∃ (s : State) (p : Partner) (v : Word), (s.admits p R.TT_CTRL) ∧ (F.TT_CTRL_SOURCE.of v ≠ s.get F.TT_CTRL_SOURCE)) ∧
    (∃ (s : State) (p : Partner), s.admits p R.TT_SYNC_CTRL) ∧
    (∃ (s : State), (s.rst.coreUp = true) ∧ (s.get F.TT_CTRL_SOURCE = 1) ∧ (s.flag F.TT_SYNC_CTRL_ARM = true)) ∧
    (∃ (s : State), (s.rst.coreUp = true) ∧ (s.get F.TT_CTRL_SOURCE = 1) ∧ (s.flag F.TT_SYNC_CTRL_ARM = false) ∧ (s.get F.TT_SYNC_PERIOD_NS ≠ 0) ∧ (justStepped s = false) ∧ (s.tt.phasePending = false ∨ s.tt.refLocked = false) ∧ ((phaseAt s).natAbs ≤ 128)) ∧
    (∃ (s : State), (s.rst.coreUp = true) ∧ (s.get F.TT_CTRL_SOURCE = 1) ∧ (s.flag F.TT_SYNC_CTRL_ARM = false) ∧ (s.get F.TT_SYNC_PERIOD_NS ≠ 0) ∧ (justStepped s = false) ∧ (s.tt.phasePending = false ∨ s.tt.refLocked = false) ∧ (128 < (phaseAt s).natAbs)) ∧
    (∃ (s : State), (s.rst.coreUp = true) ∧ (s.get F.TT_CTRL_SOURCE = 1) ∧ (s.flag F.TT_SYNC_CTRL_ARM = false) ∧ (s.get F.TT_SYNC_PERIOD_NS ≠ 0) ∧ (justStepped s = false) ∧ (s.tt.phasePending = true) ∧ (s.tt.refLocked = true) ∧ (s.tt.holdRx = false) ∧ (s.tt.slew = none) ∧ ((phaseAt s).natAbs ≤ 64000 * s.get F.TT_CTRL_RELOCK_US)) ∧
    (∃ (s : State), (s.rst.coreUp = true) ∧ (s.get F.TT_CTRL_SOURCE = 1) ∧ (s.tt.refLocked = true)) ∧
    (∃ (s : State), (s.rst.coreUp = true) ∧ (s.get F.TT_CTRL_SOURCE = 2)) ∧
    (∃ (s : State) (khz : Nat), (s.rst.coreUp = true) ∧ (s.get F.TT_CTRL_SOURCE = 1) ∧ (s.tt.refLocked = false) ∧ (s.tt.holdRx = false) ∧ (10000 ≤ s.get F.TT_REF_CTRL_REF_KHZ) ∧ (s.get F.TT_REF_CTRL_REF_KHZ ≤ 312500) ∧ (khz = s.get F.TT_REF_CTRL_REF_KHZ)) ∧
    (∃ (s : State), (s.rst.coreUp = true) ∧ (s.get F.TT_CTRL_SOURCE = 1) ∧ (s.tt.refLocked = false) ∧ (s.get F.TT_REF_CTRL_REF_KHZ < 10000)) ∧
    (∃ (s : State), (s.rst.coreUp = true) ∧ (s.get F.TT_CTRL_SOURCE = 1) ∧ (s.tt.refLocked = true) ∧ (s.get F.TT_REF_CTRL_REF_KHZ < 10000)) :=
  ⟨⟨State.reset, .svp, 1, by decide⟩,
    ⟨State.reset, .svp, by decide⟩,
    ⟨(w_tt (fun x => { x with refLocked := true }) (State.reset.set F.TT_CTRL_SOURCE 1)).set F.TT_SYNC_CTRL_ARM 1, by decide⟩,
    ⟨(w_tt (fun x => { x with phasePending := false }) ((w_tt (fun x => { x with refLocked := true }) (State.reset.set F.TT_CTRL_SOURCE 1)).set F.TT_SYNC_CTRL_ARM 0)).set F.TT_SYNC_PERIOD_NS 1000, by decide⟩,
    ⟨w_tt (fun x => { x with tt := 200 }) ((w_tt (fun x => { x with phasePending := false }) ((w_tt (fun x => { x with refLocked := true }) (State.reset.set F.TT_CTRL_SOURCE 1)).set F.TT_SYNC_CTRL_ARM 0)).set F.TT_SYNC_PERIOD_NS 1000), by decide⟩,
    ⟨(w_tt (fun x => { x with refLocked := true, phasePending := true }) (State.reset.set F.TT_CTRL_SOURCE 1)).set F.TT_SYNC_PERIOD_NS 1000, by decide⟩,
    ⟨(w_tt (fun x => { x with refLocked := true }) (State.reset.set F.TT_CTRL_SOURCE 1)), by decide⟩,
    ⟨State.reset.set F.TT_CTRL_SOURCE 2, by decide⟩,
    ⟨(w_tt (fun x => { x with holdRx := false }) (w_tt (fun x => { x with refLocked := false }) (State.reset.set F.TT_CTRL_SOURCE 1))).set F.TT_REF_CTRL_REF_KHZ 10000, 10000, by decide⟩,
    ⟨(w_tt (fun x => { x with refLocked := false }) (State.reset.set F.TT_CTRL_SOURCE 1)).set F.TT_REF_CTRL_REF_KHZ 0, by decide⟩,
    ⟨(w_tt (fun x => { x with refLocked := true }) (State.reset.set F.TT_CTRL_SOURCE 1)).set F.TT_REF_CTRL_REF_KHZ 0, by decide⟩⟩

theorem witness_TtAdjust :
    (∃ (s : State) (p : Partner) (rate : Byte), (s.admits p R.TT_ADJ_CTRL) ∧ (s.flag F.TT_STATUS_ADJ_BUSY = false) ∧ (s.get F.TT_CTRL_SOURCE ≠ 2) ∧ (1 ≤ rate.toNat) ∧ (rate.toNat ≤ 200)) ∧
    (∃ (s : State) (p : Partner) (rate : Byte), (s.admits p R.TT_ADJ_CTRL) ∧ (s.flag F.TT_STATUS_ADJ_BUSY = true ∨ s.get F.TT_CTRL_SOURCE = 2 ∨ rate = 0 ∨ 200 < rate.toNat)) ∧
    (∃ (s : State) (p : Partner), (s.admits p R.TT_ADJ_CTRL) ∧ (s.flag F.TT_STATUS_ADJ_BUSY = false) ∧ (s.get F.TT_CTRL_SOURCE ≠ 2) ∧ (s.tt.tt.toNat + 256000 ≤ s.get64 R.TT_ADJ_AT_LO R.TT_ADJ_AT_HI)) ∧
    (∃ (s : State) (p : Partner), (s.admits p R.TT_ADJ_CTRL) ∧ (s.flag F.TT_STATUS_ADJ_BUSY = true ∨ s.get F.TT_CTRL_SOURCE = 2 ∨ s.get64 R.TT_ADJ_AT_LO R.TT_ADJ_AT_HI < s.tt.tt.toNat + 256000)) ∧
    (∃ (s : State) (p : Partner) (w : Slew), (s.admits p R.TT_ADJ_CTRL) ∧ (s.tt.step = none) ∧ (s.tt.slew = some w) ∧ (w.requested = true)) ∧
    (∃ (s : State) (p : Partner) (q : StepPending), (s.admits p R.TT_ADJ_CTRL) ∧ (s.tt.step = some q) ∧ (q.announced = true)) ∧
    (∃ (s : State) (p : Partner) (q : StepPending), (s.admits p R.TT_ADJ_CTRL) ∧ (s.tt.step = some q) ∧ (q.announced = false)) ∧
    (∃ (s : State) (p : Partner) (rate : Byte) (w : Slew), (s.admits p R.TT_ADJ_CTRL) ∧ (s.tt.step = none) ∧ (s.tt.slew = some w) ∧ (w.requested = true) ∧ (s.get F.TT_CTRL_SOURCE ≠ 2) ∧ (1 ≤ rate.toNat) ∧ (rate.toNat ≤ 200)) ∧
    (∃ (s : State) (w : Slew), (s.tt.slew = some w) ∧ (w.requested = true) ∧ (w.left = 0)) ∧
    (∃ (s : State) (q : StepPending), (s.tt.step = some q) ∧ (q.at_.toNat ≤ s.tt.tt.toNat) ∧ (boundaryOpen s q.at_ = false)) :=
  ⟨⟨State.reset.set F.TT_STATUS_ADJ_BUSY 0, .svp, 200, by decide⟩,
    ⟨State.reset, .svp, 0, by decide⟩,
    ⟨(State.reset.set F.TT_STATUS_ADJ_BUSY 0).set64 R.TT_ADJ_AT_LO R.TT_ADJ_AT_HI 256000, .svp, by decide⟩,
    ⟨State.reset, .svp, by decide⟩,
    ⟨(w_tt (fun x => { x with slew := some (⟨8, 200, true⟩ : Slew) }) (w_tt (fun x => { x with step := none }) State.reset)), .svp, ⟨8, 200, true⟩, by decide⟩,
    ⟨w_tt (fun x => { x with step := some ⟨0, 0, true, 0⟩ }) State.reset, .svp, ⟨0, 0, true, 0⟩, by decide⟩,
    ⟨(w_tt (fun x => { x with step := some (⟨0, 0, false, 0⟩ : StepPending) }) State.reset), .svp, ⟨0, 0, false, 0⟩, by decide⟩,
    ⟨(w_tt (fun x => { x with slew := some (⟨0, 0, true⟩ : Slew) }) (w_tt (fun x => { x with step := none }) State.reset)), .svp, 200, ⟨0, 0, true⟩, by decide⟩,
    ⟨(w_tt (fun x => { x with slew := some (⟨0, 0, true⟩ : Slew) }) State.reset), ⟨0, 0, true⟩, by decide⟩,
    ⟨(w_tt (fun x => { x with step := some (⟨0, 0, false, 0⟩ : StepPending) }) State.reset), ⟨0, 0, false, 0⟩, by decide⟩⟩

theorem witness_SourceEvents :
    (∃ (s : State) (n : Fin 256), (s.rst.coreUp = true) ∧ ((s.evc.source n.val).en = true) ∧ ((s.evc.source n.val).state = .idle) ∧ (¬ s.takenNow n.val) ∧ ((s.evc.source n.val).target ≠ 0 ∨ ¬ s.releasedNow ∧ s.evc.timer = none ∧ (s.evc.hostPending ≠ [] ∨ s.evc.held ≠ none ∨ s.fil.addr = 0))) ∧
    (∃ (s : State) (n : Fin 256), (s.rst.coreUp = true) ∧ ((s.evc.source n.val).en = true) ∧ ((s.evc.source n.val).state = .pending) ∧ ((s.evc.source n.val).target ≠ 0)) ∧
    (∃ (s : State) (n : Fin 256), (s.rst.coreUp = true) ∧ ((s.evc.source n.val).en = true) ∧ ((s.evc.source n.val).state ≠ .pending) ∧ (s.takenNow n.val)) ∧
    (∃ (s : State) (n : Fin 256), (s.rst.coreUp = true) ∧ ((s.evc.source n.val).en = true) ∧ ((s.evc.source n.val).state = .idle) ∧ (¬ s.takenNow n.val) ∧ ((s.evc.source n.val).target = 0) ∧ (s.releasedNow)) ∧
    (∃ (s : State) (n : Fin 256), (s.rst.coreUp = true) ∧ ((s.evc.source n.val).en = true) ∧ ((s.evc.source n.val).state = .inService) ∧ (¬ s.takenNow n.val)) ∧
    (∃ (s : State) (n : Fin 256), (s.evc.source n.val).en = false) ∧
    (∃ (s : State) (n : Fin 256), (s.rst.coreUp = true) ∧ ((s.evc.source n.val).en = true) ∧ ((s.evc.source n.val).state = .idle) ∧ ((s.evc.source n.val).target = 0) ∧ (¬ s.takenNow n.val) ∧ (¬ s.releasedNow) ∧ (s.evc.hostPending = []) ∧ (s.evc.held = none) ∧ (s.evc.timer = none) ∧ (s.fil.addr ≠ 0) ∧ (s.flag F.SHD_STATUS_HALTED = false) ∧ (0 < s.evc.delay) ∧ (s.evc.count ≠ 1)) :=
  ⟨⟨State.reset, 200, by decide⟩,
    ⟨raise 200 (w_evc (fun e => e.put 200 { e.source 200 with target := 12 }) State.reset), 200, by decide⟩,
    ⟨w_evc (fun e => { e.put 200 { e.source 200 with state := .inService } with taken := [200] }) State.reset, 200, by decide⟩,
    ⟨w_evc (fun e => { e with rel := true, held := some ⟨1, 0, [], true⟩ }) State.reset, 200, by decide⟩,
    ⟨w_evc (fun e => e.put 200 { e.source 200 with state := .inService }) State.reset, 200, by decide⟩,
    ⟨State.reset, 0, by decide⟩,
    ⟨w_fil (fun x => { x with addr := 7 }) (w_evc (fun e => { e with delay := 100 }) ((w_evc (fun x => { x with timer := none }) (w_evc (fun x => { x with held := none }) State.reset)).set F.SHD_STATUS_HALTED 0)), 200, by decide⟩⟩

theorem witness_EvcRaise :
    (∃ (s : State) (p : Partner), s.admits p R.EVC_RAISE) :=
  ⟨State.reset, .svp, by decide⟩

theorem witness_SourceConfigAndServiceEnds :
    (∃ (s : State) (p : Partner) (n : Fin 256), s.admits p (0x00F000B00100 + 4 * n.val)) ∧
    (∃ (s : State) (p : Partner) (w : Fin 8), (s.admits p (R.EVC_END w.val)) ∧ (s.evcEnv.level253 = false) ∧ (s.evcEnv.level255 = false) ∧ (s.noneLostNow)) ∧
    (∃ (s : State) (p : Partner) (w : Fin 8) (i : Fin 32) (was : Bool), (s.admits p (R.EVC_END w.val)) ∧ (s.evcEnv.level253 = false) ∧ (s.evcEnv.level255 = false) ∧ ((s.evc.source (32 * w.val + i.val)).state = .inService) ∧ ((s.evc.source (32 * w.val + i.val)).en = true) ∧ (¬ s.takenNow (32 * w.val + i.val)) ∧ ((s.evc.source (32 * w.val + i.val)).cfgTarget ≠ 0) ∧ (s.evcNow.goneOf (32 * w.val + i.val) = [(32 * w.val + i.val, was)])) ∧
    (∃ (s : State) (q : ModTimer), (swf Source.init s.evc.src = true) ∧ (s.evc.timer = some q) ∧ (q.start + 64 * q.delay ≤ s.tt.run) ∧ (s.fil.addr ≠ 0) ∧ (s.flag F.SHD_STATUS_HALTED = false) ∧ (s.evc.hostPending ≠ []) ∧ (s.evcEnv.level253 = false) ∧ (s.evcEnv.level255 = false)) ∧
    (∃ (s : State) (q : ModTimer), (s.evc.timer = some q) ∧ (q.start + 64 * q.delay ≤ s.tt.run) ∧ (s.fil.addr ≠ 0) ∧ (s.flag F.SHD_STATUS_HALTED = false) ∧ (s.evc.hostPending = [])) :=
  ⟨⟨State.reset, .svp, 0, by decide⟩,
    ⟨w_evc (fun e => e.put 0 { e.source 0 with state := .inService }) State.reset, .svp, 0, by decide⟩,
    ⟨w_evc (fun e => { e.put 65 ⟨.inService, true, true, false, 3, 3⟩ with lostAny := true, gone := [(65, false)] }) State.reset, .svp, 2, 1, false, by decide⟩,
    ⟨w_fil (fun x => { x with addr := 7 }) (w_tt (fun x => { x with run := 6400 }) (w_evc (fun e => { e.put 84 { e.source 84 with state := .pending } with timer := some ⟨0, 100, 0, 1⟩ }) State.reset)), ⟨0, 100, 0, 1⟩, by decide⟩,
    ⟨w_fil (fun x => { x with addr := 7 }) (w_tt (fun x => { x with run := 6400 }) (w_evc (fun e => { e with timer := some ⟨0, 100, 0, 1⟩ }) State.reset)), ⟨0, 100, 0, 1⟩, by decide⟩⟩

theorem witness_FabricEvents :
    (∃ (s : State), (s.fabricOn = true) ∧ (s.flag F.CFG_STATUS_DONE = true)) ∧
    (∃ (s : State) (m : Fin 16) (k : Nat), (swf Source.init s.evc.src = true) ∧ (s.fabricOn = true) ∧ (s.flag F.CFG_STATUS_DONE = true) ∧ (s.evc.lowestFor (9 + m.val) = some k)) ∧
    (∃ (s : State) (m : Fin 16) (k : Nat) (j : Fin 256), (swf Source.init s.evc.src = true) ∧ (s.fabricOn = true) ∧ (s.flag F.CFG_STATUS_DONE = true) ∧ (s.evc.lowestFor (9 + m.val) = some k) ∧ (j.val ≠ k)) ∧
    (∃ (s : State) (m : Fin 16) (k : Nat) (j : Fin 256), (swf Source.init s.evc.src = true) ∧ (s.fabricOn = true) ∧ (s.flag F.CFG_STATUS_DONE = true) ∧ (s.evc.lowestFor (9 + m.val) = some k) ∧ (j.val < k)) ∧
    (∃ (s : State) (m : Fin 16), (s.fabricOn = true) ∧ (s.flag F.CFG_STATUS_DONE = true) ∧ (s.evc.lowestFor (9 + m.val) = none)) ∧
    (∃ (s : State) (m : Fin 16) (src : Byte), (s.fabricOn = true) ∧ (s.flag F.CFG_STATUS_DONE = true) ∧ ((s.evc.source src.toNat).target = 9 + m.val) ∧ ((s.evc.source src.toNat).state = .inService) ∧ (s.evcEnv.level253 = false) ∧ (s.evcEnv.level255 = false) ∧ (¬ s.takenNow src.toNat) ∧ (s.noneLostNow)) ∧
    (∃ (s : State) (m : Fin 16) (src : Byte), (s.fabricOn = true) ∧ (s.flag F.CFG_STATUS_DONE = true) ∧ ((s.evc.source src.toNat).target ≠ 9 + m.val ∨ (s.evc.source src.toNat).state ≠ .inService ∨ s.takenNow src.toNat)) :=
  ⟨⟨(State.reset.set F.CFG_STATUS_DONE 1).set F.CFG_STATUS_DONE 1, by decide⟩,
    ⟨(w_evc (fun e => e.put 70 { e.source 70 with state := .pending, target := 9 }) (State.reset.set F.CFG_STATUS_DONE 1)).set F.CFG_STATUS_DONE 1, 0, 70, by decide⟩,
    ⟨(w_evc (fun e => e.put 70 { e.source 70 with state := .pending, target := 9 }) (State.reset.set F.CFG_STATUS_DONE 1)).set F.CFG_STATUS_DONE 1, 0, 70, 0, by decide⟩,
    ⟨(w_evc (fun e => e.put 70 { e.source 70 with state := .pending, target := 9 }) (State.reset.set F.CFG_STATUS_DONE 1)).set F.CFG_STATUS_DONE 1, 0, 70, 0, by decide⟩,
    ⟨(State.reset.set F.CFG_STATUS_DONE 1).set F.CFG_STATUS_DONE 1, 0, by decide⟩,
    ⟨(w_evc (fun e => e.put 0 { e.source 0 with state := .inService, target := 9 }) (State.reset.set F.CFG_STATUS_DONE 1)).set F.CFG_STATUS_DONE 1, 0, 0, by decide⟩,
    ⟨(State.reset.set F.CFG_STATUS_DONE 1).set F.CFG_STATUS_DONE 1, 0, 0, by decide⟩⟩

theorem witness_FabricUnits :
    (∃ (s : State) (portB : Bool) (tile : Fin 3072), (clocked s (regionOfTile tile.val) = true) ∧ (bramOther s portB tile.val = none)) ∧
    (∃ (s : State) (tile : Fin 3072) (width : Fin 7) (word : Nat) (be : BitVec 8) (l : BramLast), (clocked s (regionOfTile tile.val) = true) ∧ (bramOther s true tile.val = some l) ∧ (if tileEcc s tile.val then l.word = word % 512 else ∃ x ∈ l.old, ∃ b : Fin 72, b.val < bramWidth width.val ∧ x.1 = bramBit width.val (word % bramDepth width.val) b.val ∧ (3 ≤ width.val → be.getLsbD (b.val / 9) = true))) ∧
    (∃ (s : State) (n : Fin 16), s.flag (F.CLK_PLL_STATUS_EN n.val) = true) ∧
    (∃ (s : State) (n : Fin 16), s.flag (F.CLK_PLL_STATUS_LOCKED n.val) = true) ∧
    (∃ (s : State) (p : Partner) (n : Fin 16), s.admits p (R.CLK_PLL_CMD n.val)) ∧
    (∃ (s : State) (n : Fin 4), let u := vget s.fab.uarts n; (s.fabricOn = true) ∧ (s.flag F.CFG_STATUS_DONE = true)) ∧
    (∃ (s : State) (n : Fin 4), let u := vget s.fab.uarts n; u.rx = []) ∧
    (∃ (s : State) (n : Fin 4) (c : UrtChar), let u := vget s.fab.uarts n; (s.fabricOn = true) ∧ (s.flag F.CFG_STATUS_DONE = true) ∧ (u.rx.head? = some c)) ∧
    (∃ (s : State) (n : Fin 4), let u := vget s.fab.uarts n; (s.fabricOn = true) ∧ (s.flag F.CFG_STATUS_DONE = true) ∧ (u.cfg.getLsbD 8 = true) ∧ (u.cfg.getLsbD 13 = false)) ∧
    (∃ (s : State) (n : Fin 4) (c : Byte), let u := vget s.fab.uarts n; (s.fabricOn = true) ∧ (s.flag F.CFG_STATUS_DONE = true) ∧ (u.shift = some c) ∧ (u.cfg.getLsbD 13 = false)) ∧
    (∃ (s : State) (n : Fin 4), let u := vget s.fab.uarts n; (s.fabricOn = true) ∧ (s.flag F.CFG_STATUS_DONE = true) ∧ (u.rx ≠ []) ∧ (u.cfg.getLsbD 10 = false) ∧ (u.lastRx + 4 * uartCharNs s n.val u ≤ s.clk.now)) :=
  ⟨⟨State.reset.set F.CFG_STATUS_DONE 1, false, 191, by decide⟩,
    ⟨w_fab (fun x => { x with bramLast := [⟨191, false, 0, 5, [(bramBit 0 5 0, false)], none⟩] }) (State.reset.set F.CFG_STATUS_DONE 1), 191, 0, 5, 255, ⟨191, false, 0, 5, [(bramBit 0 5 0, false)], none⟩, by decide, by decide, by split <;> decide⟩,
    ⟨State.reset.set (F.CLK_PLL_STATUS_EN (0 : Fin 16).val) 1, 0, by decide⟩,
    ⟨State.reset.set (F.CLK_PLL_STATUS_LOCKED (0 : Fin 16).val) 1, 0, by decide⟩,
    ⟨State.reset, .svp, 0, by decide⟩,
    ⟨(State.reset.set F.CFG_STATUS_DONE 1).set F.CFG_STATUS_DONE 1, 0, by decide⟩,
    ⟨State.reset.set F.CFG_STATUS_DONE 1, 0, by decide⟩,
    ⟨w_fab (fun x => { x with uarts := vset x.uarts 0 { vget x.uarts 0 with rx := [⟨65, false, false, false⟩] } }) ((State.reset.set F.CFG_STATUS_DONE 1).set F.CFG_STATUS_DONE 1), 0, ⟨65, false, false, false⟩, by decide⟩,
    ⟨w_fab (fun x => { x with uarts := vset x.uarts 0 { vget x.uarts 0 with cfg := 0x103 } }) ((State.reset.set F.CFG_STATUS_DONE 1).set F.CFG_STATUS_DONE 1), 0, by decide⟩,
    ⟨w_fab (fun x => { x with uarts := vset x.uarts 0 { vget x.uarts 0 with shift := some 65 } }) ((State.reset.set F.CFG_STATUS_DONE 1).set F.CFG_STATUS_DONE 1), 0, 65, by decide⟩,
    ⟨w_clk (fun x => { x with now := 1000000000 }) (w_fab (fun x => { x with uarts := vset x.uarts 0 { vget x.uarts 0 with rx := [⟨65, false, false, false⟩] } }) ((State.reset.set F.CFG_STATUS_DONE 1).set F.CFG_STATUS_DONE 1)), 0, by decide⟩⟩

theorem witness_LinkTraining :
    (∃ (s : State) (port : Port) (bytes : List Byte), (s.rst.coreUp = true) ∧ (badWord bytes = true) ∧ (port = .ds ∨ s.get F.TT_CTRL_SOURCE ≠ 2 ∨ (byteAt bytes 0 ≠ 0x87 ∧ byteAt bytes 0 ≠ 0x99))) ∧
    (∃ (s : State) (bytes : List Byte), (s.rst.coreUp = true) ∧ (badWord bytes = true) ∧ (s.get F.TT_CTRL_SOURCE = 2) ∧ (byteAt bytes 0 = 0x87 ∨ byteAt bytes 0 = 0x99)) ∧
    (∃ (s : State) (port : Port), (s.filUp = true) ∧ ((s.link port).state = .training ∨ (s.link port).state = .down)) ∧
    (∃ (s : State) (port : Port), (s.filUp = true) ∧ ((s.link port).state = .training) ∧ (16 ≤ (s.link port).ready0) ∧ (16 ≤ (s.link port).ready1) ∧ ((s.link port).waking = false)) ∧
    (∃ (s : State) (port : Port), (s.filUp = true) ∧ ((s.link port).waking = true) ∧ ((s.link port).state = .doze ∨ ((s.link port).state = .training ∧ 16 ≤ (s.link port).ready0 ∧ 16 ≤ (s.link port).ready1))) ∧
    (∃ (s : State) (port : Port), (s.isActive port = true) ∧ ((s.link port).lastRx + 10000 ≤ s.clk.now)) ∧
    (∃ (s : State) (port : Port), (s.isActive port = true) ∧ ((s.link port).unacked ≠ []) ∧ ((s.link port).unackedAt + 10000 ≤ s.clk.now)) ∧
    (∃ (s : State) (p : Partner), (s.admits p R.FIL_CTRL) ∧ (s.fil.us.state = .active)) ∧
    (∃ (s : State) (p : Partner), (s.admits p R.FIL_CTRL) ∧ (s.fil.ds.state = .active)) ∧
    (∃ (s : State) (port : Port), (s.filUp = true) ∧ ((s.link port).state = .training) ∧ ((s.link port).since + 1000000 ≤ s.clk.now)) :=
  ⟨⟨State.reset, .us, [0x1E, 0, 0, 0, 0, 0, 0, 1], by decide⟩,
    ⟨State.reset.set F.TT_CTRL_SOURCE 2, [0x87], by decide⟩,
    ⟨State.reset, .us, by decide⟩,
    ⟨w_us (fun l => { l with state := .training, ready0 := 16, ready1 := 16 }) State.reset, .us, by decide⟩,
    ⟨w_us (fun l => { l with state := .doze, waking := true }) State.reset, .us, by decide⟩,
    ⟨w_clk (fun c => { c with now := 10000 }) (w_us (fun l => { l with state := .active }) State.reset), .us, by decide⟩,
    ⟨w_clk (fun c => { c with now := 10000 }) (w_us (fun l => { l with state := .active, unacked := [⟨0, ⟨0, 0, []⟩, 0⟩] }) State.reset), .us, by decide⟩,
    ⟨w_us (fun l => { l with state := .active }) State.reset, .svp, by decide⟩,
    ⟨w_ds (fun l => { l with state := .active }) State.reset, .svp, by decide⟩,
    ⟨w_clk (fun c => { c with now := 1000000 }) State.reset, .us, by decide⟩⟩

theorem witness_LinkPackets :
    (∃ (s : State) (port : Port) (vc : Fin 4) (seq : BitVec 12) (nw : BitVec 6) (bytes : List Byte) (crc : Word), (s.isActive port = true) ∧ (crc = crc32 (sopBytes vc.val seq.toNat nw.toNat ++ bytes)) ∧ (seq.toNat = (s.link port).rxSeq) ∧ (vget (s.link port).room vc ≠ 0)) ∧
    (∃ (s : State) (port : Port) (vc : Fin 4) (seq : BitVec 12) (nw : BitVec 6) (bytes : List Byte) (crc : Word), (s.isActive port = true) ∧ (crc ≠ crc32 (sopBytes vc.val seq.toNat nw.toNat ++ bytes))) ∧
    (∃ (s : State) (port : Port) (vc : Fin 4) (seq : BitVec 12) (nw : BitVec 6) (bytes : List Byte) (crc : Word), (s.isActive port = true) ∧ (crc = crc32 (sopBytes vc.val seq.toNat nw.toNat ++ bytes)) ∧ (seq.toNat ≠ (s.link port).rxSeq)) ∧
    (∃ (s : State) (k : Packet), s.fil.upQueue.head? = some k) ∧
    (∃ (s : State) (port : Port) (w : List Byte), (s.isActive port = true) ∧ ((s.link port).words.head? = some (.word w))) ∧
    (∃ (s : State) (port : Port) (x : Sent) (q : Nat), (s.isActive port = true) ∧ ((s.link port).words = []) ∧ ((s.link port).replay.head? = some q) ∧ ((s.link port).unacked.find? (fun y => y.seq == q) = some x) ∧ (s.flag F.RAS_INJ_CTRL_ARM = false)) ∧
    (∃ (s : State) (port : Port) (k : Packet), (s.isActive port = true) ∧ ((s.link port).words = []) ∧ ((s.link port).replay = []) ∧ ((s.link port).unacked.length < 64) ∧ (port = .ds ∨ (s.evc.held = none ∧ s.evc.out = [])) ∧ (nextPacket (s.link port) = some k) ∧ (s.flag F.RAS_INJ_CTRL_ARM = false)) ∧
    (∃ (s : State) (port : Port), (s.isActive port = true) ∧ ((s.link port).ackOwed ≠ 0)) ∧
    (∃ (s : State) (port : Port) (seq : BitVec 12), (s.hears port = true) ∧ ((s.link port).unacked.any (fun x => x.seq == seq.toNat) = true)) ∧
    (∃ (s : State) (port : Port) (seq : BitVec 12), (s.hears port = true) ∧ ((s.link port).unacked.any (fun x => x.seq == seq.toNat) = false)) ∧
    (∃ (s : State) (port : Port), s.hears port = true) ∧
    (∃ (s : State) (port : Port), (s.isActive port = true) ∧ ((s.link port).owed.toList.any (fun n => n != 0) = true)) :=
  ⟨⟨w_ds (fun l => { l with state := .active }) State.reset, .ds, 0, 0, 0, [], crc32 (sopBytes 0 0 0 ++ []), by decide⟩,
    ⟨w_us (fun l => { l with state := .active }) State.reset, .us, 0, 0, 0, [], 1, by decide⟩,
    ⟨w_ds (fun l => { l with state := .active }) State.reset, .ds, 0, 5, 0, [], crc32 (sopBytes 0 5 0 ++ []), by decide⟩,
    ⟨w_fil (fun f => { f with upQueue := [⟨1, 4, []⟩] }) State.reset, ⟨1, 4, []⟩, by decide⟩,
    ⟨w_us (fun l => { l with state := .active, words := [.word [1, 2]] }) State.reset, .us, [1, 2], by decide⟩,
    ⟨w_us (fun l => { l with state := .active, unacked := [⟨3, ⟨0, 0, []⟩, 0⟩], replay := [3] }) State.reset, .us, ⟨3, ⟨0, 0, []⟩, 0⟩, 3, by decide⟩,
    ⟨w_us (fun l => { l with state := .active, queue := [⟨1, 4, []⟩], credits := Vector.replicate 4 1 }) State.reset, .us, ⟨1, 4, []⟩, by decide⟩,
    ⟨w_us (fun l => { l with state := .active, ackOwed := 1 }) State.reset, .us, by decide⟩,
    ⟨w_us (fun l => { l with state := .active, unacked := [⟨3, ⟨0, 0, []⟩, 0⟩] }) State.reset, .us, 3, by decide⟩,
    ⟨w_us (fun l => { l with state := .active, unacked := [⟨3, ⟨0, 0, []⟩, 0⟩] }) State.reset, .us, 4, by decide⟩,
    ⟨w_us (fun l => { l with state := .active }) State.reset, .us, by decide⟩,
    ⟨w_us (fun l => { l with state := .active, owed := Vector.replicate 4 1 }) State.reset, .us, by decide⟩⟩

theorem witness_LinkPower :
    (∃ (s : State) (p : Partner) (v : Word), (s.admits p R.FIL_CTRL) ∧ (s.fil.ds.state = .active) ∧ (F.FIL_CTRL_DS_PM.of v = 1 ∨ F.FIL_CTRL_DS_PM.of v = 2)) ∧
    (∃ (s : State), (s.rst.coreUp = true) ∧ (s.fil.us.state = .active ∨ s.fil.us.state = .doze ∨ s.fil.us.state = .sleep) ∧ (s.fil.us.unacked = [])) ∧
    (∃ (s : State), (s.rst.coreUp = true) ∧ (s.fil.us.state = .active ∨ s.fil.us.state = .doze ∨ s.fil.us.state = .sleep) ∧ (s.fil.us.unacked ≠ [])) ∧
    (∃ (s : State), (s.isActive .ds = true) ∧ (1 ≤ s.get F.FIL_CTRL_DS_PM) ∧ (s.get F.FIL_CTRL_DS_PM ≤ 2)) ∧
    (∃ (s : State), s.isActive .ds = true) ∧
    (∃ (s : State), (s.rst.coreUp = true) ∧ (s.fil.addr ≠ 0) ∧ (s.fil.ds.state = .doze)) ∧
    (∃ (s : State), (s.rst.coreUp = true) ∧ (s.fil.addr ≠ 0) ∧ (s.fil.ds.state = .sleep)) :=
  ⟨⟨w_ds (fun l => { l with state := .active }) State.reset, .svp, 0x11, by decide⟩,
    ⟨w_us (fun l => { l with state := .active }) State.reset, by decide⟩,
    ⟨w_us (fun l => { l with state := .active, unacked := [⟨0, ⟨0, 0, []⟩, 0⟩] }) State.reset, by decide⟩,
    ⟨w_ds (fun l => { l with state := .active }) (State.reset.set F.FIL_CTRL_DS_PM 2), by decide⟩,
    ⟨w_ds (fun l => { l with state := .active }) State.reset, by decide⟩,
    ⟨w_fil (fun f => { f with addr := 1 }) (w_ds (fun l => { l with state := .doze }) State.reset), by decide⟩,
    ⟨w_fil (fun f => { f with addr := 1 }) (w_ds (fun l => { l with state := .sleep }) State.reset), by decide⟩⟩

theorem witness_ChainTime :
    (∃ (s : State), (s.isActive .ds = true) ∧ (s.flag F.TT_STATUS_RUNNING = true) ∧ (s.tt.tt.toNat / 65536 ≠ s.tt.syncIdx)) ∧
    (∃ (s : State), (s.isActive .ds = true) ∧ (s.flag F.TT_STATUS_RUNNING = false) ∧ (s.tt.syncAt + 1024 ≤ s.clk.now)) ∧
    (∃ (s : State) (port : Port), (s.isActive port = true) ∧ ((s.link port).words.head? = some .syncPair)) ∧
    (∃ (s : State) (flags : Byte), (s.isActive .us = true) ∧ (s.get F.TT_CTRL_SOURCE = 2) ∧ (flags.getLsbD 1 = true) ∧ (s.flag F.TT_STATUS_EPOCH_VALID = false)) ∧
    (∃ (s : State) (flags : Byte) (pt : TT64), (s.isActive .us = true) ∧ (s.get F.TT_CTRL_SOURCE = 2) ∧ (flags.getLsbD 1 = true) ∧ (flags.getLsbD 0 = false) ∧ (s.flag F.TT_STATUS_EPOCH_VALID = true) ∧ (s.flag F.TT_STATUS_HOLDOVER = false) ∧ (s.tt.phasePending = false) ∧ (s.tt.slew = none) ∧ (s.tt.step = none) ∧ ((ttDiff s.tt.tt (pt + BitVec.ofNat 64 (s.get F.TT_HOP_DELAY_DELAY))).natAbs ≤ 128)) ∧
    (∃ (s : State) (flags : Byte), (s.isActive .us = true) ∧ (s.get F.TT_CTRL_SOURCE = 2) ∧ (flags.getLsbD 1 = false)) ∧
    (∃ (s : State) (flags : Byte) (q : StepPending), (s.isActive .us = true) ∧ (s.get F.TT_CTRL_SOURCE = 2) ∧ (s.tt.step = some q) ∧ (q.announced = true) ∧ (1 ≤ q.pairsWithout) ∧ (flags.getLsbD 1 = false) ∧ (flags.getLsbD 2 = false)) ∧
    (∃ (s : State) (pt : TT64), (s.isActive .us = true) ∧ (s.get F.TT_CTRL_SOURCE = 2) ∧ (s.tt.step = none) ∧ (s.tt.tt.toNat < pt.toNat)) ∧
    (∃ (s : State), (s.isActive .us = true) ∧ (s.get F.TT_CTRL_SOURCE = 2) ∧ (s.tt.echoNext ≤ s.clk.now)) ∧
    (∃ (s : State) (tag : Byte), (s.isActive .us = true) ∧ (s.fil.us.words.head? = some (.echoReq tag))) ∧
    (∃ (s : State), s.isActive .ds = true) ∧
    (∃ (s : State) (tag : Byte) (t0 : Nat), (s.isActive .ds = true) ∧ (s.fil.ds.words.head? = some (.echoRsp tag t0))) ∧
    (∃ (s : State) (tag : Byte) (t0 : Nat), (s.isActive .us = true) ∧ (s.tt.echoAt = some t0) ∧ (tag = s.tt.echoTag)) :=
  ⟨⟨w_ds (fun l => { l with state := .active }) (w_tt (fun x => { x with tt := 65536 }) (State.reset.set F.TT_STATUS_RUNNING 1)), by decide⟩,
    ⟨w_clk (fun c => { c with now := 1024 }) (w_ds (fun l => { l with state := .active }) State.reset), by decide⟩,
    ⟨w_us (fun l => { l with state := .active, words := [.syncPair] }) State.reset, .us, by decide⟩,
    ⟨w_us (fun l => { l with state := .active }) ((State.reset.set F.TT_CTRL_SOURCE 2).set F.TT_STATUS_EPOCH_VALID 0), 2, by decide⟩,
    ⟨w_us (fun l => { l with state := .active }) (w_tt (fun x => { x with slew := none }) (w_tt (fun x => { x with phasePending := false }) (((State.reset.set F.TT_CTRL_SOURCE 2).set F.TT_STATUS_EPOCH_VALID 1).set F.TT_STATUS_HOLDOVER 0))), 2, 0, by decide⟩,
    ⟨w_us (fun l => { l with state := .active }) (State.reset.set F.TT_CTRL_SOURCE 2), 0, by decide⟩,
    ⟨w_tt (fun x => { x with step := some ⟨1000, 64, true, 1⟩ }) (w_us (fun l => { l with state := .active }) (State.reset.set F.TT_CTRL_SOURCE 2)), 0, ⟨1000, 64, true, 1⟩, by decide⟩,
    ⟨w_us (fun l => { l with state := .active }) (w_tt (fun x => { x with step := none }) (State.reset.set F.TT_CTRL_SOURCE 2)), 1, by decide⟩,
    ⟨w_us (fun l => { l with state := .active }) (State.reset.set F.TT_CTRL_SOURCE 2), by decide⟩,
    ⟨w_us (fun l => { l with state := .active, words := [.echoReq 7] }) State.reset, 7, by decide⟩,
    ⟨w_ds (fun l => { l with state := .active }) State.reset, by decide⟩,
    ⟨w_ds (fun l => { l with state := .active, words := [.echoRsp 7 0] }) State.reset, 7, 0, by decide⟩,
    ⟨w_us (fun l => { l with state := .active }) (w_tt (fun x => { x with echoAt := some (0 : Nat) }) State.reset), 0, 0, by decide⟩⟩

theorem witness_ChainRequests :
    (∃ (s : State) (k : Packet), (s.rst.coreUp = true) ∧ (inboxHead s 0x01 = some k) ∧ (isRegPage k.addr = true) ∧ (s.gate .fil k.addr = none) ∧ (k.rlen = 1)) ∧
    (∃ (s : State) (k : Packet), (s.rst.coreUp = true) ∧ (inboxHead s 0x01 = some k) ∧ (isRegPage k.addr = false) ∧ (s.gate .fil k.addr = none) ∧ (1 ≤ k.rlen) ∧ (k.addr % 256 + 4 * k.rlen ≤ 256) ∧ (isShut s 0 = false)) ∧
    (∃ (s : State) (k : Packet), (s.rst.coreUp = true) ∧ (inboxHead s 0x02 = some k) ∧ (isRegPage k.addr = true) ∧ (s.gate .fil k.addr = none) ∧ (k.payload.length = 4)) ∧
    (∃ (s : State) (k : Packet), (s.rst.coreUp = true) ∧ (inboxHead s 0x02 = some k) ∧ (isRegPage k.addr = false) ∧ (s.gate .fil k.addr = none) ∧ (k.payload ≠ []) ∧ (k.addr % 256 + k.payload.length ≤ 256) ∧ (isShut s 0 = false)) ∧
    (∃ (s : State) (k : Packet), (s.rst.coreUp = true) ∧ (inboxHead s 0x04 = some k) ∧ (isRegPage k.addr = false) ∧ (s.gate .fil k.addr = none) ∧ (s.fil.bulkRds = []) ∧ (k.addr % 256 = 0) ∧ (leAt k.payload 0 4 ≠ 0) ∧ (isShut s 0 = false)) ∧
    (∃ (s : State) (k : Packet), (s.rst.coreUp = true) ∧ (inboxHead s 0x03 = some k) ∧ (isRegPage k.addr = false) ∧ (s.gate .fil k.addr = none) ∧ (s.bb.done = []) ∧ (s.fil.bulkTodo = []) ∧ (bulkBusy s = false) ∧ (s.fil.bulks.any (fun b => b.tag == k.tag) = false) ∧ (s.fil.bulks.length < 16) ∧ (k.addr % 4 = 0) ∧ (k.len = 4) ∧ (k.payload.length = 4) ∧ (isShut s 0 = false)) ∧
    (∃ (s : State) (k : Packet), (s.rst.coreUp = true) ∧ (inboxHead s 0x03 = some k) ∧ (s.bb.done = []) ∧ (bulkBusy s = true) ∧ (s.fil.bulks.any (fun b => b.tag == k.tag) = false) ∧ (s.fil.bulks.length < 16)) :=
  ⟨⟨w_fil (fun f => { f with addr := 1, inbox := [⟨1, 6, [1, 0, 1, 9, 0, 0, 0, 0, 8, 0, 0, 0, 0xF0, 0, 0, 1]⟩] }) (State.reset.set F.OWN_STATUS_OWNER 1), ⟨1, 6, [1, 0, 1, 9, 0, 0, 0, 0, 8, 0, 0, 0, 0xF0, 0, 0, 1]⟩, by decide⟩,
    ⟨w_fil (fun f => { f with addr := 1, inbox := [⟨1, 6, [1, 0, 1, 9, 0, 0, 0, 0, 8, 0, 0, 0, 0, 0, 0, 1]⟩] }) (State.reset.set F.OWN_STATUS_OWNER 1), ⟨1, 6, [1, 0, 1, 9, 0, 0, 0, 0, 8, 0, 0, 0, 0, 0, 0, 1]⟩, by decide⟩,
    ⟨w_fil (fun f => { f with addr := 1, inbox := [⟨1, 6, [1, 0, 2, 9, 4, 0, 0, 0, 0x18, 0, 0, 0, 0xF0, 0, 0, 0, 5, 0, 0, 0]⟩] }) (State.reset.set F.OWN_STATUS_OWNER 1), ⟨1, 6, [1, 0, 2, 9, 4, 0, 0, 0, 0x18, 0, 0, 0, 0xF0, 0, 0, 0, 5, 0, 0, 0]⟩, by decide⟩,
    ⟨w_fil (fun f => { f with addr := 1, inbox := [⟨1, 6, [1, 0, 2, 9, 4, 0, 0, 0, 8, 0, 0, 0, 0, 0, 0, 0, 5, 0, 0, 0]⟩] }) (State.reset.set F.OWN_STATUS_OWNER 1), ⟨1, 6, [1, 0, 2, 9, 4, 0, 0, 0, 8, 0, 0, 0, 0, 0, 0, 0, 5, 0, 0, 0]⟩, by decide⟩,
    ⟨w_fil (fun f => { f with addr := 1, inbox := [⟨3, 6, [1, 0, 4, 9, 4, 0, 0, 0, 0, 1, 0, 0, 0, 0, 0, 0, 0, 2, 0, 0]⟩] }) ((w_fil (fun x => { x with bulkRds := [] }) State.reset).set F.OWN_STATUS_OWNER 1), ⟨3, 6, [1, 0, 4, 9, 4, 0, 0, 0, 0, 1, 0, 0, 0, 0, 0, 0, 0, 2, 0, 0]⟩, by decide⟩,
    ⟨w_fil (fun f => { f with addr := 1, inbox := [⟨0, 6, [1, 0, 3, 9, 4, 0, 0, 0, 8, 0, 0, 0, 0, 0, 0, 0, 5, 0, 0, 0]⟩] }) ((w_bb (fun x => { x with done := [] }) State.reset).set F.OWN_STATUS_OWNER 1), ⟨0, 6, [1, 0, 3, 9, 4, 0, 0, 0, 8, 0, 0, 0, 0, 0, 0, 0, 5, 0, 0, 0]⟩, by decide⟩,
    ⟨w_fil (fun f => { f with addr := 1, bulks := [⟨1, 0, 1, 0, 1, none, false⟩], inbox := [⟨0, 3, [1, 0, 3, 9, 4, 0, 0, 0, 8, 0, 0, 0, 0, 0, 0, 0, 5, 0, 0, 0]⟩] }) (State.reset.set F.OWN_STATUS_OWNER 1), ⟨0, 3, [1, 0, 3, 9, 4, 0, 0, 0, 8, 0, 0, 0, 0, 0, 0, 0, 5, 0, 0, 0]⟩, by decide⟩⟩

theorem witness_ChainAnswers :
    (∃ (s : State) (r : OpenReq), (s.rst.coreUp = true) ∧ (s.bb.done = []) ∧ (s.fil.reads.find? OpenReq.complete = some r) ∧ (r.vc ≠ 3 ∨ r.last = true)) ∧
    (∃ (s : State) (r : OpenReq), (s.rst.coreUp = true) ∧ (s.bb.done = []) ∧ (s.fil.writes.find? OpenReq.complete = some r)) ∧
    (∃ (s : State) (b : Bulk), (s.rst.coreUp = true) ∧ (s.bb.done = []) ∧ (s.fil.bulkTodo = []) ∧ (s.fil.bulks.find? (fun b => b.last && b.waiting == 0) = some b)) ∧
    (∃ (s : State) (k : Packet), (s.rst.coreUp = true) ∧ (s.fil.enumHeld = none) ∧ (inboxHead s 0x20 = some k) ∧ (s.fil.addr = 0) ∧ (s.flag F.SHD_STATUS_HALTED = false) ∧ (badPacketRule k = false) ∧ (byteAt k.payload 0 ≠ 0) ∧ (byteAt k.payload 0 ≠ 0xFF) ∧ (s.fil.behind = [])) ∧
    (∃ (s : State) (k : Packet), (s.rst.coreUp = true) ∧ (s.fil.enumHeld = none) ∧ (inboxHead s 0x20 = none) ∧ (s.fil.behind.head? = some k) ∧ (k.type = 0x20) ∧ (18 ≤ k.bytes.length) ∧ (s.fil.ds.state = .active)) ∧
    (∃ (s : State) (k : Packet), (s.rst.coreUp = true) ∧ (s.fil.enumHeld = none) ∧ (inboxHead s 0x20 = none) ∧ (s.fil.behind.head? = some k) ∧ (k.type = 0x20) ∧ (18 ≤ k.bytes.length) ∧ (s.fil.ds.state ≠ .active)) ∧
    (∃ (s : State) (h : Packet × Nat), (s.rst.coreUp = true) ∧ (s.fil.enumHeld = some h) ∧ (h.2 + 1000000 ≤ s.clk.now)) ∧
    (∃ (s : State), (s.rst.coreUp = true) ∧ (s.fil.us.state = .active) ∧ (s.fil.addr = 0) ∧ (s.fil.enumSeen = false) ∧ (s.fil.enumTold ≠ some s.fil.us.activeAt) ∧ (s.fil.us.activeAt + 500000000 ≤ s.clk.now)) ∧
    (∃ (s : State) (k : Packet), (s.rst.coreUp = true) ∧ (inboxHead s 0x30 = some k) ∧ (s.rst.warm = none) ∧ (∀ q ∈ s.svp.takeAt, q.1 ≠ s.clk.now)) ∧
    (∃ (s : State) (k : Packet), (s.rst.coreUp = true) ∧ (inboxHead s 0x30 = some k) ∧ (s.rst.warm = none) ∧ (s.svp.takeAt = some (s.clk.now, false))) ∧
    (∃ (s : State) (k : Packet), (s.rst.coreUp = true) ∧ (inboxHead s 0x32 = some k)) ∧
    (∃ (s : State) (k : Packet), (s.rst.coreUp = true) ∧ (inboxHead s 0x34 = some k)) :=
  ⟨⟨w_fil (fun f => { f with reads := [⟨0, 1, 0, 8, 1, false, [(8, 4, some (.ok, [1, 2, 3, 4]))]⟩] }) (w_bb (fun x => { x with done := [] }) State.reset), ⟨0, 1, 0, 8, 1, false, [(8, 4, some (.ok, [1, 2, 3, 4]))]⟩, by decide⟩,
    ⟨w_fil (fun f => { f with writes := [⟨0, 1, 0, 8, 1, false, [(8, 4, some (.busErr, []))]⟩] }) (w_bb (fun x => { x with done := [] }) State.reset), ⟨0, 1, 0, 8, 1, false, [(8, 4, some (.busErr, []))]⟩, by decide⟩,
    ⟨w_fil (fun f => { f with bulks := [⟨1, 0, 0, 5, 5, none, true⟩] }) (w_bb (fun x => { x with done := [] }) State.reset), ⟨1, 0, 0, 5, 5, none, true⟩, by decide⟩,
    ⟨w_fil (fun f => { f with inbox := [⟨2, 3, [1, 0, 0x20, 9, 4, 0, 0, 0, 0, 0, 0, 0, 0, 0, 0, 0, 0xFE, 0, 0, 0, 0, 0, 0, 0]⟩] }) ((w_fil (fun x => { x with addr := 0 }) (w_fil (fun x => { x with enumHeld := none }) State.reset)).set F.SHD_STATUS_HALTED 0), ⟨2, 3, [1, 0, 0x20, 9, 4, 0, 0, 0, 0, 0, 0, 0, 0, 0, 0, 0, 0xFE, 0, 0, 0, 0, 0, 0, 0]⟩, by decide⟩,
    ⟨w_ds (fun l => { l with state := .active }) (w_fil (fun f => { f with addr := 1, behind := [⟨2, 3, [1, 0, 0x20, 9, 4, 0, 0, 0, 0, 0, 0, 0, 0, 0, 0, 0, 3, 0, 0, 0]⟩] }) State.reset), ⟨2, 3, [1, 0, 0x20, 9, 4, 0, 0, 0, 0, 0, 0, 0, 0, 0, 0, 0, 3, 0, 0, 0]⟩, by decide⟩,
    ⟨w_fil (fun f => { f with addr := 1, behind := [⟨2, 3, [1, 0, 0x20, 9, 4, 0, 0, 0, 0, 0, 0, 0, 0, 0, 0, 0, 3, 0, 0, 0]⟩] }) State.reset, ⟨2, 3, [1, 0, 0x20, 9, 4, 0, 0, 0, 0, 0, 0, 0, 0, 0, 0, 0, 3, 0, 0, 0]⟩, by decide⟩,
    ⟨w_clk (fun c => { c with now := 1000000 }) (w_fil (fun f => { f with enumHeld := some (⟨2, 4, []⟩, 0) }) (w_fil (fun x => { x with enumHeld := some ((⟨2, 4, []⟩, 0) : Packet × Nat) }) State.reset)), (⟨2, 4, []⟩, 0), by decide⟩,
    ⟨w_us (fun l => { l with state := .active, activeAt := 0 }) (w_clk (fun c => { c with now := 500000000 }) (w_fil (fun x => { x with enumTold := none }) (w_fil (fun x => { x with enumSeen := false }) (w_fil (fun x => { x with addr := 0 }) State.reset)))), by decide⟩,
    ⟨w_fil (fun f => { f with inbox := [⟨2, 6, [1, 0, 0x30]⟩] }) State.reset, ⟨2, 6, [1, 0, 0x30]⟩, by decide⟩,
    ⟨w_svp (fun x => { x with takeAt := some (0, false) }) (w_fil (fun f => { f with inbox := [⟨2, 2, [1, 0, 0x30]⟩] }) State.reset), ⟨2, 2, [1, 0, 0x30]⟩, by decide⟩,
    ⟨w_fil (fun f => { f with inbox := [⟨2, 6, [1, 0, 0x32]⟩] }) State.reset, ⟨2, 6, [1, 0, 0x32]⟩, by decide⟩,
    ⟨w_fil (fun f => { f with inbox := [⟨2, 6, [1, 0, 0x34]⟩] }) State.reset, ⟨2, 6, [1, 0, 0x34]⟩, by decide⟩⟩

theorem witness_ServiceFrames :
    (∃ (s : State) (f : List Byte), (s.svpUp = true) ∧ (s.svp.rd = none) ∧ (s.svp.take = false) ∧ (f.length = 12) ∧ (byteAt f 0 = 1) ∧ (1 ≤ (byteAt f 1).toNat) ∧ ((byteAt f 1).toNat ≤ 64)) ∧
    (∃ (s : State) (f : List Byte), (s.svpUp = true) ∧ (s.svp.rd = none) ∧ (s.svp.take = false) ∧ (f.length = 12 + 4 * (byteAt f 1).toNat) ∧ (byteAt f 0 = 2) ∧ (1 ≤ (byteAt f 1).toNat) ∧ ((byteAt f 1).toNat ≤ 64) ∧ (s.svp.wr.length < 4)) ∧
    (∃ (s : State) (f : List Byte), (s.svpUp = true) ∧ (s.svp.rd = none) ∧ (s.svp.take = false) ∧ (f.length = 12 + 4 * (byteAt f 1).toNat) ∧ (byteAt f 0 = 2) ∧ (1 ≤ (byteAt f 1).toNat) ∧ ((byteAt f 1).toNat ≤ 64) ∧ (4 ≤ s.svp.wr.length)) ∧
    (∃ (s : State) (r : RdFrame), (s.svpUp = true) ∧ (s.svp.rd = some r) ∧ (r.waiting = none) ∧ (s.svp.wr = []) ∧ (r.left = 1) ∧ (r.addr = R.TT_EPOCH_LO) ∧ (s.gate .svp r.addr = none) ∧ (r.failStatus = .ok)) ∧
    (∃ (s : State) (r : RdFrame) (y : List Nat × Nat), (s.svpUp = true) ∧ (s.svp.rd = some r) ∧ (r.waiting = some y) ∧ (y.2 + 1000000 ≤ s.clk.now) ∧ (allDone s y.1 = false)) ∧
    (∃ (s : State) (w : WrFrame), (s.svpUp = true) ∧ (s.svp.wr.head? = some w) ∧ (s.svp.wrWait = []) ∧ (w.words ≠ []) ∧ (w.addr = R.TT_EPOCH_LO) ∧ (s.gate .svp w.addr = none)) ∧
    (∃ (s : State) (w : WrFrame), (s.svpUp = true) ∧ (s.svp.wr.head? = some w) ∧ (s.svp.wrWait = []) ∧ (w.words ≠ []) ∧ (s.svp.take = false) ∧ (s.gate .svp w.addr = some .notOwner) ∧ (s.flag F.SVP_STATUS_WR_FAIL = false)) ∧
    (∃ (s : State) (f : List Byte), (s.svpUp = true) ∧ (s.svp.rd = none) ∧ (s.svp.take = false) ∧ (f.length = 4) ∧ (byteAt f 0 = 3) ∧ (byteAt f 1 = 0)) ∧
    (∃ (s : State), (s.svpUp = true) ∧ (s.svp.rd = none) ∧ (s.svp.take = false) ∧ (s.rst.warm = none) ∧ (s.svp.wr = [])) ∧
    (∃ (s : State), (s.svpUp = true) ∧ (s.svp.rd = none) ∧ (s.svp.take = false) ∧ (s.rst.warm = none) ∧ (s.svp.wr ≠ [])) ∧
    (∃ (s : State) (f : List Byte) (n : Nat) (c : Nat), (s.svpUp = true) ∧ (rejectCode s (byteAt f 0).toNat (byteAt f 1).toNat n = some c)) :=
  ⟨⟨State.reset, [1, 1, 0, 0, 0, 0, 0, 0, 0, 0, 0, 0], by decide⟩,
    ⟨State.reset, [2, 1, 0, 0, 0, 0, 0, 0, 0, 0, 0, 0, 1, 2, 3, 4], by decide⟩,
    ⟨w_svp (fun x => { x with wr := List.replicate 4 ⟨0, 0, [0]⟩ }) State.reset, [2, 1, 0, 0, 0, 0, 0, 0, 0, 0, 0, 0, 1, 2, 3, 4], by decide⟩,
    ⟨w_svp (fun x => { x with rd := some ⟨R.TT_EPOCH_LO, 0, 1, none, .ok, 0⟩ }) State.reset, ⟨R.TT_EPOCH_LO, 0, 1, none, .ok, 0⟩, by decide⟩,
    ⟨w_clk (fun c => { c with now := 1000000 }) (w_svp (fun x => { x with rd := some ⟨8, 0, 1, some ([3], 0), .ok, 0⟩ }) State.reset), ⟨8, 0, 1, some ([3], 0), .ok, 0⟩, ([3], 0), by decide⟩,
    ⟨w_svp (fun x => { x with wr := [⟨R.TT_EPOCH_LO, 0, [7]⟩] }) (w_svp (fun x => { x with wrWait := [] }) State.reset), ⟨R.TT_EPOCH_LO, 0, [7]⟩, by decide⟩,
    ⟨(w_svp (fun x => { x with wr := [⟨R.TT_EPOCH_LO, 0, [7]⟩] }) ((w_svp (fun x => { x with wrWait := [] }) State.reset).set F.SVP_STATUS_WR_FAIL 0)).set F.OWN_STATUS_OWNER 1, ⟨R.TT_EPOCH_LO, 0, [7]⟩, by decide⟩,
    ⟨State.reset, [3, 0, 0, 0], by decide⟩,
    ⟨State.reset, by decide⟩,
    ⟨w_svp (fun x => { x with wr := [⟨0, 0, [0]⟩] }) State.reset, by decide⟩,
    ⟨State.reset, [7, 0, 0], 4, 3, by decide⟩⟩

theorem witness_BootFlash :
    (∃ (s : State) (p : Partner), (s.admits p R.BFP_CTRL) ∧ (s.flag F.BFP_CTRL_EN = true)) ∧
    (∃ (s : State) (p : Partner) (v : Word), (s.admits p R.BFP_CMD) ∧ (s.flag F.BFP_STATUS_BUSY = false) ∧ (s.flag F.BFP_STATUS_CFG_ACTIVE = false) ∧ (F.BFP_CMD_PROTO.of v ≠ 0 ∨ F.BFP_CMD_LEN.of v % 2 = 0)) ∧
    (∃ (s : State) (p : Partner), (s.admits p R.BFP_CMD) ∧ (s.flag F.BFP_STATUS_BUSY = true ∨ s.flag F.BFP_STATUS_CFG_ACTIVE = true)) ∧
    (∃ (s : State) (c : FlashCmd), (s.bfp.cmd = some c) ∧ (c.write = false) ∧ (c.len ≤ 256)) ∧
    (∃ (s : State) (c : FlashCmd), (s.bfp.cmd = some c) ∧ (c.octal = true) ∧ (c.write = false) ∧ (c.len ≠ 0)) :=
  ⟨⟨(State.reset.set F.BFP_CTRL_EN 1).set F.BFP_CTRL_EN 1, .svp, by decide⟩,
    ⟨(State.reset.set F.BFP_STATUS_BUSY 0).set F.BFP_STATUS_CFG_ACTIVE 0, .svp, 0x80000000, by decide⟩,
    ⟨State.reset.set F.BFP_STATUS_BUSY 1, .svp, by decide⟩,
    ⟨w_bfp (fun x => { x with cmd := some ⟨0, true, [], none, 0, false, [], 2⟩ }) (w_bfp (fun x => { x with cmd := some (⟨0, true, [], none, 0, false, [], 2⟩ : FlashCmd) }) State.reset), ⟨0, true, [], none, 0, false, [], 2⟩, by decide⟩,
    ⟨w_bfp (fun x => { x with cmd := some ⟨0, true, [], none, 0, false, [], 2⟩ }) (w_bfp (fun x => { x with cmd := some (⟨0, true, [], none, 0, false, [], 2⟩ : FlashCmd) }) State.reset), ⟨0, true, [], none, 0, false, [], 2⟩, by decide⟩⟩

theorem witness_WarmReset :
    (∃ (s : State) (c : Cause), (s.rst.coreUp = true) ∧ (s.rst.warm = some c) ∧ (s.psm.cmd = none)) ∧
    (∃ (s : State) (c : Cause), (s.rst.coreUp = true) ∧ (s.rst.warm = some c) ∧ (s.psm.cmd ≠ none)) ∧
    (∃ (s : State) (t0 : Nat), (s.rst.coreUp = true) ∧ (s.rst.warm = none) ∧ (s.fil.resetAt = some t0) ∧ (t0 + 1000 ≤ s.clk.now) ∧ (s.psm.cmd = none)) ∧
    (∃ (s : State) (c : Cause), (s.rst.deferred = some (false, c)) ∧ (s.psm.cmd = none)) :=
  ⟨⟨w_rst (fun x => { x with warm := some .software }) (w_psm (fun x => { x with cmd := none }) (w_rst (fun x => { x with warm := some (.software : Cause) }) State.reset)), .software, by decide⟩,
    ⟨w_psm (fun x => { x with cmd := some ⟨2, [3], 1, [], false⟩ }) (w_rst (fun x => { x with warm := some .software }) (w_rst (fun x => { x with warm := some (.software : Cause) }) State.reset)), .software, by decide⟩,
    ⟨w_clk (fun c => { c with now := 1000 }) (w_fil (fun x => { x with resetAt := some 0 }) State.reset), 0, by decide⟩,
    ⟨w_rst (fun x => { x with deferred := some (false, .watchdog) }) (w_psm (fun x => { x with cmd := none }) (w_rst (fun x => { x with deferred := some (false, (.watchdog : Cause)) }) State.reset)), .watchdog, by decide⟩⟩

theorem witness_ColdReset :
    (∃ (ns : Nat), ns < 1000) ∧
    (∃ (s : State) (ns : Nat), (1000 ≤ ns) ∧ (s.rst.coreUp = true ∨ s.rst.bringFrom ≠ none) ∧ (s.get F.PWR_STATUS_STATE ≠ 2) ∧ (s.psm.cmd = none)) ∧
    (∃ (s : State) (ns : Nat), (1000 ≤ ns) ∧ (s.rst.coreUp = true ∨ s.rst.bringFrom ≠ none) ∧ (s.get F.PWR_STATUS_STATE ≠ 2) ∧ (s.psm.cmd ≠ none)) ∧
    (∃ (s : State) (c : Cause), (s.rst.deferred = some (true, c)) ∧ (s.psm.cmd = none)) ∧
    (∃ (s : State), (s.rst.coreUp = false) ∧ (s.rst.bringFrom = none) ∧ (s.rst.powered = true) ∧ (s.rst.corePwrEn = true)) ∧
    (∃ (s : State), (s.get F.PWR_STATUS_STATE ≠ 2) ∧ (s.rst.coreUp = false) ∧ (s.rst.bringFrom = none) ∧ (s.rst.powered = false) ∧ (s.rst.corePwrEn = true) ∧ (s.rst.resetN = true)) ∧
    (∃ (s : State), (s.rst.powered = true) ∧ (s.rst.corePwrEn = true)) ∧
    (∃ (s : State), s.psm.cmd = none) ∧
    (∃ (s : State), (s.rst.corePwrEn = false) ∧ (s.get F.PWR_STATUS_STATE = 0)) ∧
    (∃ (s : State), (s.get F.PWR_STATUS_STATE = 2) ∧ (s.rst.corePwrEn = true)) :=
  ⟨⟨999, by decide⟩,
    ⟨(w_psm (fun x => { x with cmd := none }) State.reset), 1000, by decide⟩,
    ⟨w_psm (fun x => { x with cmd := some ⟨2, [3], 1, [], false⟩ }) State.reset, 1000, by decide⟩,
    ⟨w_rst (fun x => { x with deferred := some (true, .software) }) State.reset, .software, by decide⟩,
    ⟨w_rst (fun x => { x with coreUp := false }) (w_rst (fun x => { x with coreUp := false }) State.reset), by decide⟩,
    ⟨w_rst (fun x => { x with coreUp := false, powered := false }) (w_rst (fun x => { x with powered := false }) (w_rst (fun x => { x with coreUp := false }) State.reset)), by decide⟩,
    ⟨State.reset, by decide⟩,
    ⟨(w_psm (fun x => { x with cmd := none }) State.reset), by decide⟩,
    ⟨(w_rst (fun x => { x with corePwrEn := false }) State.reset).set F.PWR_STATUS_STATE 0, by decide⟩,
    ⟨State.reset.set F.PWR_STATUS_STATE 2, by decide⟩⟩

theorem witness_ResetRequests :
    (∃ (s : State) (p : Partner) (v : Word), (s.admits p R.RST_CTRL) ∧ (v.toNat / 256 % 256 = 0xA5)) ∧
    (∃ (s : State) (p : Partner) (v : Word), (s.admits p R.RST_CTRL) ∧ (v.toNat / 256 % 256 ≠ 0xA5)) ∧
    (∃ (s : State) (p : Partner) (v : Word), (s.admits p R.NL_EXIT) ∧ (v.toNat / 256 % 256 = 0xA5)) ∧
    (∃ (s : State) (p : Partner) (v : Word), (s.admits p R.NL_EXIT) ∧ (v.toNat / 256 % 256 ≠ 0xA5)) ∧
    (∃ (s : State) (p : Partner), s.admits p R.RST_START_OK) ∧
    (∃ (s : State), s.rst.coreUp = true) ∧
    (∃ (s : State), s.rst.coreUp = false) ∧
    (∃ (s : State), s.get F.PWR_STATUS_STATE ≠ 2) ∧
    (∃ (s : State), s.get F.PWR_STATUS_STATE = 2) ∧
    (∃ (s : State), (s.rst.coreUp = true) ∧ (s.flag F.RST_FAIL_NIGHTLIGHT = false) ∧ (s.rst.doneAt = none) ∧ (s.get F.RST_START_TIMEOUT_MS ≠ 0) ∧ (s.rst.warm = none) ∧ (s.rst.deferred = none) ∧ (s.rst.bringAt + 1000000 * s.get F.RST_START_TIMEOUT_MS < s.clk.now)) ∧
    (∃ (s : State) (t0 : Nat), (s.rst.bowAt = some t0) ∧ (s.rst.coreUp = true) ∧ (t0 + 1000000 ≤ s.clk.now)) ∧
    (∃ (s : State) (p : Partner) (v : Word), (s.admits p R.RST_ENGINE) ∧ (v.toNat % 64 ∉ s.rst.engines) ∧ (v.toNat % 64 < 0x28)) ∧
    (∃ (s : State) (p : Partner) (v : Word), (s.admits p R.RST_ENGINE) ∧ (v.toNat % 64 ∉ s.rst.engines) ∧ (0x28 ≤ v.toNat % 64) ∧ (v.toNat % 64 < 0x2C)) ∧
    (∃ (s : State) (p : Partner) (v : Word), (s.admits p R.RST_ENGINE) ∧ (v.toNat % 64 ∈ s.rst.engines)) ∧
    (∃ (s : State) (e : Nat), (s.rst.engines.head? = some e) ∧ (e < 0x28)) :=
  ⟨⟨State.reset, .svp, 0xA500, by decide⟩,
    ⟨State.reset, .svp, 0, by decide⟩,
    ⟨State.reset, .svp, 0xA500, by decide⟩,
    ⟨State.reset, .svp, 0, by decide⟩,
    ⟨State.reset, .svp, by decide⟩,
    ⟨State.reset, by decide⟩,
    ⟨w_rst (fun x => { x with coreUp := false }) State.reset, by decide⟩,
    ⟨State.reset, by decide⟩,
    ⟨State.reset.set F.PWR_STATUS_STATE 2, by decide⟩,
    ⟨w_clk (fun c => { c with now := 1000001 }) (State.reset.set F.RST_START_TIMEOUT_MS 1), by decide⟩,
    ⟨w_clk (fun c => { c with now := 1000000 }) (w_rst (fun x => { x with bowAt := some 0 }) (w_rst (fun x => { x with bowAt := some (0 : Nat) }) State.reset)), 0, by decide⟩,
    ⟨(w_rst (fun x => { x with engines := [] }) State.reset), .svp, 0x27, by decide⟩,
    ⟨State.reset, .svp, 0x28, by decide⟩,
    ⟨w_rst (fun x => { x with engines := [0x27] }) State.reset, .svp, 0x27, by decide⟩,
    ⟨w_rst (fun x => { x with engines := [0x27] }) State.reset, 0x27, by decide⟩⟩

theorem witness_PowerStates :
    (∃ (s : State) (p : Partner), (s.admits p R.PWR_CTRL) ∧ (s.get F.PWR_STATUS_STATE = 0) ∧ (anyEnabled s = false)) ∧
    (∃ (s : State) (p : Partner), (s.admits p R.PWR_CTRL) ∧ (anyEnabled s = true)) ∧
    (∃ (s : State) (p : Partner), (s.admits p R.PWR_CTRL) ∧ (s.get F.PWR_STATUS_STATE = 1)) ∧
    (∃ (s : State) (p : Partner), (s.admits p R.PWR_CTRL) ∧ (s.get F.PWR_STATUS_STATE ≠ 1 ∨ s.evc.held.isSome = true ∨ s.psm.cmd.isSome = true ∨ s.psm.suspended.isSome = true)) ∧
    (∃ (s : State), (s.get F.PWR_STATUS_STATE = 1) ∧ (s.rst.exiting = true)) ∧
    (∃ (s : State) (p : Partner), (s.admits p R.PWR_CTRL) ∧ (s.get F.PWR_STATUS_STATE = 1) ∧ (s.evc.held = none) ∧ (s.psm.cmd = none) ∧ (s.psm.suspended = none)) ∧
    (∃ (s : State), (s.rst.coreUp = true) ∧ (s.rst.bowAt = none)) :=
  ⟨⟨State.reset.set F.PWR_STATUS_STATE 0, .svp, by decide⟩,
    ⟨(State.reset.set F.PWR_STATUS_STATE 0).set (F.BCN_CTRL_EN 15) 1, .svp, by decide⟩,
    ⟨State.reset.set F.PWR_STATUS_STATE 1, .svp, by decide⟩,
    ⟨State.reset, .svp, by decide⟩,
    ⟨w_rst (fun x => { x with exiting := true }) (State.reset.set F.PWR_STATUS_STATE 1), by decide⟩,
    ⟨(w_psm (fun x => { x with cmd := none }) (w_evc (fun x => { x with held := none }) (State.reset.set F.PWR_STATUS_STATE 1))), .svp, by decide⟩,
    ⟨(w_rst (fun x => { x with bowAt := none }) State.reset), by decide⟩⟩

theorem witness_ConfigCommands :
    (∃ (s : State) (p : Partner) (v : Word), (s.admits p R.CFG_CTRL) ∧ (s.cfg.load = none) ∧ (F.CFG_CTRL_SRC.of v ≠ 3) ∧ (F.CFG_CTRL_RELEASE.on v = false)) ∧
    (∃ (s : State) (p : Partner) (v : Word), (s.admits p R.CFG_CTRL) ∧ (s.cfg.load.isSome = true) ∧ (F.CFG_CTRL_RELEASE.on v = false)) ∧
    (∃ (s : State) (p : Partner) (l : Load), (s.admits p R.CFG_CTRL) ∧ (s.cfg.load = some l) ∧ (l.src = 0) ∧ (l.error = none) ∧ (allReceived l = false)) ∧
    (∃ (s : State) (p : Partner), (s.admits p R.CFG_CTRL) ∧ (∀ l ∈ s.cfg.load, l.src ≠ 0 ∨ l.error ≠ none ∨ allReceived l = true)) ∧
    (∃ (s : State) (p : Partner) (v : Word) (l : Load), (s.admits p R.CFG_CTRL) ∧ (s.cfg.load = some l) ∧ (l.error = none) ∧ (F.CFG_CTRL_RELEASE.on v = false)) ∧
    (∃ (s : State) (p : Partner), (s.admits p R.CFG_CTRL) ∧ (s.flag F.CFG_STATUS_HELD = true) ∧ (∀ r ∈ s.cfg.held, r.1 ≤ 24)) ∧
    (∃ (s : State) (r : Nat), (s.cfg.load = none) ∧ (s.cfg.waiting.head? = some r) ∧ (r < 24)) ∧
    (∃ (s : State) (l : Load), (s.cfg.load = some l) ∧ (unconsumed l = true) ∧ (l.lastProgress + 50000000 ≤ s.elapsed)) ∧
    (∃ (s : State) (t0 : Nat) (l : List Nat) (rest : List (Bool × Nat × List Nat)), (s.cfg.starting = (true, t0, l) :: rest) ∧ (s.fabricOn = true) ∧ (t0 + 1000 ≤ s.clk.now) ∧ (∀ r ∈ l, r = 24 ∨ (s.rgnOf r).initAt = none)) :=
  ⟨⟨(w_cfg (fun x => { x with load := none }) State.reset), .svp, 0, by decide⟩,
    ⟨State.reset.putLoad ⟨0, 0, 0, [], 0, 0, [], none, false, [], [], 0, [], 0, [], [], [], [], none, none, false, 0, none⟩, .svp, 0, by decide⟩,
    ⟨(w_cfg (fun x => { x with load := some (⟨0, 0, 0, [], 0, 0, [], none, false, [], [], 0, [], 0, [], [], [], [], none, none, false, 0, none⟩ : Load) }) State.reset).putLoad ⟨0, 0, 0, [], 0, 0, [], none, false, [], [], 0, [], 0, [], [], [], [], none, none, false, 0, none⟩, .svp, ⟨0, 0, 0, [], 0, 0, [], none, false, [], [], 0, [], 0, [], [], [], [], none, none, false, 0, none⟩, by decide⟩,
    ⟨(w_cfg (fun x => { x with load := none }) State.reset), .svp, by decide⟩,
    ⟨(w_cfg (fun x => { x with load := some (⟨0, 0, 0, [], 0, 0, [], none, false, [], [], 0, [], 0, [], [], [], [], none, none, false, 0, none⟩ : Load) }) State.reset).putLoad ⟨0, 0, 0, [], 0, 0, [], none, false, [], [], 0, [], 0, [], [], [], [], none, none, false, 0, none⟩, .svp, 0, ⟨0, 0, 0, [], 0, 0, [], none, false, [], [], 0, [], 0, [], [], [], [], none, none, false, 0, none⟩, by decide⟩,
    ⟨w_cfg (fun c => { c with held := [(23, true), (24, false)] }) (State.reset.set F.CFG_STATUS_HELD 1), .svp, by decide⟩,
    ⟨w_cfg (fun c => { c with waiting := [23] }) (w_cfg (fun x => { x with load := none }) State.reset), 23, by decide⟩,
    ⟨w_tt (fun x => { x with run := 3200000000 }) (State.reset.putLoad ⟨0, 0, 0, [1], 0, 0, [], none, false, [], [], 0, [], 0, [], [], [], [], none, none, false, 0, none⟩), ⟨0, 0, 0, [1], 0, 0, [], none, false, [], [], 0, [], 0, [], [], [], [], none, none, false, 0, none⟩, by decide⟩,
    ⟨w_clk (fun c => { c with now := 1000 }) (w_cfg (fun x => { x with starting := [(true, 0, [0, 24])] }) State.reset), 0, [0, 24], [], by decide⟩⟩

theorem witness_ConfigSteps :
    (∃ (s : State) (l : Load) (h : ZHdr), (s.cfg.load = some l) ∧ (l.hdr = some h) ∧ (l.checked = true) ∧ (l.error = none) ∧ (l.src = 0) ∧ (l.blocks = 0) ∧ (h.streamLen = 128) ∧ (l.stream = []) ∧ (l.raw.length = 132)) ∧
    (∃ (s : State) (l : Load) (h : ZHdr) (z : ZRgn) (f : Nat), (s.cfg.load = some l) ∧ (l.hdr = some h) ∧ (l.todo.head? = some z) ∧ (l.checked = true) ∧ (l.error = none) ∧ (h.full = false) ∧ (z.region < 24) ∧ (s.get (F.RGN_STATUS_STATE z.region) = 3) ∧ (frameAtCursor z l.frame = some (f, none)) ∧ (f < 0x32800)) ∧
    (∃ (s : State) (l : Load) (h : ZHdr) (z : ZRgn), (s.cfg.load = some l) ∧ (l.hdr = some h) ∧ (l.todo.head? = some z) ∧ (l.checked = true) ∧ (l.error = none) ∧ (h.full = false) ∧ (z.region < 24) ∧ (s.get (F.RGN_STATUS_STATE z.region) = 3) ∧ (frameAtCursor z l.frame = none)) ∧
    (∃ (s : State) (l : Load) (h : ZHdr), (s.cfg.load = some l) ∧ (l.hdr = some h) ∧ (l.checked = true) ∧ (l.error = none) ∧ (l.todo = []) ∧ (l.tokPos = h.dictLen) ∧ (l.dictOut.length = 256 * h.dictFrames) ∧ (sha256 l.digestIn = h.digest) ∧ (∀ r ∈ l.names, r.1 ≤ 24) ∧ ((l.names.map (·.1)).Nodup)) ∧
    (∃ (s : State) (l : Load) (e : Nat × Nat), (s.cfg.load = some l) ∧ (l.error = some e) ∧ (l.names = [])) ∧
    (∃ (s : State), (s.works = true) ∧ (s.flag F.CFG_VERIFY_EN = true) ∧ (s.flag F.CFG_VERIFY_ACTION = false) ∧ (s.flag F.RAS_INJ_CTRL_ARM = false) ∧ (s.cfg.lastVerify + 1000000000 * s.get F.CFG_VERIFY_INTERVAL_S ≤ s.elapsed)) :=
  ⟨⟨(w_cfg (fun x => { x with load := some (⟨0, 0, 0, List.replicate 132 0, 132, 0, [], some ⟨false, false, 1, 0, 0, 0, 0, 0, 128, [], 0⟩, true, [], [], 0, [], 0, [], [], [], [], none, none, false, 0, none⟩ : Load) }) State.reset).putLoad ⟨0, 0, 0, List.replicate 132 0, 132, 0, [], some ⟨false, false, 1, 0, 0, 0, 0, 0, 128, [], 0⟩, true, [], [], 0, [], 0, [], [], [], [], none, none, false, 0, none⟩, ⟨0, 0, 0, List.replicate 132 0, 132, 0, [], some ⟨false, false, 1, 0, 0, 0, 0, 0, 128, [], 0⟩, true, [], [], 0, [], 0, [], [], [], [], none, none, false, 0, none⟩, ⟨false, false, 1, 0, 0, 0, 0, 0, 128, [], 0⟩, by decide⟩,
    ⟨(((w_cfg (fun x => { x with load := some (⟨0, 0, 0, [], 0, 0, [], some ⟨false, false, 1, 0, 0, 0, 0, 0, 128, [], 0⟩, true, [⟨0, true, []⟩], [], 0, [], 0, [], [], [], [], none, none, false, 0, none⟩ : Load) }) State.reset).set (F.RGN_STATUS_STATE (⟨0, true, []⟩ : ZRgn).region) 3).putLoad ⟨0, 0, 0, [], 0, 0, [], some ⟨false, false, 1, 0, 0, 0, 0, 0, 128, [], 0⟩, true, [⟨0, true, []⟩], [], 0, [], 0, [], [], [], [], none, none, false, 0, none⟩).set (F.RGN_STATUS_STATE 0) 3, ⟨0, 0, 0, [], 0, 0, [], some ⟨false, false, 1, 0, 0, 0, 0, 0, 128, [], 0⟩, true, [⟨0, true, []⟩], [], 0, [], 0, [], [], [], [], none, none, false, 0, none⟩, ⟨false, false, 1, 0, 0, 0, 0, 0, 128, [], 0⟩, ⟨0, true, []⟩, 0x2800, by decide⟩,
    ⟨(((w_cfg (fun x => { x with load := some (⟨0, 0, 0, [], 0, 0, [], some ⟨false, false, 1, 0, 0, 0, 0, 0, 128, [], 0⟩, true, [⟨0, true, []⟩], [], 0x2000, [], 0, [], [], [], [], none, none, false, 0, none⟩ : Load) }) State.reset).set (F.RGN_STATUS_STATE (⟨0, true, []⟩ : ZRgn).region) 3).putLoad ⟨0, 0, 0, [], 0, 0, [], some ⟨false, false, 1, 0, 0, 0, 0, 0, 128, [], 0⟩, true, [⟨0, true, []⟩], [], 0x2000, [], 0, [], [], [], [], none, none, false, 0, none⟩).set (F.RGN_STATUS_STATE 0) 3, ⟨0, 0, 0, [], 0, 0, [], some ⟨false, false, 1, 0, 0, 0, 0, 0, 128, [], 0⟩, true, [⟨0, true, []⟩], [], 0x2000, [], 0, [], [], [], [], none, none, false, 0, none⟩, ⟨false, false, 1, 0, 0, 0, 0, 0, 128, [], 0⟩, ⟨0, true, []⟩, by decide⟩,
    ⟨(w_cfg (fun x => { x with load := some (⟨0, 0, 0, [], 0, 0, [], some ⟨true, false, 1, 0, 0, 0, 0, 0, 128, sha256 [], 0⟩, true, [], [(0, true)], 0, [], 0, [], [], [], [], none, none, false, 0, none⟩ : Load) }) State.reset).putLoad ⟨0, 0, 0, [], 0, 0, [], some ⟨true, false, 1, 0, 0, 0, 0, 0, 128, sha256 [], 0⟩, true, [], [(0, true)], 0, [], 0, [], [], [], [], none, none, false, 0, none⟩, ⟨0, 0, 0, [], 0, 0, [], some ⟨true, false, 1, 0, 0, 0, 0, 0, 128, sha256 [], 0⟩, true, [], [(0, true)], 0, [], 0, [], [], [], [], none, none, false, 0, none⟩, ⟨true, false, 1, 0, 0, 0, 0, 0, 128, sha256 [], 0⟩, by decide⟩,
    ⟨(w_cfg (fun x => { x with load := some (⟨0, 0, 0, [], 0, 0, [], none, false, [], [], 0, [], 0, [], [], [], [], some (7, 0), none, false, 0, none⟩ : Load) }) State.reset).putLoad ⟨0, 0, 0, [], 0, 0, [], none, false, [], [], 0, [], 0, [], [], [], [], some (7, 0), none, false, 0, none⟩, ⟨0, 0, 0, [], 0, 0, [], none, false, [], [], 0, [], 0, [], [], [], [], some (7, 0), none, false, 0, none⟩, (7, 0), by decide⟩,
    ⟨w_tt (fun x => { x with run := 64000000000 }) (State.reset.wr R.CFG_VERIFY (BitVec.ofNat 32 0x101)), by decide⟩⟩

theorem witness_RegionCommands :
    (∃ (s : State) (p : Partner) (n : Fin 24), (s.admits p (R.RGN_CTRL n.val)) ∧ (s.get (F.RGN_STATUS_STATE n.val) = 1) ∧ (masterIdle (64 + n.val) s = false)) ∧
    (∃ (s : State) (p : Partner) (n : Fin 24), (s.admits p (R.RGN_CTRL n.val)) ∧ (s.get (F.RGN_STATUS_STATE n.val) = 1) ∧ (masterIdle (64 + n.val) s = true) ∧ (s.flag (F.RGN_STATUS_ENABLE_PENDING n.val) = false)) ∧
    (∃ (s : State) (p : Partner) (n : Fin 24), (s.admits p (R.RGN_CTRL n.val)) ∧ (s.get (F.RGN_STATUS_STATE n.val) = 3 ∨ s.get (F.RGN_STATUS_STATE n.val) = 4)) ∧
    (∃ (s : State) (p : Partner) (n : Fin 24), (s.admits p (R.RGN_CTRL n.val)) ∧ (s.get (F.RGN_STATUS_STATE n.val) = 0) ∧ (s.flag (F.RGN_STATUS_FRAMES_VALID n.val) = true)) ∧
    (∃ (s : State) (n : Fin 24) (t0 : Nat), (s.fabricOn = true) ∧ (s.get (F.RGN_STATUS_STATE n.val) = 4) ∧ ((vget s.rgn n).initAt = some t0) ∧ ((vget s.rgn n).nextCause = none) ∧ (t0 + 1000 ≤ s.clk.now)) ∧
    (∃ (s : State) (p : Partner) (n : Fin 24), (s.admits p (R.RGN_CTRL n.val)) ∧ (s.get (F.RGN_STATUS_STATE n.val) = 0) ∧ (s.flag (F.RGN_STATUS_FRAMES_VALID n.val) = false)) ∧
    (∃ (s : State) (p : Partner) (n : Fin 24), (s.admits p (R.RGN_CTRL n.val)) ∧ (s.get (F.RGN_STATUS_STATE n.val) = 2)) ∧
    (∃ (s : State) (p : Partner) (n : Fin 24), (s.admits p (R.RGN_CTRL n.val)) ∧ (s.get (F.RGN_STATUS_STATE n.val) = 1) ∧ (masterIdle (64 + n.val) s = true) ∧ (s.flag (F.RGN_STATUS_ENABLE_PENDING n.val) = false) ∧ (s.flag (F.RGN_STATUS_FRAMES_VALID n.val) = true) ∧ ((vget s.rgn n).claimed = false)) ∧
    (∃ (s : State) (n : Fin 24) (t0 : Nat), ((vget s.rgn n).drainAt = some t0) ∧ (s.get (F.RGN_STATUS_STATE n.val) = 2) ∧ (t0 + 1000 * s.get (F.RGN_CTRL_DRAIN_US n.val) ≤ s.clk.now) ∧ (s.flag (F.RGN_STATUS_ENABLE_PENDING n.val) = false) ∧ ((vget s.rgn n).again = false)) :=
  ⟨⟨w_bb (fun x => { x with bursts := [⟨⟨0, 64, false, 0, 4, [], [], 0, 0, 0, 0, .fabric 64⟩, 1, .ok, []⟩] }) ((State.reset.set (F.RGN_STATUS_STATE (0 : Fin 24).val) 1).set (F.RGN_STATUS_STATE 0) 1), .svp, 0, by decide⟩,
    ⟨(State.reset.set (F.RGN_STATUS_STATE (0 : Fin 24).val) 1).set (F.RGN_STATUS_ENABLE_PENDING (0 : Fin 24).val) 0, .svp, 0, by decide⟩,
    ⟨State.reset.set (F.RGN_STATUS_STATE 0) 3, .svp, 0, by decide⟩,
    ⟨(State.reset.set (F.RGN_STATUS_STATE (0 : Fin 24).val) 0).set (F.RGN_STATUS_FRAMES_VALID (0 : Fin 24).val) 1, .svp, 0, by decide⟩,
    ⟨w_clk (fun c => { c with now := 1000 }) (w_rgn 0 (fun r => { r with initAt := some 0 }) (State.reset.set (F.RGN_STATUS_STATE 0) 4)), 0, 0, by decide⟩,
    ⟨(State.reset.set (F.RGN_STATUS_STATE (0 : Fin 24).val) 0).set (F.RGN_STATUS_FRAMES_VALID (0 : Fin 24).val) 0, .svp, 0, by decide⟩,
    ⟨State.reset.set (F.RGN_STATUS_STATE (0 : Fin 24).val) 2, .svp, 0, by decide⟩,
    ⟨((State.reset.set (F.RGN_STATUS_STATE (0 : Fin 24).val) 1).set (F.RGN_STATUS_ENABLE_PENDING (0 : Fin 24).val) 0).set (F.RGN_STATUS_FRAMES_VALID (0 : Fin 24).val) 1, .svp, 0, by decide⟩,
    ⟨w_clk (fun c => { c with now := 2000000 }) (w_rgn 0 (fun x => { x with drainAt := some 0 }) ((State.reset.set (F.RGN_STATUS_STATE (0 : Fin 24).val) 2).set (F.RGN_STATUS_ENABLE_PENDING (0 : Fin 24).val) 0)), 0, 0, by decide⟩⟩

theorem witness_LaneLife :
    (∃ (s : State) (p : Partner) (n : Fin 64) (v : Word), (s.admits p (R.XCV_CTRL n.val)) ∧ (laneState s n.val = 0) ∧ (s.flag (F.XCV_CTRL_EN n.val) = false) ∧ ((F.XCV_CTRL_REF_SEL n.val).of v < 3) ∧ (laneRefuses (s.set (F.XCV_CTRL_REF_SEL n.val) 0) n.val = false)) ∧
    (∃ (s : State) (p : Partner) (n : Fin 64) (v : Word), (s.admits p (R.XCV_CTRL n.val)) ∧ (laneState s n.val = 0) ∧ (s.flag (F.XCV_CTRL_EN n.val) = false) ∧ (s.flag F.CFG_STATUS_DONE = false ∨ (F.XCV_CTRL_REF_SEL n.val).of v = 3 ∨ 4 ≤ s.get (F.XCV_CFG_PCS n.val) ∨ s.get (F.XCV_CFG_FEC n.val) = 3 ∨ s.flag (F.XCV_CFG_FEC n.val) = true ∧ s.flag (F.XCV_CFG_MOD n.val) = false ∨ s.flag (F.XCV_CFG_FEC n.val) = true ∧ s.get (F.XCV_CFG_PCS n.val) ≠ 2 ∨ s.flag (F.XCV_CFG_MOD n.val) = true ∧ ¬ (13281250 ≤ s.get (F.XCV_RATE_BAUD_KBD n.val) ∧ s.get (F.XCV_RATE_BAUD_KBD n.val) ≤ 28125000) ∨ s.flag (F.XCV_CFG_MOD n.val) = false ∧ ¬ (1250000 ≤ s.get (F.XCV_RATE_BAUD_KBD n.val) ∧ s.get (F.XCV_RATE_BAUD_KBD n.val) ≤ 32500000) ∨ (∃ g, groupOf s n.val = some g ∧ (s.flag (F.XCV_CFG_FEC4 n.val) = true ∧ (groupMembers s g).length ≠ 4 ∨ ∃ m ∈ groupMembers s g, s.get (F.XCV_CFG_PCS m) ≠ s.get (F.XCV_CFG_PCS n.val) ∨ s.get (F.XCV_CFG_MOD m) ≠ s.get (F.XCV_CFG_MOD n.val) ∨ s.get (F.XCV_RATE_BAUD_KBD m) ≠ s.get (F.XCV_RATE_BAUD_KBD n.val))) ∨ groupOf s n.val = none ∧ s.flag (F.XCV_CFG_FEC4 n.val) = true)) ∧
    (∃ (s : State) (n : Fin 64), (laneState s n.val = 1) ∧ ((vget s.xcv n).since + 50000 ≤ s.clk.now)) ∧
    (∃ (s : State) (n : Fin 64), laneState s n.val = 2) ∧
    (∃ (s : State) (p : Partner) (n : Fin 64), (s.admits p (R.XCV_CTRL n.val)) ∧ (laneState s n.val ≠ 0) ∧ (laneState s n.val ≠ 4)) ∧
    (∃ (s : State) (p : Partner) (n : Fin 64), (s.admits p (R.XCV_CTRL n.val)) ∧ (laneState s n.val = 4)) ∧
    (∃ (s : State) (n : Fin 64), (laneState s n.val = 4) ∧ (s.flag (F.XCV_STATUS_ENABLE_PENDING n.val) = false) ∧ (groupOf s n.val = none)) ∧
    (∃ (s : State) (n : Fin 64), (laneState s n.val = 4) ∧ (s.flag (F.XCV_STATUS_ENABLE_PENDING n.val) = true) ∧ (groupOf s n.val = none) ∧ (laneRefuses s n.val = false)) ∧
    (∃ (s : State) (p : Partner) (n : Fin 64) (rate : Bool), (s.admits p (if rate then R.XCV_RATE n.val else R.XCV_CFG n.val)) ∧ (laneState s n.val = 0)) ∧
    (∃ (s : State) (p : Partner) (n : Fin 64) (rate : Bool), (s.admits p (if rate then R.XCV_RATE n.val else R.XCV_CFG n.val)) ∧ (laneState s n.val ≠ 0)) ∧
    (∃ (s : State) (p : Partner) (n : Fin 64), (s.admits p (R.XCV_CTRL n.val)) ∧ (laneState s n.val = 3)) :=
  ⟨⟨((State.reset.set (F.XCV_CTRL_EN (0 : Fin 64).val) 0).set F.CFG_STATUS_DONE 1).set (F.XCV_RATE_BAUD_KBD 0) 10000000, .svp, 0, 1, by decide⟩,
    ⟨State.reset.set (F.XCV_CTRL_EN (0 : Fin 64).val) 0, .svp, 0, 0, by decide⟩,
    ⟨w_clk (fun c => { c with now := 50000 }) (State.reset.set (F.XCV_STATUS_STATE 0) 1), 0, by decide⟩,
    ⟨State.reset.set (F.XCV_STATUS_STATE 0) 2, 0, by decide⟩,
    ⟨State.reset.set (F.XCV_STATUS_STATE 0) 3, .svp, 0, by decide⟩,
    ⟨State.reset.set (F.XCV_STATUS_STATE 0) 4, .svp, 0, by decide⟩,
    ⟨(State.reset.set (F.XCV_STATUS_ENABLE_PENDING (0 : Fin 64).val) 0).set (F.XCV_STATUS_STATE 0) 4, 0, by decide⟩,
    ⟨((((State.reset.set (F.XCV_STATUS_ENABLE_PENDING (0 : Fin 64).val) 1).set F.CFG_STATUS_DONE 1).set (F.XCV_RATE_BAUD_KBD 0) 10000000).set (F.XCV_STATUS_ENABLE_PENDING 0) 1).set (F.XCV_STATUS_STATE 0) 4, 0, by decide⟩,
    ⟨State.reset, .svp, 0, false, by decide⟩,
    ⟨State.reset.set (F.XCV_STATUS_STATE 0) 4, .svp, 0, true, by decide⟩,
    ⟨State.reset.set (F.XCV_STATUS_STATE 0) 3, .svp, 0, by decide⟩⟩

theorem witness_LaneLocks :
    (∃ (s : State) (n : Fin 64), (laneState s n.val = 3) ∧ (s.flag (F.XCV_STATUS_CDR_LOCK n.val) = false) ∧ (s.flag F.TT_LSC_CTRL_EN = false)) ∧
    (∃ (s : State) (n : Fin 64), (s.flag (F.XCV_STATUS_CDR_LOCK n.val) = true) ∧ (s.get (F.XCV_CFG_PCS n.val) ≠ 0) ∧ (s.flag F.TT_LSC_CTRL_EN = false)) ∧
    (∃ (s : State) (n : Fin 64), (s.flag (F.XCV_STATUS_CDR_LOCK n.val) = true) ∧ (s.get (F.XCV_CFG_PCS n.val) ≠ 0) ∧ (s.flag (F.XCV_CFG_FEC n.val) = true) ∧ (s.flag F.TT_LSC_CTRL_EN = false)) ∧
    (∃ (s : State) (n : Fin 64), (s.flag (F.XCV_STATUS_CDR_LOCK n.val) = true) ∧ ((vget s.xcv n).eye = none)) ∧
    (∃ (s : State) (n : Fin 64), (s.flag (F.XCV_STATUS_PCS_LOCK n.val) = true) ∧ ((vget s.xcv n).eye = none) ∧ (groupOf s n.val = none) ∧ (s.flag F.TT_LSC_CTRL_EN = false)) ∧
    (∃ (s : State) (n : Fin 64), (s.flag (F.XCV_STATUS_FEC_LOCK n.val) = true) ∧ ((vget s.xcv n).eye = none) ∧ (groupOf s n.val = none) ∧ (s.flag F.TT_LSC_CTRL_EN = false)) ∧
    (∃ (s : State) (n : Fin 64) (g : Fin 16), (s.flag (F.XCV_STATUS_PCS_LOCK n.val) = true) ∧ (groupOf s n.val = some g.val) ∧ (s.flag (F.XCV_GRP_CTRL_ALIGNED g.val) = true)) ∧
    (∃ (s : State) (g : Fin 16), (groupMembers s g.val ≠ []) ∧ (∀ m ∈ groupMembers s g.val, memberLocked s m = true)) ∧
    (∃ (s : State) (g : Fin 16), s.flag (F.XCV_GRP_CTRL_ALIGNED g.val) = true) ∧
    (∃ (s : State) (p : Partner) (g : Fin 16) (v : Word), (s.admits p (R.XCV_GRP_CTRL g.val)) ∧ (∀ i : Fin 16, (s.get (F.XCV_GRP_CTRL_MASK g.val)).testBit i.val = true ∨ v.getLsbD i.val = true → laneState s (16 * (g.val / 4) + i.val) = 0) ∧ (∀ h : Fin 16, h ≠ g → h.val / 4 = g.val / 4 → (s.get (F.XCV_GRP_CTRL_MASK h.val) &&& (F.XCV_GRP_CTRL_MASK g.val).of v) = 0)) ∧
    (∃ (s : State) (p : Partner) (g : Fin 16) (v : Word) (h : Fin 16) (i : Fin 16), (s.admits p (R.XCV_GRP_CTRL g.val)) ∧ (h ≠ g) ∧ (h.val / 4 = g.val / 4) ∧ (bitOf (s.get (F.XCV_GRP_CTRL_MASK h.val)) i.val = true) ∧ (v.getLsbD i.val = true) ∧ ((F.XCV_GRP_CTRL_MASK g.val).of v ≠ s.get (F.XCV_GRP_CTRL_MASK g.val))) ∧
    (∃ (s : State) (p : Partner) (g : Fin 16) (v : Word) (i : Fin 16), (s.admits p (R.XCV_GRP_CTRL g.val)) ∧ ((s.get (F.XCV_GRP_CTRL_MASK g.val)).testBit i.val = true ∨ v.getLsbD i.val = true) ∧ (laneState s (16 * (g.val / 4) + i.val) ≠ 0) ∧ ((F.XCV_GRP_CTRL_MASK g.val).of v ≠ s.get (F.XCV_GRP_CTRL_MASK g.val))) ∧
    (∃ (s : State) (n : Fin 64), s.flag (F.XCV_STATUS_FEC_LOCK n.val) = true) :=
  ⟨⟨((State.reset.set (F.XCV_STATUS_CDR_LOCK (0 : Fin 64).val) 0).set F.TT_LSC_CTRL_EN 0).set (F.XCV_STATUS_STATE 0) 3, 0, by decide⟩,
    ⟨(((State.reset.set (F.XCV_STATUS_CDR_LOCK (0 : Fin 64).val) 1).set F.TT_LSC_CTRL_EN 0).set (F.XCV_STATUS_CDR_LOCK 0) 1).set (F.XCV_CFG_PCS 0) 1, 0, by decide⟩,
    ⟨((((State.reset.set (F.XCV_STATUS_CDR_LOCK (0 : Fin 64).val) 1).set (F.XCV_CFG_FEC (0 : Fin 64).val) 1).set F.TT_LSC_CTRL_EN 0).set (F.XCV_STATUS_CDR_LOCK 0) 1).set (F.XCV_CFG_FEC 0) 1 |>.set (F.XCV_CFG_PCS 0) 2, 0, by decide⟩,
    ⟨(State.reset.set (F.XCV_STATUS_CDR_LOCK (0 : Fin 64).val) 1).set (F.XCV_STATUS_CDR_LOCK 0) 1, 0, by decide⟩,
    ⟨((State.reset.set (F.XCV_STATUS_PCS_LOCK (0 : Fin 64).val) 1).set F.TT_LSC_CTRL_EN 0).set (F.XCV_STATUS_PCS_LOCK 0) 1, 0, by decide⟩,
    ⟨((State.reset.set (F.XCV_STATUS_FEC_LOCK (0 : Fin 64).val) 1).set F.TT_LSC_CTRL_EN 0).set (F.XCV_STATUS_FEC_LOCK 0) 1, 0, by decide⟩,
    ⟨((((State.reset.set (F.XCV_STATUS_PCS_LOCK (0 : Fin 64).val) 1).set (F.XCV_GRP_CTRL_ALIGNED (0 : Fin 16).val) 1).set (F.XCV_STATUS_PCS_LOCK 0) 1).set (F.XCV_GRP_CTRL_MASK 0) 1).set (F.XCV_GRP_CTRL_ALIGNED 0) 1, 0, 0, by decide⟩,
    ⟨(State.reset.set (F.XCV_GRP_CTRL_MASK 0) 1).set (F.XCV_STATUS_CDR_LOCK 0) 1, 0, by decide⟩,
    ⟨((State.reset.set (F.XCV_GRP_CTRL_ALIGNED (0 : Fin 16).val) 1).set (F.XCV_GRP_CTRL_MASK 0) 1).set (F.XCV_GRP_CTRL_ALIGNED 0) 1, 0, by decide⟩,
    ⟨State.reset, .svp, 0, 3, by decide⟩,
    ⟨State.reset.set (F.XCV_GRP_CTRL_MASK 1) 1, .svp, 0, 3, 1, 0, by decide⟩,
    ⟨State.reset.set (F.XCV_STATUS_STATE 0) 1, .svp, 0, 3, 0, by decide⟩,
    ⟨(State.reset.set (F.XCV_STATUS_FEC_LOCK (0 : Fin 64).val) 1).set (F.XCV_STATUS_FEC_LOCK 0) 1, 0, by decide⟩⟩

theorem witness_LaneTests :
    (∃ (s : State) (n : Fin 64), (laneState s n.val = 3) ∧ (s.flag (F.XCV_PRBS_CHK_EN n.val) = true) ∧ (s.flag (F.XCV_PRBS_STATUS_LOCKED n.val) = false) ∧ (128 ≤ (vget s.xcv n).chkRun)) ∧
    (∃ (s : State) (n : Fin 64), (s.flag (F.XCV_PRBS_STATUS_LOCKED n.val) = true) ∧ (32 ≤ (vget s.xcv n).chkErrs)) ∧
    (∃ (s : State) (p : Partner) (n : Fin 64), s.admits p (R.XCV_PRBS n.val)) ∧
    (∃ (s : State) (p : Partner) (n : Fin 64), s.admits p (R.XCV_PRBS_BITS_LO n.val)) ∧
    (∃ (s : State) (p : Partner) (n : Fin 64), (s.admits p (R.XCV_EYE_CTRL n.val)) ∧ ((vget s.xcv n).eye = none)) ∧
    (∃ (s : State) (p : Partner) (n : Fin 64), (s.admits p (R.XCV_EYE_CTRL n.val)) ∧ ((vget s.xcv n).eye ≠ none)) ∧
    (∃ (s : State) (n : Fin 64) (t0 : Nat), ((vget s.xcv n).eye = some t0) ∧ (2 ^ (16 + s.get (F.XCV_EYE_CTRL_PRESCALE n.val)) ≤ s.get (F.XCV_RATE_BAUD_KBD n.val) * (s.clk.now - t0) / 1000000 / 32)) ∧
    (∃ (s : State) (n : Fin 64) (t0 : Nat), ((vget s.xcv n).eye = some t0) ∧ (s.flag (F.XCV_STATUS_CDR_LOCK n.val) = true)) :=
  ⟨⟨w_xcv 0 (fun x => { x with chkRun := 128 }) ((State.reset.set (F.XCV_PRBS_CHK_EN 0) 1).set (F.XCV_STATUS_STATE 0) 3), 0, by decide⟩,
    ⟨w_xcv 0 (fun x => { x with chkErrs := 32 }) (State.reset.set (F.XCV_PRBS_STATUS_LOCKED 0) 1), 0, by decide⟩,
    ⟨State.reset, .svp, 0, by decide⟩,
    ⟨State.reset.set (F.XCV_PRBS_STATUS_LOCKED 0) 1, .svp, 0, by decide⟩,
    ⟨State.reset, .svp, 0, by decide⟩,
    ⟨w_xcv 0 (fun x => { x with eye := some 3 }) State.reset, .svp, 0, by decide⟩,
    ⟨w_clk (fun c => { c with now := 1000000000 }) (w_xcv 0 (fun x => { x with eye := some 0 }) State.reset), 0, 0, by decide⟩,
    ⟨w_xcv 0 (fun x => { x with eye := some 0 }) (State.reset.set (F.XCV_STATUS_CDR_LOCK 0) 1), 0, 0, by decide⟩⟩

theorem witness_LanternLife :
    (∃ (s : State) (p : Partner) (n : Fin 16) (v : Word), (s.admits p (R.LNT_CTRL n.val)) ∧ (lntState s n.val = 0) ∧ (n.val ∉ s.rst.engines) ∧ ((F.LNT_CTRL_PTR_RESET n.val).on v = false) ∧ (lntRefuses (s.wr (R.LNT_CTRL n.val) (v &&& 0x11F30)) n.val = false)) ∧
    (∃ (s : State) (p : Partner) (n : Fin 16) (v : Word), (s.admits p (R.LNT_CTRL n.val)) ∧ (lntState s n.val = 0) ∧ (n.val ∉ s.rst.engines) ∧ ((F.LNT_CTRL_PTR_RESET n.val).on v = false) ∧ (s.get (F.LNT_RING_SIZE_MIB n.val) = 0 ∨ s.get (F.LNT_IDX_SIZE_SIZE n.val) = 0 ∨ s.get (F.LNT_FIFO_SIZE n.val) = 0)) ∧
    (∃ (s : State) (p : Partner) (n : Fin 16), (s.admits p (R.LNT_CTRL n.val)) ∧ (lntState s n.val = 1 ∨ lntState s n.val = 2) ∧ (n.val ∉ s.rst.engines) ∧ ((vget s.lnt n).layPos % 8 = 0)) ∧
    (∃ (s : State) (p : Partner) (n : Fin 16), (s.admits p (R.LNT_CTRL n.val)) ∧ (lntState s n.val = 3)) ∧
    (∃ (s : State) (n : Fin 16), (lntState s n.val = 3) ∧ ((vget s.lnt n).fifoLen = 0) ∧ ((vget s.lnt n).bursts = []) ∧ ((vget s.lnt n).partialOut = true) ∧ (s.flag (F.LNT_STATUS_ENABLE_PENDING n.val) = false)) ∧
    (∃ (s : State) (n : Fin 16), (lntState s n.val = 3) ∧ ((vget s.lnt n).fifoLen = 0) ∧ ((vget s.lnt n).bursts = []) ∧ ((vget s.lnt n).partialOut = true) ∧ (s.flag (F.LNT_STATUS_ENABLE_PENDING n.val) = true) ∧ (n.val ∉ s.rst.engines) ∧ (lntRefuses s n.val = false)) ∧
    (∃ (s : State) (p : Partner) (n : Fin 16), s.admits p (R.LNT_RD_PTR_LO n.val)) ∧
    (∃ (s : State) (p : Partner) (n : Fin 16), (s.admits p (R.LNT_CTRL n.val)) ∧ (lntState s n.val = 0) ∧ (n.val ∉ s.rst.engines)) ∧
    (∃ (s : State) (p : Partner) (n : Fin 16) (tap : Fin 4), s.admits p (R.LNT_TAP_BYTES_LO n.val tap.val)) :=
  ⟨⟨((((((State.reset.set (F.MC_CFG_POP 0) 3).set (F.STG_BANK_STATE 0) 0).set (F.LNT_RING_SIZE_MIB 0) 1).wr (R.LNT_IDX_SIZE 0) 1).wr (R.LNT_FIFO 0) 1)), .svp, 0, 0x10001, by decide⟩,
    ⟨State.reset, .svp, 0, 0, by decide⟩,
    ⟨State.reset.set (F.LNT_STATUS_STATE 0) 1, .svp, 0, by decide⟩,
    ⟨State.reset.set (F.LNT_STATUS_STATE 0) 3, .svp, 0, by decide⟩,
    ⟨w_lnt 0 (fun l => { l with partialOut := true }) ((State.reset.set (F.LNT_STATUS_ENABLE_PENDING (0 : Fin 16).val) 0).set (F.LNT_STATUS_STATE 0) 3), 0, by decide⟩,
    ⟨((((((((State.reset.set (F.LNT_STATUS_ENABLE_PENDING (0 : Fin 16).val) 1).set (F.LNT_STATUS_ENABLE_PENDING 0) 1).set (F.MC_CFG_POP 0) 3).set (F.STG_BANK_STATE 0) 0).set (F.LNT_RING_SIZE_MIB 0) 1).wr (R.LNT_IDX_SIZE 0) 1).wr (R.LNT_FIFO 0) 1)) |> w_lnt 0 (fun l => { l with partialOut := true }) |>.set (F.LNT_STATUS_STATE 0) 3, 0, by decide⟩,
    ⟨State.reset, .svp, 0, by decide⟩,
    ⟨State.reset, .svp, 0, by decide⟩,
    ⟨State.reset, .svp, 0, 0, by decide⟩⟩

theorem witness_LanternRecords :
    (∃ (s : State) (n : Fin 16) (tap : Fin 4) (bytes : List Byte), (lntRuns s n.val = true) ∧ (s.flag (F.LNT_TAP_CFG_EN n.val tap.val) = true) ∧ (tapLocked s n.val tap.val = true) ∧ (bytes.length = tapU s n.val tap.val) ∧ (((vget (vget s.lnt n).taps tap).window.map (fun u => u.bytes.length)).sum + bytes.length < 32)) ∧
    (∃ (s : State) (n : Fin 16) (tap : Fin 4) (bytes : List Byte) (hd : TapUnit) (rest : List TapUnit), (lntRuns s n.val = true) ∧ (s.flag (F.LNT_TAP_CFG_EN n.val tap.val) = true) ∧ (tapLocked s n.val tap.val = true) ∧ (bytes.length = tapU s n.val tap.val) ∧ ((vget (vget s.lnt n).taps tap).window = hd :: rest) ∧ ((rest.map (fun u => u.bytes.length)).sum + bytes.length < 32) ∧ (32 ≤ hd.bytes.length + (rest.map (fun u => u.bytes.length)).sum + bytes.length)) ∧
    (∃ (s : State) (lat : Nat) (k : Nat) (a : TT64) (l : BitVec 48), (s.tt.ttHist[k]? = some a) ∧ (s.tt.lscHist[k]? = some l) ∧ (s.flag F.TT_LSC_CTRL_EN = true) ∧ (64 * k < lat) ∧ (lat ≤ 64 * (k + 1))) ∧
    (∃ (s : State) (n : Fin 16) (tap : Fin 4), lntRuns s n.val = false ∨ s.flag (F.LNT_TAP_CFG_EN n.val tap.val) = false ∨ s.flag (F.XCV_STATUS_CDR_LOCK (tapLane s n.val tap.val)) = false) ∧
    (∃ (s : State) (n : Fin 16), let w := s.rd (R.LNT_SEQ_COND_A n.val (s.get (F.LNT_STATUS_SEQ_STATE n.val))); let a := s.rd (R.LNT_SEQ_ACT_A n.val (s.get (F.LNT_STATUS_SEQ_STATE n.val))); (lntRuns s n.val = true) ∧ (w.getLsbD 31 = true) ∧ (w.getLsbD 12 = false) ∧ (w.toNat % 256 = 0 ∨ (if w.getLsbD 8 then Nat.land (vget s.lnt n).cycleHits (w.toNat % 256) = w.toNat % 256 else Nat.land (vget s.lnt n).cycleHits (w.toNat % 256) ≠ 0))) ∧
    (∃ (s : State) (n : Fin 16), (lntRuns s n.val = true) ∧ ((s.rd (R.LNT_SEQ_COND_A n.val (s.get (F.LNT_STATUS_SEQ_STATE n.val)))).getLsbD 31 = false) ∧ ((s.rd (R.LNT_SEQ_COND_B n.val (s.get (F.LNT_STATUS_SEQ_STATE n.val)))).toNat = 2 ^ 31)) ∧
    (∃ (s : State) (n : Fin 16), (lntRuns s n.val = true) ∧ ((s.rd (R.LNT_SEQ_COND_A n.val (s.get (F.LNT_STATUS_SEQ_STATE n.val)))).getLsbD 31 = false) ∧ ((s.rd (R.LNT_SEQ_COND_B n.val (s.get (F.LNT_STATUS_SEQ_STATE n.val)))).getLsbD 31 = false)) ∧
    (∃ (s : State) (n : Fin 16), (s.works = true) ∧ (burstLen (vget s.lnt n) ≠ 0) ∧ (s.get (F.LNT_RING_SIZE_MIB n.val) ≠ 0) ∧ ((fifoGet n.val (vget s.lnt n).issuePos (burstLen (vget s.lnt n)) s).1.2 = [])) ∧
    (∃ (s : State) (n : Fin 16) (p : Nat) (k : Nat), (∀ i : Fin 32, stgReadWord (fifoOff s n.val (p + 8 * i.val) / 8) s = (some (stgRaw s (fifoOff s n.val (p + 8 * i.val) / 8)), s)) ∧ (k ≤ 256)) ∧
    (∃ (s : State) (n : Fin 16), (s.works = true) ∧ (burstLen (vget s.lnt n) ≠ 0) ∧ (s.get (F.LNT_RING_SIZE_MIB n.val) ≠ 0) ∧ ((fifoGet n.val (vget s.lnt n).issuePos (burstLen (vget s.lnt n)) s).1.2 ≠ [])) ∧
    (∃ (s : State) (n : Fin 16) (b : LntBurst), (finishedBurst s n.val false true = some b) ∧ (s.get (F.LNT_RING_SIZE_MIB n.val) ≠ 0)) ∧
    (∃ (s : State) (n : Fin 16) (b : LntBurst), (finishedBurst s n.val true true = some b) ∧ (0 < s.get (F.LNT_IDX_SIZE_SIZE n.val))) ∧
    (∃ (s : State) (n : Fin 16) (b : LntBurst), (finishedBurst s n.val false false = some b) ∧ (b.void = false)) ∧
    (∃ (s : State) (n : Fin 16) (b : LntBurst), (finishedBurst s n.val false false = some b) ∧ (b.void = true)) ∧
    (∃ (s : State) (n : Fin 16), (lntRuns s n.val = true) ∧ ((vget s.lnt n).fifoLen ≠ 0) ∧ ((vget s.lnt n).layPos % 8 = 0) ∧ ((vget s.lnt n).fifoSince + 1000 * s.get (F.LNT_RT_FLUSH_US n.val) ≤ s.elapsed)) :=
  ⟨⟨((((State.reset.set (F.LNT_TAP_CFG_EN (0 : Fin 16).val (0 : Fin 4).val) 1).set (F.LNT_STATUS_STATE 0) 2).wr (R.LNT_TAP_CFG 0 0) 0x80000000).set (F.XCV_STATUS_CDR_LOCK 0) 1), 0, 0, [1, 2, 3, 4, 5, 6, 7, 8], by decide⟩,
    ⟨w_lnt 0 (fun l => { l with taps := vset l.taps 0 { vget l.taps 0 with window := List.replicate 3 ⟨[1, 2, 3, 4, 5, 6, 7, 8], 0, 0, 0, false, false, false⟩ } }) ((((State.reset.set (F.LNT_TAP_CFG_EN (0 : Fin 16).val (0 : Fin 4).val) 1).set (F.LNT_STATUS_STATE 0) 2).wr (R.LNT_TAP_CFG 0 0) 0x80000000).set (F.XCV_STATUS_CDR_LOCK 0) 1), 0, 0, [1, 2, 3, 4, 5, 6, 7, 8], ⟨[1, 2, 3, 4, 5, 6, 7, 8], 0, 0, 0, false, false, false⟩, List.replicate 2 ⟨[1, 2, 3, 4, 5, 6, 7, 8], 0, 0, 0, false, false, false⟩, by decide⟩,
    ⟨w_tt (fun x => { x with ttHist := [100], lscHist := [7] }) (State.reset.set F.TT_LSC_CTRL_EN 1), 64, 0, 100, 7, by decide⟩,
    ⟨State.reset, 0, 0, by decide⟩,
    ⟨(State.reset.set (F.LNT_STATUS_STATE 0) 2).wr (R.LNT_SEQ_COND_A 0 0) 0x80000000, 0, by decide⟩,
    ⟨(State.reset.set (F.LNT_STATUS_STATE 0) 2).wr (R.LNT_SEQ_COND_B 0 0) 0x80000000, 0, by decide⟩,
    ⟨(State.reset.set (F.LNT_STATUS_STATE 0) 2), 0, by decide⟩,
    ⟨w_lnt 0 (fun l => { l with layPos := 256 }) (State.reset.set (F.LNT_RING_SIZE_MIB 0) 1), 0, by decide⟩,
    ⟨State.reset, 0, 0, 8, fun i => w_sound _, by decide⟩,
    ⟨w_stg (fun x => { x with mark := [(0, some (.uncorrectable false))] }) (w_lnt 0 (fun l => { l with layPos := 256 }) (State.reset.set (F.LNT_RING_SIZE_MIB 0) 1)), 0, by decide⟩,
    ⟨w_bb (fun q => { q with done := [⟨5, .lantern 0, .ok, []⟩] }) (w_lnt 0 (fun l => { l with bursts := [⟨5, 0, 64, false, false⟩] }) (State.reset.set (F.LNT_RING_SIZE_MIB 0) 1)), 0, ⟨5, 0, 64, false, false⟩, by decide⟩,
    ⟨w_bb (fun q => { q with done := [⟨5, .lantern 0, .ok, []⟩] }) (w_lnt 0 (fun l => { l with bursts := [⟨5, 0, 64, true, false⟩] }) (State.reset.set (F.LNT_IDX_SIZE_SIZE 0) 1)), 0, ⟨5, 0, 64, true, false⟩, by decide⟩,
    ⟨w_bb (fun q => { q with done := [⟨5, .lantern 0, .busErr, []⟩] }) (w_lnt 0 (fun l => { l with bursts := [⟨5, 0, 64, false, false⟩] }) State.reset), 0, ⟨5, 0, 64, false, false⟩, by decide⟩,
    ⟨w_bb (fun q => { q with done := [⟨5, .lantern 0, .busErr, []⟩] }) (w_lnt 0 (fun l => { l with bursts := [⟨5, 0, 64, false, true⟩] }) State.reset), 0, ⟨5, 0, 64, false, true⟩, by decide⟩,
    ⟨w_tt (fun x => { x with run := 64000000000 }) (w_lnt 0 (fun l => { l with layPos := 8 }) (State.reset.set (F.LNT_STATUS_STATE 0) 2)), 0, by decide⟩⟩

theorem witness_BeaconControl :
    (∃ (s : State) (p : Partner) (n : Fin 16) (v : Word), let s1 := s.wr (R.BCN_CTRL n.val) ((v &&& 0x3F07F0) ||| 1); let prog := stgBytes s (65536 * s.get (F.BCN_PMEM_BASE n.val)) 2048; (s.admits p (R.BCN_CTRL n.val)) ∧ (bcnState s n.val = 0) ∧ (16 + n.val ∉ s.rst.engines) ∧ (s.sound (65536 * s.get (F.BCN_PMEM_BASE n.val)) (0x800 + bcnU s1 n.val)) ∧ (s.portAIdle) ∧ (bcnRefuses s1 n.val = false) ∧ (programBad s1 n.val prog = false)) ∧
    (∃ (s : State) (p : Partner) (n : Fin 16) (v : Word), let s1 := s.wr (R.BCN_CTRL n.val) ((v &&& 0x3F07F0) ||| 1); (s.admits p (R.BCN_CTRL n.val)) ∧ (bcnState s n.val = 0) ∧ (16 + n.val ∉ s.rst.engines) ∧ (s.sound (65536 * s.get (F.BCN_PMEM_BASE n.val)) (0x800 + bcnU s1 n.val)) ∧ (s.portAIdle) ∧ (bcnRefuses s1 n.val = false) ∧ (programBad s1 n.val (stgBytes s (65536 * s.get (F.BCN_PMEM_BASE n.val)) 2048) = true)) ∧
    (∃ (s : State) (p : Partner) (n : Fin 16) (v : Word), (s.admits p (R.BCN_CTRL n.val)) ∧ (bcnState s n.val = 0) ∧ (16 + n.val ∉ s.rst.engines) ∧ (s.get (F.BCN_PMEM_SIZE n.val) = 0 ∨ (F.BCN_CTRL_LANES n.val).of v = 0)) ∧
    (∃ (s : State) (p : Partner) (n : Fin 16), (s.admits p (R.BCN_CTRL n.val)) ∧ (bcnState s n.val = 4)) ∧
    (∃ (s : State) (p : Partner) (n : Fin 16), (s.admits p (R.BCN_CTRL n.val)) ∧ (1 ≤ bcnState s n.val) ∧ (bcnState s n.val ≤ 3) ∧ (16 + n.val ∉ s.rst.engines)) ∧
    (∃ (s : State) (n : Fin 16), (s.works = true) ∧ (bcnState s n.val = 4) ∧ (s.flag (F.BCN_STATUS_ENABLE_PENDING n.val) = false)) ∧
    (∃ (s : State) (n : Fin 16), let prog := stgBytes s (65536 * s.get (F.BCN_PMEM_BASE n.val)) 2048; (s.works = true) ∧ (bcnState s n.val = 4) ∧ (s.flag (F.BCN_STATUS_ENABLE_PENDING n.val) = true) ∧ (16 + n.val ∉ s.rst.engines) ∧ (s.sound (65536 * s.get (F.BCN_PMEM_BASE n.val)) (0x800 + bcnU s n.val)) ∧ (s.portAIdle) ∧ (bcnRefuses s n.val = false) ∧ (programBad s n.val prog = false)) ∧
    (∃ (s : State) (n : Fin 16), (s.works = true) ∧ (bcnState s n.val = 1) ∧ (prefetched s n.val = true) ∧ ((vget s.bcn n).held = none)) ∧
    (∃ (s : State) (n : Fin 16) (x : Option Nat × Bool), ((vget s.bcn n).held = some x) ∧ (s.works = true) ∧ (bcnState s n.val = 1) ∧ (prefetched s n.val = true)) ∧
    (∃ (s : State) (p : Partner) (n : Fin 16), (s.admits p (R.BCN_CMD n.val)) ∧ (bcnState s n.val = 2)) ∧
    (∃ (s : State) (p : Partner) (n : Fin 16), (s.admits p (R.BCN_CMD n.val)) ∧ (bcnState s n.val = 1)) ∧
    (∃ (s : State) (p : Partner) (n : Fin 16), (s.admits p (R.BCN_CMD n.val)) ∧ (bcnState s n.val = 3)) ∧
    (∃ (s : State) (p : Partner) (n : Fin 16), (s.admits p (R.BCN_CMD n.val)) ∧ (bcnState s n.val ≠ 3)) :=
  ⟨⟨w_stg (fun x => { x with bytes := [(0, 2), (4, 1), (8, 1), (16, 0x20), (17, 8)] }) ((State.reset.set (F.BCN_PMEM_SIZE 0) 1).set (F.STG_BANK_STATE 0) 0), .svp, 0, 0x10, by decide⟩,
    ⟨(State.reset.set (F.BCN_PMEM_SIZE 0) 1).set (F.STG_BANK_STATE 0) 0, .svp, 0, 0x10, by decide⟩,
    ⟨State.reset, .svp, 0, 0, by decide⟩,
    ⟨State.reset.set (F.BCN_STATUS_STATE 0) 4, .svp, 0, by decide⟩,
    ⟨State.reset.set (F.BCN_STATUS_STATE 0) 3, .svp, 0, by decide⟩,
    ⟨(State.reset.set (F.BCN_STATUS_ENABLE_PENDING (0 : Fin 16).val) 0).set (F.BCN_STATUS_STATE 0) 4, 0, by decide⟩,
    ⟨w_stg (fun x => { x with bytes := [(8, 1), (17, 0x10)] }) (((((State.reset.set (F.BCN_STATUS_ENABLE_PENDING 0) 1).set (F.BCN_STATUS_STATE 0) 4).set (F.BCN_CTRL_LANES 0) 1).set (F.BCN_PMEM_SIZE 0) 1)), 0, by decide⟩,
    ⟨State.reset.set (F.BCN_STATUS_STATE 0) 1, 0, by decide⟩,
    ⟨w_bcn 0 (fun q => { q with held := some (none, false) }) (State.reset.set (F.BCN_STATUS_STATE 0) 1), 0, (none, false), by decide⟩,
    ⟨State.reset.set (F.BCN_STATUS_STATE 0) 2, .svp, 0, by decide⟩,
    ⟨State.reset.set (F.BCN_STATUS_STATE 0) 1, .svp, 0, by decide⟩,
    ⟨State.reset.set (F.BCN_STATUS_STATE 0) 3, .svp, 0, by decide⟩,
    ⟨State.reset, .svp, 0, by decide⟩⟩

theorem witness_BeaconPlayAndStream :
    (∃ (s : State) (n : Fin 16) (m : Fin 16), let u := catchUnderrun n.val s; m ≠ n) ∧
    (∃ (s : State) (n : Fin 16), let u := catchUnderrun n.val s; (s.works = true) ∧ (bcnState s n.val = 3) ∧ (passEnd u n.val ≤ slotsNow s n.val) ∧ (jumpSlot u n.val = none) ∧ ((curSeg s n.val).loops = 0 ∨ (vget s.bcn n).pass + 1 < (curSeg s n.val).loops)) ∧
    (∃ (s : State) (n : Fin 16), let u := catchUnderrun n.val s; (s.works = true) ∧ (bcnState s n.val = 3) ∧ (passEnd u n.val ≤ slotsNow s n.val) ∧ (jumpSlot u n.val = none) ∧ (0 < (curSeg s n.val).loops) ∧ ((curSeg s n.val).loops ≤ (vget s.bcn n).pass + 1) ∧ ((curSeg s n.val).last = false)) ∧
    (∃ (s : State) (n : Fin 16), let u := catchUnderrun n.val s; (s.works = true) ∧ (bcnState s n.val = 3) ∧ (passEnd u n.val ≤ slotsNow s n.val) ∧ (jumpSlot u n.val = none) ∧ (0 < (curSeg s n.val).loops) ∧ ((curSeg s n.val).loops ≤ (vget s.bcn n).pass + 1) ∧ ((curSeg s n.val).last = true)) ∧
    (∃ (s : State) (n : Fin 16) (j : Nat), let u := catchUnderrunTo n.val (if (curSeg s n.val).jumpAtEnd then slotsNow s n.val + 1 else min j (slotsNow s n.val + 1)) s; (jumpSlot s n.val = some j) ∧ (s.works = true) ∧ (bcnState s n.val = 3) ∧ (jumpSlot u n.val = some j) ∧ (j ≤ slotsNow s n.val)) ∧
    (∃ (s : State) (n : Fin 16) (t0 : Nat), (vget (vget s.bcn n).lineAt (finOf 7 (curSeg s n.val).line) = some t0) ∧ (bcnState s n.val = 3) ∧ ((curSeg s n.val).jumpEn = true) ∧ ((curSeg s n.val).jumpAtEnd = true) ∧ (t0 ≤ unitTime s n.val (passEnd s n.val))) ∧
    (∃ (s : State) (n : Fin 16) (t0 : Nat) (j : Nat), (vget (vget s.bcn n).lineAt (finOf 7 (curSeg s n.val).line) = some t0) ∧ (bcnState s n.val = 3) ∧ ((curSeg s n.val).jumpEn = true) ∧ ((curSeg s n.val).jumpAtEnd = false) ∧ (jumpSlot s n.val = some j)) ∧
    (∃ (s : State) (n : Fin 16) (t0 : Nat) (j : Nat), (vget (vget s.bcn n).lineAt (finOf 7 (curSeg s n.val).line) = some t0) ∧ (bcnState s n.val = 3) ∧ ((curSeg s n.val).jumpEn = true) ∧ ((curSeg s n.val).jumpAtEnd = false) ∧ (jumpSlot s n.val = some j) ∧ (lineRate s n.val ≠ 0)) ∧
    (∃ (s : State) (p : Partner) (n : Fin 16), s.admits p (R.BCN_JUMP n.val)) ∧
    (∃ (s : State) (p : Partner) (n : Fin 16), s.admits p (R.BCN_JUMP_CLR n.val)) ∧
    (∃ (s : State), (s.fabricOn = true) ∧ (s.flag F.CFG_STATUS_DONE = true)) ∧
    (∃ (s : State) (p : Partner) (n : Fin 16), s.admits p (R.BCN_UNITS_LO n.val)) ∧
    (∃ (s : State) (n : Fin 16) (a : Nat) (len : Nat), let u := streamOnward n.val (bcnTrim n.val s); (nextBurst u n.val = some (a, len)) ∧ (s.works = true) ∧ (1 ≤ bcnState s n.val) ∧ (bcnState s n.val ≤ 3) ∧ (burstRoom u n.val len = true)) ∧
    (∃ (s : State) (n : Fin 16) (a : Nat) (len : Nat), let u := streamOnward n.val (bcnTrim n.val s); (nextBurst u n.val = some (a, len)) ∧ (s.works = true) ∧ (1 ≤ bcnState s n.val) ∧ (bcnState s n.val ≤ 3) ∧ (burstRoom u n.val len = false)) ∧
    (∃ (s : State) (n : Fin 16), let x := vget s.bcn n; let got := (x.used + x.buf.length - x.segPos) / unitBytes s n.val; (s.works = true) ∧ (bcnState s n.val = 3) ∧ ((curSeg s n.val).stream = true) ∧ (unitBytes s n.val ≠ 0) ∧ (x.used + x.buf.length - x.segPos < unitBytes s n.val * min (slotsNow s n.val + 1 - x.base - x.late) (curSeg s n.val).units)) ∧
    (∃ (s : State) (n : Fin 16) (st : Status), (((vget s.bcn n).out.head?.bind fun q => doneStatus s q.1) = some st) ∧ (st ≠ .ok) ∧ (s.works = true)) ∧
    (∃ (s : State) (n : Fin 16) (w : Nat) (units : Nat), (badWordOf s n.val = some (w, units)) ∧ (s.works = true) ∧ (bcnState s n.val = 3) ∧ ((curSeg s n.val).stream = false) ∧ ((vget s.bcn n).out = [])) :=
  ⟨⟨State.reset, 0, 1, by decide⟩,
    ⟨w_bcn 0 (fun x => { x with ran := 1000000, prog := [0, 0, 0, 0, 0, 0, 0, 0, 1] }) ((State.reset.set (F.BCN_STATUS_STATE 0) 3).set (F.XCV_RATE_BAUD_KBD 0) 1000000), 0, by decide⟩,
    ⟨w_bcn 0 (fun x => { x with ran := 1000000, prog := [0, 0, 0, 0, 1, 0, 0, 0, 1] }) ((State.reset.set (F.BCN_STATUS_STATE 0) 3).set (F.XCV_RATE_BAUD_KBD 0) 1000000), 0, by decide⟩,
    ⟨w_bcn 0 (fun x => { x with ran := 1000000, prog := [2, 0, 0, 0, 1, 0, 0, 0, 1] }) ((State.reset.set (F.BCN_STATUS_STATE 0) 3).set (F.XCV_RATE_BAUD_KBD 0) 1000000), 0, by decide⟩,
    ⟨w_bcn 0 (fun x => { x with ran := 1000000, lineAt := vset x.lineAt 0 (some 3), prog := [12, 0, 0, 0, 1, 0, 0, 0, 1] }) ((State.reset.set (F.BCN_STATUS_STATE 0) 3).set (F.XCV_RATE_BAUD_KBD 0) 1000000), 0, 1, by decide⟩,
    ⟨w_bcn 0 (fun x => { x with lineAt := vset x.lineAt 0 (some 3), prog := [12, 0, 0, 0, 1, 0, 0, 0, 1] }) ((State.reset.set (F.BCN_STATUS_STATE 0) 3).set (F.XCV_RATE_BAUD_KBD 0) 1000000), 0, 3, by decide⟩,
    ⟨w_bcn 0 (fun x => { x with lineAt := vset x.lineAt 0 (some 3), prog := [4, 0, 0, 0, 1, 0, 0, 0, 20] }) ((State.reset.set (F.BCN_STATUS_STATE 0) 3).set (F.XCV_RATE_BAUD_KBD 0) 1000000), 0, 3, (jumpSlot (w_bcn 0 (fun x => { x with lineAt := vset x.lineAt 0 (some 3), prog := [4, 0, 0, 0, 1, 0, 0, 0, 20] }) ((State.reset.set (F.BCN_STATUS_STATE 0) 3).set (F.XCV_RATE_BAUD_KBD 0) 1000000)) 0).getD 0, by decide⟩,
    ⟨w_bcn 0 (fun x => { x with lineAt := vset x.lineAt 0 (some 3), prog := [4, 0, 0, 0, 1, 0, 0, 0, 20] }) ((State.reset.set (F.BCN_STATUS_STATE 0) 3).set (F.XCV_RATE_BAUD_KBD 0) 1000000), 0, 3, (jumpSlot (w_bcn 0 (fun x => { x with lineAt := vset x.lineAt 0 (some 3), prog := [4, 0, 0, 0, 1, 0, 0, 0, 20] }) ((State.reset.set (F.BCN_STATUS_STATE 0) 3).set (F.XCV_RATE_BAUD_KBD 0) 1000000)) 0).getD 0, by decide⟩,
    ⟨State.reset, .svp, 0, by decide⟩,
    ⟨State.reset, .svp, 0, by decide⟩,
    ⟨(State.reset.set F.CFG_STATUS_DONE 1).set F.CFG_STATUS_DONE 1, by decide⟩,
    ⟨State.reset, .svp, 0, by decide⟩,
    ⟨w_bcn 0 (fun x => { x with streamSeg := some 0, prog := [1, 0, 0, 0, 0, 0, 0, 0, 1] }) (State.reset.set (F.BCN_STATUS_STATE 0) 2), 0, 0, 64, by decide⟩,
    ⟨w_bcn 0 (fun x => { x with next := 65536, streamSeg := some 0, prog := [1, 0, 0, 0, 0, 0, 0, 0, 1] }) (State.reset.set (F.BCN_STATUS_STATE 0) 2), 0, 0, 64, by decide⟩,
    ⟨w_clk (fun c => { c with now := 100000 }) (w_bcn 0 (fun x => { x with prog := [1, 0, 0, 0, 1, 0, 0, 0, 9] }) (State.reset.set (F.BCN_STATUS_STATE 0) 3)), 0, by decide⟩,
    ⟨w_bb (fun q => { q with done := [⟨5, .beacon 0, .busErr, []⟩] }) (w_bcn 0 (fun x => { x with out := [(5, 64)] }) State.reset), 0, .busErr, by decide⟩,
    ⟨w_stg (fun x => { x with mark := [(0, some (.uncorrectable false))] }) (w_bcn 0 (fun x => { x with prog := [0, 0, 0, 0, 0, 0, 0, 0, 1] }) (State.reset.set (F.BCN_STATUS_STATE 0) 3)), 0, 0, 1, by decide⟩⟩

theorem witness_ScheduleEntries :
    (∃ (s : State) (p : Partner) (entry : Fin 2048) (v : Word), let st := sget entryZero s.sch.stage entry.val; (s.admits p (R.SCH_TABLE (4 * entry.val + 2))) ∧ (actionOk (v.toNat / 2 ^ 24 % 16) (v.toNat % 2 ^ 24) st.arg2 = true) ∧ (v.getLsbD 30 = true → st.time.toNat < 2 ^ 48)) ∧
    (∃ (s : State) (p : Partner) (entry : Fin 2048) (v : Word), let st := sget entryZero s.sch.stage entry.val; (s.admits p (R.SCH_TABLE (4 * entry.val + 2))) ∧ (actionOk (v.toNat / 2 ^ 24 % 16) (v.toNat % 2 ^ 24) st.arg2 = false ∨ v.getLsbD 30 = true ∧ 2 ^ 48 ≤ st.time.toNat)) ∧
    (∃ (s : State) (entry : Fin 2048), (entryMay s entry.val = true) ∧ ((s.entry entry.val).action = 1) ∧ (((s.entry entry.val).late && (s.entry entry.val).skips) = true)) ∧
    (∃ (s : State) (entry : Fin 2048), (entryMay s entry.val = true) ∧ ((s.entry entry.val).action = 2) ∧ (((s.entry entry.val).late && (s.entry entry.val).skips) = true)) ∧
    (∃ (s : State) (entry : Fin 2048), (entryMay s entry.val = true) ∧ ((s.entry entry.val).action = 3) ∧ (((s.entry entry.val).late && (s.entry entry.val).skips) = true)) ∧
    (∃ (s : State) (entry : Fin 2048), (entryMay s entry.val = true) ∧ ((s.entry entry.val).action = 4) ∧ (((s.entry entry.val).late && (s.entry entry.val).skips) = true)) ∧
    (∃ (s : State) (entry : Fin 2048), (entryMay s entry.val = true) ∧ ((s.entry entry.val).action = 5) ∧ (((s.entry entry.val).late && (s.entry entry.val).skips) = true)) ∧
    (∃ (s : State) (entry : Fin 2048), (entryMay s entry.val = true) ∧ ((s.entry entry.val).action = 6) ∧ (((s.entry entry.val).late && (s.entry entry.val).skips) = true)) ∧
    (∃ (s : State) (entry : Fin 2048), (entryMay s entry.val = true) ∧ ((s.entry entry.val).action = 7) ∧ (((s.entry entry.val).late && (s.entry entry.val).skips) = true)) ∧
    (∃ (s : State) (entry : Fin 2048), (entryMay s entry.val = true) ∧ ((s.entry entry.val).action = 8) ∧ (((s.entry entry.val).late && (s.entry entry.val).skips) = true)) ∧
    (∃ (s : State) (entry : Fin 2048), let e := s.entry entry.val; s.fires entry.val 5) ∧
    (∃ (s : State) (entry : Fin 2048), (s.fires entry.val 7) ∧ (s.cfg.load = none)) ∧
    (∃ (s : State) (entry : Fin 2048), (s.fires entry.val 7) ∧ (s.cfg.load ≠ none)) :=
  ⟨⟨State.reset, .svp, 0, 0x85000008, by decide⟩,
    ⟨State.reset, .svp, 0, 0x80000000, by decide⟩,
    ⟨w_sch (fun x => { x with tab := [(0, ⟨0, 0xA1000001, 0, 0, true⟩)] }) State.reset, 0, by decide⟩,
    ⟨w_sch (fun x => { x with tab := [(0, ⟨0, 0xA2000001, 0, 0, true⟩)] }) State.reset, 0, by decide⟩,
    ⟨w_sch (fun x => { x with tab := [(0, ⟨0, 0xA3000001, 0, 0, true⟩)] }) State.reset, 0, by decide⟩,
    ⟨w_sch (fun x => { x with tab := [(0, ⟨0, 0xA4000001, 0, 0, true⟩)] }) State.reset, 0, by decide⟩,
    ⟨w_sch (fun x => { x with tab := [(0, ⟨0, 0xA5000008, 0, 0, true⟩)] }) State.reset, 0, by decide⟩,
    ⟨w_sch (fun x => { x with tab := [(0, ⟨0, 0xA6000001, 0, 0, true⟩)] }) State.reset, 0, by decide⟩,
    ⟨w_sch (fun x => { x with tab := [(0, ⟨0, 0xA7000001, 0, 0, true⟩)] }) State.reset, 0, by decide⟩,
    ⟨w_sch (fun x => { x with tab := [(0, ⟨0, 0xA8000001, 0, 0, true⟩)] }) State.reset, 0, by decide⟩,
    ⟨w_sch (fun x => { x with tab := [(0, ⟨0, 0x85000008, 0, 0, false⟩)] }) State.reset, 0, by decide⟩,
    ⟨w_sch (fun x => { x with tab := [(0, ⟨0, 0x87000001, 0, 0, false⟩)] }) (w_cfg (fun x => { x with load := none }) State.reset), 0, by decide⟩,
    ⟨(w_sch (fun x => { x with tab := [(0, ⟨0, 0x87000001, 0, 0, false⟩)] }) State.reset).putLoad ⟨0, 0, 0, [], 0, 0, [], none, false, [], [], 0, [], 0, [], [], [], [], none, none, false, 0, none⟩, 0, by decide⟩⟩

theorem witness_ScheduleTargets :
    (∃ (s : State) (entry : Fin 2048) (m : Fin 16), (s.fires entry.val 1) ∧ (bitOf (s.entry entry.val).arg m.val = true) ∧ (lntState s m.val = 0) ∧ (m.val ∉ s.rst.engines) ∧ (lntRefuses s m.val = false)) ∧
    (∃ (s : State) (entry : Fin 2048) (m : Fin 16), (s.fires entry.val 2) ∧ (bitOf (s.entry entry.val).arg m.val = true) ∧ (lntState s m.val = 1 ∨ lntState s m.val = 2) ∧ (m.val ∉ s.rst.engines)) ∧
    (∃ (s : State) (entry : Fin 2048) (m : Fin 16), (s.fires entry.val 3) ∧ (bitOf (s.entry entry.val).arg m.val = true) ∧ (bcnState s m.val = 2)) ∧
    (∃ (s : State) (entry : Fin 2048) (m : Fin 16), (s.fires entry.val 4) ∧ (bitOf (s.entry entry.val).arg m.val = true) ∧ (bcnState s m.val = 3)) ∧
    (∃ (s : State) (entry : Fin 2048), let e := s.entry entry.val; let q := (s.entry entry.val).arg % 16; s.fires entry.val 6) ∧
    (∃ (s : State) (pin : Fin 16) (t0 : Nat) (level : Bool), (vget s.sch.pulse pin = some (t0, level)) ∧ (s.works = true) ∧ (t0 ≤ s.elapsed) ∧ (∀ x ∈ s.sch.tab, (dueKey s x.1 x.2).isSome = true → x.2.action = 6 → x.2.arg % 16 ≠ pin.val)) ∧
    (∃ (s : State) (pin : Fin 16) (t0 : Nat) (level : Bool), (vget s.sch.pulse pin = some (t0, level)) ∧ (s.elapsed < t0)) ∧
    (∃ (s : State) (entry : Fin 2048) (g : Fin 16), (s.fires entry.val 8) ∧ (bitOf (s.entry entry.val).arg g.val = true) ∧ (s.flag (F.SCH_GRP_CTRL_EN g.val) = true)) ∧
    (∃ (s : State) (entry : Fin 2048) (g : Fin 16), (s.fires entry.val 8) ∧ (bitOf (s.entry entry.val).arg g.val = true) ∧ (s.flag (F.SCH_GRP_CTRL_EN g.val) = false)) :=
  ⟨⟨w_sch (fun x => { x with tab := [(0, ⟨0, 0x81000001, 0, 0, false⟩)] }) (((((State.reset.set (F.MC_CFG_POP 0) 3).set (F.STG_BANK_STATE 0) 0).set (F.LNT_RING_SIZE_MIB 0) 1).wr (R.LNT_IDX_SIZE 0) 1).wr (R.LNT_FIFO 0) 1), 0, 0, by decide⟩,
    ⟨w_sch (fun x => { x with tab := [(0, ⟨0, 0x82000001, 0, 0, false⟩)] }) (State.reset.set (F.LNT_STATUS_STATE 0) 1), 0, 0, by decide⟩,
    ⟨w_sch (fun x => { x with tab := [(0, ⟨0, 0x83000001, 0, 0, false⟩)] }) (State.reset.set (F.BCN_STATUS_STATE 0) 2), 0, 0, by decide⟩,
    ⟨w_sch (fun x => { x with tab := [(0, ⟨0, 0x84000001, 0, 0, false⟩)] }) (State.reset.set (F.BCN_STATUS_STATE 0) 3), 0, 0, by decide⟩,
    ⟨w_sch (fun x => { x with tab := [(0, ⟨0, 0x86000032, 0, 9, false⟩)] }) State.reset, 0, by decide⟩,
    ⟨(w_sch (fun x => { x with pulse := vset x.pulse (0 : Fin 16) (some ((0 : Nat), (true : Bool))) }) State.reset), 0, 0, true, by decide⟩,
    ⟨(w_sch (fun x => { x with pulse := vset x.pulse (0 : Fin 16) (some ((5 : Nat), (true : Bool))) }) State.reset), 0, 5, true, by decide⟩,
    ⟨w_sch (fun x => { x with tab := [(0, ⟨0, 0x88000001, 0, 0, false⟩)], grps := Vector.replicate 16 ⟨100, 0, [], false, false, false⟩ }) (((State.reset.set (F.SCH_GRP_CTRL_EN (0 : Fin 16).val) 1).set (F.SCH_GRP_CTRL_EN 0) 1).set (F.SCH_GRP_LNT_MASK 0) 1), 0, 0, by decide⟩,
    ⟨w_sch (fun x => { x with tab := [(0, ⟨0, 0x88000001, 0, 0, false⟩)] }) (State.reset.set (F.SCH_GRP_CTRL_EN (0 : Fin 16).val) 0), 0, 0, by decide⟩⟩

theorem witness_ScheduleOrder :
    (∃ (s : State), swf entryZero s.sch.tab = true) :=
  ⟨State.reset, by decide⟩

theorem witness_ScheduleSwap :
    (∃ (s : State) (p : Partner), s.admits p R.SCH_SWAP_CTRL) ∧
    (∃ (s : State) (p : Partner) (v : Word), (s.admits p R.SCH_SWAP_CTRL) ∧ (v.getLsbD 0 = false)) ∧
    (∃ (s : State), (swf entryZero s.sch.tab = true) ∧ (s.works = true) ∧ (schFrozen s = false) ∧ (s.sch.swapArmed = true) ∧ (s.sch.swapFrom ≤ s.clk.now) ∧ (swapAt s / 64 ≤ ttNs s.tt.tt) ∧ (sampleDue s = false) ∧ (firstDue s = none)) ∧
    (∃ (s : State), s.sch.swapArmed = false ∨ ttNs s.tt.tt < swapAt s / 64) :=
  ⟨⟨State.reset, .svp, by decide⟩,
    ⟨State.reset, .svp, 0, by decide⟩,
    ⟨w_sch (fun x => { x with swapArmed := true }) (w_sch (fun x => { x with swapArmed := true }) State.reset), by decide⟩,
    ⟨State.reset, by decide⟩⟩

theorem witness_Statistics :
    (∃ (s : State) (p : Partner) (g : Fin 16), (s.admits p (R.SCH_GRP_CTRL g.val)) ∧ (s.flag (F.SCH_GRP_CTRL_EN g.val) = false) ∧ (10000 ≤ grpInterval s g.val) ∧ (s.get (F.SCH_GRP_LNT_MASK g.val) ≠ 0 ∨ s.get (F.SCH_GRP_BCN_MASK g.val) ≠ 0 ∨ grpLanes s g.val ≠ 0)) ∧
    (∃ (s : State) (p : Partner) (g : Fin 16), (s.admits p (R.SCH_GRP_CTRL g.val)) ∧ (s.flag (F.SCH_GRP_CTRL_EN g.val) = false) ∧ (grpInterval s g.val < 10000 ∨ s.get (F.SCH_GRP_LNT_MASK g.val) = 0 ∧ s.get (F.SCH_GRP_BCN_MASK g.val) = 0 ∧ grpLanes s g.val = 0)) ∧
    (∃ (s : State) (g : Fin 16), (s.works = true) ∧ (schFrozen s = false) ∧ (sampleFirst s g.val = true) ∧ ((vget s.sch.grps g).busy = [])) ∧
    (∃ (s : State) (g : Fin 16), (s.works = true) ∧ (schFrozen s = false) ∧ (sampleFirst s g.val = true) ∧ ((vget s.sch.grps g).busy ≠ [])) ∧
    (∃ (s : State) (g : Fin 16), (s.works = true) ∧ ((vget s.sch.grps g).busy ≠ []) ∧ (∀ i ∈ (vget s.sch.grps g).busy, doneStatus s i = some .ok) ∧ ((vget s.sch.grps g).failed = false)) ∧
    (∃ (s : State) (g : Fin 16) (i : Nat), ((vget s.sch.grps g).busy.find? (fun i => (doneStatus s i).any (· != .ok)) = some i) ∧ (s.works = true)) ∧
    (∃ (s : State), (s.works = true) ∧ (schFrozen s = true) ∧ (s.sch.recorded = false) ∧ (∀ k : Fin 16, (vget s.sch.grps k).busy = [])) ∧
    (∃ (s : State) (k : Fin 8), (s.works = true) ∧ (schFrozen s = true) ∧ (∀ k : Fin 16, (vget s.sch.grps k).busy = []) ∧ (scState s k.val = 2 ∨ scState s k.val = 3 ∨ scState s k.val = 6)) :=
  ⟨⟨((State.reset.set (F.SCH_GRP_CTRL_EN (0 : Fin 16).val) 0).set (F.SCH_GRP_LNT_MASK 0) 1).wr (R.SCH_GRP_INTERVAL_LO 0) 10000, .svp, 0, by decide⟩,
    ⟨State.reset.set (F.SCH_GRP_CTRL_EN (0 : Fin 16).val) 0, .svp, 0, by decide⟩,
    ⟨(w_tt (fun x => { x with tt := 5 }) (State.reset.set (F.SCH_GRP_CTRL_EN 0) 1)).wr (R.SCH_GRP_LNT 0) 1, 0, by decide⟩,
    ⟨w_sch (fun x => { x with grps := vset x.grps 0 ⟨5, 0, [7], false, false, false⟩ }) ((w_tt (fun x => { x with tt := 5 }) (State.reset.set (F.SCH_GRP_CTRL_EN 0) 1)).wr (R.SCH_GRP_LNT 0) 1), 0, by decide⟩,
    ⟨w_bb (fun x => { x with done := [⟨7, .snapshot 0, .ok, []⟩] }) (w_sch (fun x => { x with grps := vset x.grps 0 ⟨5, 0, [7], false, false, false⟩ }) State.reset), 0, by decide⟩,
    ⟨w_bb (fun q => { q with done := [⟨5, .snapshot 0, .busErr, []⟩] }) (w_sch (fun x => { x with grps := vset x.grps 0 { vget x.grps 0 with busy := [5] } }) State.reset), 0, 5, by decide⟩,
    ⟨(w_sch (fun x => { x with recorded := false }) State.reset).set F.SCH_STATUS_FROZEN 1, by decide⟩,
    ⟨(State.reset.set F.SCH_STATUS_FROZEN 1).set (scField 0) 2, 0, by decide⟩⟩

theorem witness_FailuresAndInjection :
    (∃ (s : State), s.rst.coreUp = true) ∧
    (∃ (s : State), (s.rst.coreUp = true) ∧ (s.rst.warm = none) ∧ (s.rst.deferred = none) ∧ (s.get F.RAS_WDOG_LIMIT_MS ≠ 0) ∧ (s.flag F.TT_STATUS_RUNNING = true) ∧ (s.nightlight = false) ∧ (s.get F.PWR_STATUS_STATE = 0) ∧ (s.halted = false) ∧ (64000000 * s.get F.RAS_WDOG_LIMIT_MS ≤ s.ras.wdogRun)) ∧
    (∃ (s : State), (s.rst.coreUp = true) ∧ (s.get F.RAS_WDOG_LIMIT_MS ≠ 0) ∧ (s.flag F.TT_STATUS_RUNNING = true) ∧ (s.nightlight = false) ∧ (s.get F.PWR_STATUS_STATE = 0) ∧ (s.halted = false)) ∧
    (∃ (s : State), s.rst.coreUp = false ∨ s.get F.RAS_WDOG_LIMIT_MS = 0 ∨ s.flag F.TT_STATUS_RUNNING = false ∨ s.nightlight = true ∨ s.get F.PWR_STATUS_STATE ≠ 0 ∨ s.halted = true) ∧
    (∃ (s : State), s.ras.wdogRun < 64000000 * s.get F.RAS_WDOG_LIMIT_MS) ∧
    (∃ (s : State) (c : Fin 4), (s.rst.coreUp = true) ∧ (c.val < 2)) ∧
    (∃ (s : State) (c : Fin 4), (s.rst.coreUp = true) ∧ (2 ≤ c.val)) ∧
    (∃ (s : State) (p : Partner), s.admits p R.RAS_LOG_POP) ∧
    (∃ (s : State) (p : Partner) (v : Word), (s.admits p R.RAS_WDOG_KICK) ∧ (v.toNat / 256 % 256 = 0xA5)) ∧
    (∃ (s : State) (p : Partner) (v : Word), (s.admits p R.RAS_WDOG_KICK) ∧ (v.toNat / 256 % 256 ≠ 0xA5)) ∧
    (∃ (s : State) (p : Partner), s.admits p R.RAS_WDOG) ∧
    (∃ (s : State) (p : Partner) (v : Word), (s.admits p R.RAS_INJ_CTRL) ∧ (s.flag F.RAS_INJ_CTRL_ARM = false) ∧ (v.toNat / 2 ^ 16 % 256 ≠ 8) ∧ (v.toNat / 2 ^ 16 % 256 ≠ 9) ∧ (v.toNat / 2 ^ 16 % 256 ≠ 10) ∧ (injInstanceOk (v.toNat / 2 ^ 16 % 256) (v.toNat % 4096) = true) ∧ (v.toNat / 2 ^ 24 % 16 = 1 ∨ v.toNat / 2 ^ 24 % 16 = 2)) ∧
    (∃ (s : State) (p : Partner) (v : Word), (s.admits p R.RAS_INJ_CTRL) ∧ (s.flag F.RAS_INJ_CTRL_ARM = false) ∧ (injInstanceOk (v.toNat / 2 ^ 16 % 256) (v.toNat % 4096) = false ∨ (v.toNat / 2 ^ 24 % 16 ≠ 1 ∧ v.toNat / 2 ^ 24 % 16 ≠ 2) ∨ (injNeedsKey (v.toNat / 2 ^ 16 % 256) (v.toNat % 4096) = true ∧ s.get F.RAS_INJ_KEY_KEY ≠ 0xA5))) ∧
    (∃ (s : State) (p : Partner), (s.admits p R.RAS_INJ_CTRL) ∧ (s.flag F.RAS_INJ_CTRL_ARM = true)) ∧
    (∃ (s : State) (p : Partner) (v : Word), (s.admits p R.RAS_INJ_CTRL) ∧ (s.flag F.RAS_INJ_CTRL_ARM = false) ∧ (v.toNat / 2 ^ 16 % 256 = 8) ∧ (v.toNat % 4096 < 8) ∧ (v.toNat / 2 ^ 24 % 16 = 1 ∨ v.toNat / 2 ^ 24 % 16 = 2) ∧ (s.get F.RAS_INJ_KEY_KEY = 0xA5)) ∧
    (∃ (s : State) (q : Nat), (mcScrubNext s s.ras.mcPos = some q) ∧ (s.fabricOn = true) ∧ (s.flag F.RAS_SCRUB_MC_EN = true) ∧ (mcScrubDue s = true)) ∧
    (∃ (s : State), (s.fabricOn = true) ∧ (s.flag F.RAS_SCRUB_MC_EN = true) ∧ (mcScrubDue s = false)) ∧
    (∃ (s : State), (s.fabricOn = true) ∧ (s.flag F.RAS_SCRUB_BRAM_EN = true)) :=
  ⟨⟨State.reset, by decide⟩,
    ⟨w_ras (fun x => { x with wdogRun := 64000000 }) ((State.reset.set F.TT_STATUS_RUNNING 1).set F.RAS_WDOG_LIMIT_MS 1), by decide⟩,
    ⟨w_ras (fun x => { x with wdogRun := 1000000 }) (((((w_rst (fun x => { x with deferred := none }) (w_rst (fun x => { x with warm := none }) State.reset)).set F.TT_STATUS_RUNNING 1).set F.PWR_STATUS_STATE 0).set F.RAS_WDOG_LIMIT_MS 1).set F.TT_STATUS_RUNNING 1), by decide⟩,
    ⟨State.reset, by decide⟩,
    ⟨State.reset.set F.RAS_WDOG_LIMIT_MS 1, by decide⟩,
    ⟨State.reset, 0, by decide⟩,
    ⟨State.reset, 2, by decide⟩,
    ⟨State.reset, .svp, by decide⟩,
    ⟨State.reset, .svp, 0xA500, by decide⟩,
    ⟨State.reset, .svp, 0, by decide⟩,
    ⟨State.reset, .svp, by decide⟩,
    ⟨State.reset.set F.RAS_INJ_CTRL_ARM 0, .svp, 0x01010000, by decide⟩,
    ⟨State.reset.set F.RAS_INJ_CTRL_ARM 0, .svp, 0, by decide⟩,
    ⟨State.reset.set F.RAS_INJ_CTRL_ARM 1, .svp, by decide⟩,
    ⟨(State.reset.set F.RAS_INJ_CTRL_ARM 0).wr R.RAS_INJ_KEY 0xA5, .svp, 0x01080001, by decide⟩,
    ⟨w_tt (fun x => { x with run := 6400000000000000 }) (((State.reset.set F.RAS_SCRUB_MC_EN 1).set (F.MC_CFG_POP 0) 3).set (scField 0) 2), 0, by decide⟩,
    ⟨w_clk (fun c => { c with now := 100000000000000 }) (((State.reset.set F.RAS_SCRUB_MC_EN 1).set (F.MC_CFG_POP 0) 3).set (scField 0) 2), by decide⟩,
    ⟨State.reset.set F.RAS_SCRUB_BRAM_EN 1, by decide⟩⟩

theorem witness_ControllerLife :
    (∃ (s : State) (p : Partner) (n : Fin 4), (s.admits p (R.MC_CTRL n.val)) ∧ (s.flag (F.MC_CTRL_EN n.val) = false) ∧ (mcDown s n.val = false) ∧ (s.get (F.MC_CFG_POP n.val) ≠ 0) ∧ (8 ≤ s.get (F.MC_CFG_RATE n.val)) ∧ (s.get (F.MC_CFG_RATE n.val) ≤ 16) ∧ (s.get (F.MC_CFG_DENSITY n.val) ≤ 1)) ∧
    (∃ (s : State) (p : Partner) (n : Fin 4), (s.admits p (R.MC_CTRL n.val)) ∧ (s.flag (F.MC_CTRL_EN n.val) = false) ∧ (mcDown s n.val = false) ∧ (s.get (F.MC_CFG_POP n.val) = 0 ∨ s.get (F.MC_CFG_RATE n.val) < 8 ∨ 16 < s.get (F.MC_CFG_RATE n.val) ∨ 1 < s.get (F.MC_CFG_DENSITY n.val))) ∧
    (∃ (s : State) (p : Partner) (n : Fin 4), (s.admits p (R.MC_CTRL n.val)) ∧ (s.flag (F.MC_CTRL_EN n.val) = true) ∧ (mcDown s n.val = false)) ∧
    (∃ (s : State) (p : Partner) (n : Fin 4), (s.admits p (R.MC_CTRL n.val)) ∧ (s.flag (F.MC_CTRL_EN n.val) = false) ∧ (mcDown s n.val = false)) ∧
    (∃ (s : State) (p : Partner) (n : Fin 4), (s.admits p (R.MC_CTRL n.val)) ∧ (scState s (2 * n.val) = 6 ∨ scState s (2 * n.val + 1) = 6 ∨ 0x28 + n.val ∈ s.rst.engines)) ∧
    (∃ (s : State) (p : Partner) (n : Fin 4), (s.admits p (R.MC_CFG n.val)) ∧ (∀ i : Fin 2, scState s (2 * n.val + i.val) = 0 ∨ scState s (2 * n.val + i.val) = 4)) ∧
    (∃ (s : State) (p : Partner) (n : Fin 4) (i : Fin 2), (s.admits p (R.MC_CFG n.val)) ∧ (¬ (scState s (2 * n.val + i.val) = 0 ∨ scState s (2 * n.val + i.val) = 4))) ∧
    (∃ (s : State) (sc : Fin 8), scState s sc.val = 1) ∧
    (∃ (s : State) (sc : Fin 8), (s.fabricOn = true) ∧ (s.rst.bowAt = none) ∧ (scState s sc.val = 4) ∧ (populated s sc.val = true) ∧ (s.flag (F.MC_CTRL_EN (sc.val / 2)) = true) ∧ (scState s (sibling sc.val) ≠ 3)) ∧
    (∃ (s : State) (sc : Fin 8), scState s sc.val = 3) ∧
    (∃ (s : State) (sc : Fin 8), (scState s sc.val = 6) ∧ ((vget s.mem.subs sc).reads = []) ∧ ((vget s.mem.subs sc).writes = []) ∧ ((vget s.mem.subs sc).service = none) ∧ (s.flag (F.MC_STATUS_ENABLE_PENDING (sc.val / 2)) = false) ∧ (0x28 + sc.val / 2 ∉ s.rst.engines)) ∧
    (∃ (s : State) (sc : Fin 8), (scState s sc.val = 6) ∧ ((vget s.mem.subs sc).reads = []) ∧ ((vget s.mem.subs sc).writes = []) ∧ ((vget s.mem.subs sc).service = none) ∧ (s.flag (F.MC_STATUS_ENABLE_PENDING (sc.val / 2)) = true) ∧ (0x28 + sc.val / 2 ∉ s.rst.engines) ∧ (scState s (sibling sc.val) ≠ 6) ∧ (mcRefuses s (sc.val / 2) = false)) :=
  ⟨⟨(State.reset.set (F.MC_CTRL_EN (0 : Fin 4).val) 0).set (F.MC_CFG_POP 0) 3, .svp, 0, by decide⟩,
    ⟨State.reset.set (F.MC_CTRL_EN (0 : Fin 4).val) 0, .svp, 0, by decide⟩,
    ⟨(State.reset.set (F.MC_CTRL_EN (0 : Fin 4).val) 1).set (F.MC_CTRL_EN 0) 1, .svp, 0, by decide⟩,
    ⟨State.reset.set (F.MC_CTRL_EN (0 : Fin 4).val) 0, .svp, 0, by decide⟩,
    ⟨State.reset.set (F.MC_STATUS_SC0_STATE 0) 6, .svp, 0, by decide⟩,
    ⟨State.reset, .svp, 0, by decide⟩,
    ⟨State.reset.set (F.MC_STATUS_SC0_STATE 0) 2, .svp, 0, 0, by decide⟩,
    ⟨State.reset.set (scField 0) 1, 0, by decide⟩,
    ⟨((((w_rst (fun x => { x with bowAt := none }) State.reset).set (F.MC_CTRL_EN ((0 : Fin 8).val / 2)) 1).set (scField 0) 4).set (F.MC_CFG_POP 0) 3).set (F.MC_CTRL_EN 0) 1, 0, by decide⟩,
    ⟨State.reset.set (scField 0) 3, 0, by decide⟩,
    ⟨(State.reset.set (F.MC_STATUS_ENABLE_PENDING ((0 : Fin 8).val / 2)) 0).set (scField 0) 6, 0, by decide⟩,
    ⟨((((State.reset.set (F.MC_STATUS_ENABLE_PENDING 0) 1).set (F.MC_CFG_POP 0) 1).set (F.MC_CFG_RATE 0) 8).set (scField 0) 6), 0, by decide⟩⟩

theorem witness_ControllerWork :
    (∃ (s : State) (sc : Fin 8), (scState s sc.val = 2) ∧ (s.get (F.MC_RETRAIN_INTERVAL_MS (sc.val / 2)) ≠ 0) ∧ ((vget s.mem.subs sc).retrainDue = none) ∧ ((vget s.mem.subs sc).retrainAt + 1000000 * s.get (F.MC_RETRAIN_INTERVAL_MS (sc.val / 2)) ≤ s.elapsed)) ∧
    (∃ (s : State) (sc : Fin 8), ((vget s.mem.subs sc).retrainDue ≠ none) ∧ (scState s sc.val = 2) ∧ (scState s (sibling sc.val) ≠ 3) ∧ (anyPanic s = false)) ∧
    (∃ (s : State) (sc : Fin 8) (t0 : Nat), ((vget s.mem.subs sc).retrainDue = some t0) ∧ (t0 + 1000000000 ≤ s.elapsed) ∧ (s.flag (F.MC_STATUS_DEFER_LONG (sc.val / 2)) = false)) ∧
    (∃ (s : State) (sc : Fin 8) (r : MemReq), (scState s sc.val = 2 ∨ scState s sc.val = 6) ∧ ((vget s.mem.subs sc).service = none) ∧ (nextRequest s sc.val = some r)) ∧
    (∃ (s : State) (n : Fin 4), (vget s.mem.ctls n).windowAt + 1000000 * s.get (F.MC_RH_WINDOW_MS n.val) ≤ s.elapsed) ∧
    (∃ (s : State) (m : Fin 128) (e : Nat), ((m.val, e) ∈ s.bb.throttle) ∧ (isThrottled s m.val = false)) ∧
    (∃ (s : State) (sc : Fin 8) (rank : Fin 2), (scState s sc.val = 2 ∨ scState s sc.val = 6) ∧ (vget (vget s.mem.subs sc).refAt rank + trefi s (sc.val / 2) ≤ s.elapsed) ∧ (rank = 0 ∨ s.flag (F.MC_CFG_RANKS (sc.val / 2)) = true) ∧ (panicQueued s sc.val = false)) ∧
    (∃ (s : State) (sc : Fin 8) (rank : Fin 2), (scState s sc.val = 2 ∨ scState s sc.val = 6) ∧ (vget (vget s.mem.subs sc).refAt rank + trefi s (sc.val / 2) ≤ s.elapsed) ∧ (rank = 0 ∨ s.flag (F.MC_CFG_RANKS (sc.val / 2)) = true) ∧ (panicQueued s sc.val = true)) ∧
    (∃ (s : State) (sc : Fin 8) (rank : Fin 2), (scState s sc.val = 2 ∨ scState s sc.val = 6) ∧ (vget (vget s.mem.subs sc).postponed rank ≠ 0) ∧ (panicQueued s sc.val = false)) ∧
    (∃ (s : State) (n : Fin 4), (scServes s (2 * n.val) = true ∨ scServes s (2 * n.val + 1) = true) ∧ ((vget s.mem.ctls n).polledAt + 1000000 ≤ s.elapsed)) ∧
    (∃ (s : State) (n : Fin 4), scState s (2 * n.val) ≠ 0 ∨ scState s (2 * n.val + 1) ≠ 0) :=
  ⟨⟨w_tt (fun x => { x with run := 6400000000000 }) (State.reset.set (scField 0) 2), 0, by decide⟩,
    ⟨w_mem (fun x => { x with subs := vset x.subs 0 { vget x.subs 0 with retrainDue := some 5 } }) (State.reset.set (scField 0) 2), 0, by decide⟩,
    ⟨w_tt (fun x => { x with run := 64000000320 }) (w_mem (fun x => { x with subs := vset x.subs 0 { vget x.subs 0 with retrainDue := some 5 } }) (State.reset.set (scField 0) 2)), 0, 5, by decide⟩,
    ⟨w_mem (fun x => { x with subs := vset x.subs 0 { vget x.subs 0 with reads := [⟨1, 8, false, 0, [], [], ⟨0, 0, false, none, 0, 0, 0, 0, 0⟩, 0⟩] } }) (State.reset.set (scField 0) 2), 0, ⟨1, 8, false, 0, [], [], ⟨0, 0, false, none, 0, 0, 0, 0, 0⟩, 0⟩, by decide⟩,
    ⟨w_tt (fun x => { x with run := 6400000000000 }) State.reset, 0, by decide⟩,
    ⟨w_clk (fun c => { c with now := 5 }) (w_bb (fun x => { x with throttle := [(0, 0)] }) State.reset), 0, 0, by decide⟩,
    ⟨w_tt (fun x => { x with run := 640000 }) (State.reset.set (scField 0) 2), 0, 0, by decide⟩,
    ⟨w_tt (fun x => { x with run := 640000 }) (w_mem (fun x => { x with subs := vset x.subs 0 { vget x.subs 0 with reads := [⟨1, 16, false, 0, [], [], ⟨0, 0, false, none, 0, 0, 0, 0, 0⟩, 0⟩] } }) ((State.reset.set (scField 0) 2).set (F.LNT_STATUS_PANIC 0) 1)), 0, 0, by decide⟩,
    ⟨w_mem (fun x => { x with subs := vset x.subs 0 { vget x.subs 0 with postponed := Vector.replicate 2 1 } }) (State.reset.set (scField 0) 2), 0, 0, by decide⟩,
    ⟨w_tt (fun x => { x with run := 64000000 }) (State.reset.set (scField 0) 2), 0, by decide⟩,
    ⟨State.reset.set (scField 0) 2, 0, by decide⟩⟩

theorem witness_StagingSram :
    (∃ (s : State) (g : Fin 12) (r : Req), (portAHead s g.val = some r) ∧ (r.write = true) ∧ (r.addr < 0x008100000000) ∧ (s.sound (r.addr % 2 ^ 32) r.len) ∧ (s.portBIdle)) ∧
    (∃ (s : State) (g : Fin 12) (r : Req), (portAHead s g.val = some r) ∧ (r.write = true) ∧ (r.addr / 2 ^ 32 = 0x81) ∧ (s.sound (r.addr % 2 ^ 32) r.len) ∧ (s.portBIdle)) ∧
    (∃ (s : State) (g : Fin 12) (r : Req), (portAHead s g.val = some r) ∧ (r.write = true) ∧ (r.addr / 2 ^ 32 = 0x82) ∧ (s.sound (r.addr % 2 ^ 32) r.len) ∧ (s.portBIdle)) ∧
    (∃ (s : State) (g : Fin 12) (r : Req) (o : Origin), (portAHead s g.val = some r) ∧ ((s.bb.bursts.find? (fun x => x.req.id == r.id)).map (fun x => x.req.origin) = some o) ∧ (r.write = false) ∧ (s.sound (r.addr % 2 ^ 32) r.len) ∧ (s.portBIdle)) ∧
    (∃ (s : State) (g : Fin 12) (r : Req) (x : WordB), (portAHead s g.val = some r) ∧ (portBHit s (r.addr % 2 ^ 32 / 8) = some x) ∧ (r.write = true) ∧ (r.addr < 0x008100000000) ∧ (r.addr % 8 = 0) ∧ (r.len = 8) ∧ (r.be = List.replicate 8 true) ∧ (x.old.length = 8) ∧ (s.get F.RAS_INJ_CTRL_ARM = 0)) ∧
    (∃ (s : State) (g : Fin 12) (b : Fin 48) (r : Req) (x : WordB), (portAHead s g.val = some r) ∧ (r.write = false) ∧ (r.addr % 8 = 0) ∧ (r.len = 8) ∧ (s.bb.bursts.all (fun b => b.req.id != r.id) = true) ∧ (portBHit s (r.addr % 2 ^ 32 / 8) = some x) ∧ (x.mark = none)) ∧
    (∃ (s : State) (b : Fin 48) (q : PortB), (s.quiet) ∧ (portBNext s b.val = some q) ∧ (q.write = true) ∧ (s.sound q.off q.len) ∧ (s.portAIdle)) ∧
    (∃ (s : State) (b : Fin 48) (q : PortB), (s.quiet) ∧ (portBNext s b.val = some q) ∧ (q.write = true) ∧ (s.sound q.off q.len) ∧ (0 < q.len) ∧ (q.off / 8 = (q.off + q.len - 1) / 8) ∧ (portAHit s (q.off / 8) ≠ none)) ∧
    (∃ (s : State) (p : Partner) (b : Fin 48) (v : Word), (s.admits p (R.STG_BANK b.val)) ∧ (bankState s b.val < 3) ∧ ((F.STG_BANK_REQ b.val).of v < 3) ∧ ((F.STG_BANK_REQ b.val).of v ≠ bankState s b.val) ∧ (bankState s b.val ≠ 0 ∨ bankBusy s b.val = false)) ∧
    (∃ (s : State) (p : Partner) (b : Fin 48) (v : Word), (s.admits p (R.STG_BANK b.val)) ∧ ((F.STG_BANK_REQ b.val).of v = 3)) ∧
    (∃ (s : State) (p : Partner) (b : Fin 48) (v : Word), (s.admits p (R.STG_BANK b.val)) ∧ (bankState s b.val = 0) ∧ (bankBusy s b.val = true) ∧ (1 ≤ (F.STG_BANK_REQ b.val).of v)) ∧
    (∃ (s : State) (p : Partner) (b : Fin 48) (v : Word), (s.admits p (R.STG_BANK b.val)) ∧ (3 ≤ bankState s b.val) ∧ ((F.STG_BANK_REQ b.val).of v < 3)) ∧
    (∃ (s : State) (b : Fin 48), (3 ≤ bankState s b.val) ∧ (bankQuiet s b.val = true) ∧ ((vget s.stg.banks b).since + bankTime s b.val ≤ s.clk.now) ∧ ((vget s.stg.banks b).held = none) ∧ ((vget s.stg.banks b).target < 8) ∧ ((vget s.stg.banks b).target ≠ 0 ∨ (vget s.stg.banks b).retFrom = false ∨ s.get F.PWR_STATUS_STATE ≠ 1)) ∧
    (∃ (s : State) (b : Fin 48), (3 ≤ bankState s b.val) ∧ (bankQuiet s b.val = true) ∧ ((vget s.stg.banks b).since + bankTime s b.val ≤ s.clk.now) ∧ ((vget s.stg.banks b).held = none) ∧ ((vget s.stg.banks b).target = 0) ∧ ((vget s.stg.banks b).retFrom = true) ∧ (s.get F.PWR_STATUS_STATE = 1)) ∧
    (∃ (s : State) (b : Fin 48) (q : Nat), ((vget s.stg.banks b).held = some q) ∧ (3 ≤ bankState s b.val) ∧ (bankQuiet s b.val = true) ∧ ((vget s.stg.banks b).since + bankTime s b.val ≤ s.clk.now) ∧ (q < 3) ∧ ((vget s.stg.banks b).target < 3) ∧ (q ≠ (vget s.stg.banks b).target) ∧ ((vget s.stg.banks b).target ≠ 0 ∨ bankBusy s b.val = false)) ∧
    (∃ (s : State) (q : Nat), (scrubNext s s.stg.scrub = some q) ∧ (s.works = true) ∧ (s.flag F.STG_SCRUB_EN = true) ∧ (scrubDue s = true) ∧ (s.portBIdle) ∧ (stgMark s q = some (.correctable true) ∨ stgMark s q = some (.correctable false))) ∧
    (∃ (s : State) (q : Nat), (scrubNext s s.stg.scrub = some q) ∧ (s.works = true) ∧ (s.flag F.STG_SCRUB_EN = true) ∧ (scrubDue s = true) ∧ (s.portBIdle) ∧ (stgMark s q = some (.uncorrectable true) ∨ stgMark s q = some (.uncorrectable false) ∨ stgMark s q = some .poison)) :=
  ⟨⟨w_stg (fun x => { x with portA := [⟨7, 64, true, 0x008000000008, 1, [5], [true], 0, 5, 0, 0, .fabric 64⟩] }) State.reset, 0, ⟨7, 64, true, 0x008000000008, 1, [5], [true], 0, 5, 0, 0, .fabric 64⟩, by decide⟩,
    ⟨w_stg (fun x => { x with portA := [⟨7, 64, true, 0x008100000008, 1, [5], [true], 0, 5, 0, 0, .fabric 64⟩] }) State.reset, 0, ⟨7, 64, true, 0x008100000008, 1, [5], [true], 0, 5, 0, 0, .fabric 64⟩, by decide⟩,
    ⟨w_stg (fun x => { x with portA := [⟨7, 64, true, 0x008200000008, 1, [5], [true], 0, 5, 0, 0, .fabric 64⟩] }) State.reset, 0, ⟨7, 64, true, 0x008200000008, 1, [5], [true], 0, 5, 0, 0, .fabric 64⟩, by decide⟩,
    ⟨w_bb (fun x => { x with bursts := [⟨⟨7, 64, false, 0x008000000008, 4, [], [], 0, 5, 0, 0, .fabric 64⟩, 1, .ok, []⟩] }) (w_stg (fun x => { x with portA := [⟨7, 64, false, 0x008000000008, 4, [], [], 0, 5, 0, 0, .fabric 64⟩] }) State.reset), 0, ⟨7, 64, false, 0x008000000008, 4, [], [], 0, 5, 0, 0, .fabric 64⟩, .fabric 64, by decide⟩,
    ⟨w_stg (fun x => { x with lastB := some ⟨0, [⟨1, [1, 2, 3, 4, 5, 6, 7, 8], none, ⟨0, true, 8, [9], 1⟩⟩]⟩, portA := [⟨7, 64, true, 0x008000000008, 8, [5, 5, 5, 5, 5, 5, 5, 5], List.replicate 8 true, 0, 5, 0, 0, .fabric 64⟩] }) State.reset, 0, ⟨7, 64, true, 0x008000000008, 8, [5, 5, 5, 5, 5, 5, 5, 5], List.replicate 8 true, 0, 5, 0, 0, .fabric 64⟩, ⟨1, [1, 2, 3, 4, 5, 6, 7, 8], none, ⟨0, true, 8, [9], 1⟩⟩, by decide⟩,
    ⟨w_stg (fun x => { x with lastB := some ⟨0, [⟨1, [1, 2, 3, 4, 5, 6, 7, 8], none, ⟨0, true, 8, [9], 1⟩⟩]⟩, portA := [⟨7, 64, false, 0x008000000008, 8, [], [], 0, 5, 0, 0, .fabric 64⟩] }) State.reset, 0, 0, ⟨7, 64, false, 0x008000000008, 8, [], [], 0, 5, 0, 0, .fabric 64⟩, ⟨1, [1, 2, 3, 4, 5, 6, 7, 8], none, ⟨0, true, 8, [9], 1⟩⟩, by decide⟩,
    ⟨w_stg (fun x => { x with portB := [⟨0, true, 8, [7], 1⟩] }) State.reset, 0, ⟨0, true, 8, [7], 1⟩, by decide⟩,
    ⟨w_stg (fun x => { x with portB := [⟨0, true, 8, [7], 1⟩], lastA := some ⟨0, [(1, [], none)], true⟩ }) State.reset, 0, ⟨0, true, 8, [7], 1⟩, by decide⟩,
    ⟨State.reset.set (F.STG_BANK_STATE 0) 0, .svp, 0, 1, by decide⟩,
    ⟨State.reset.set (F.STG_BANK_STATE 0) 0, .svp, 0, 3, by decide⟩,
    ⟨((State.reset.set (F.STG_BANK_STATE 0) 0).set (F.LNT_FIFO_SIZE 0) 1).set (F.LNT_STATUS_STATE 0) 1, .svp, 0, 1, by decide⟩,
    ⟨State.reset.set (F.STG_BANK_STATE 0) 3, .svp, 0, 1, by decide⟩,
    ⟨w_clk (fun c => { c with now := 100000 }) (State.reset.set (F.STG_BANK_STATE 0) 3), 0, by decide⟩,
    ⟨w_clk (fun c => { c with now := 100000 }) (w_stg (fun x => { x with banks := vset x.banks 0 { vget x.banks 0 with retFrom := true } }) ((State.reset.set (F.STG_BANK_STATE 0) 3).set F.PWR_STATUS_STATE 1)), 0, by decide⟩,
    ⟨w_clk (fun c => { c with now := 100000 }) (w_stg (fun x => { x with banks := vset x.banks 0 { vget x.banks 0 with held := some 2 } }) (State.reset.set (F.STG_BANK_STATE 0) 3)), 0, 2, by decide⟩,
    ⟨w_tt (fun x => { x with run := 6400000000000 }) (w_stg (fun x => { x with mark := [(0, some (.correctable false))] }) (State.reset.set F.STG_SCRUB_EN 1)), 0, by decide⟩,
    ⟨w_tt (fun x => { x with run := 6400000000000 }) (w_stg (fun x => { x with mark := [(0, some (.uncorrectable false))] }) (State.reset.set F.STG_SCRUB_EN 1)), 0, by decide⟩⟩

theorem witness_ShadeSets :
    (∃ (s : State) (p : Partner) (v : Word), (s.admits p R.SHD_KEY_LOAD) ∧ (F.SHD_KEY_LOAD_SLOTS.of v ≠ 0)) ∧
    (∃ (s : State), s.shd.loading ≠ []) ∧
    (∃ (s : State) (p : Partner), (s.admits p R.SHD_COMMIT) ∧ (s.flag F.SHD_STATUS_KEY_BUSY = false) ∧ (∀ k : Fin 16, regionFault s k.val = none)) ∧
    (∃ (s : State) (p : Partner), (s.admits p R.SHD_COMMIT) ∧ (s.flag F.SHD_STATUS_KEY_BUSY = true)) ∧
    (∃ (s : State) (p : Partner) (n : Fin 16), (s.admits p R.SHD_COMMIT) ∧ (s.flag F.SHD_STATUS_KEY_BUSY = false) ∧ (∀ k : Fin 16, k < n → regionFault s k.val = none) ∧ (s.flag (F.SHD_RGN_CTRL_EN n.val) = true) ∧ (s.get (F.SHD_RGN_SIZE_PAGES n.val) = 0)) ∧
    (∃ (s : State) (p : Partner) (n : Fin 16), (s.admits p R.SHD_COMMIT) ∧ (s.flag F.SHD_STATUS_KEY_BUSY = false) ∧ (∀ k : Fin 16, k < n → regionFault s k.val = none) ∧ (s.flag (F.SHD_RGN_CTRL_EN n.val) = true) ∧ (0 < s.get (F.SHD_RGN_SIZE_PAGES n.val)) ∧ (extent s < 4096 * (s.get (F.SHD_RGN_BASE_PAGE n.val) + s.get (F.SHD_RGN_SIZE_PAGES n.val)) ∨ s.get (F.SHD_RGN_CTRL_MODE n.val) = 2 ∧ extent s < 2048 * s.get (F.SHD_RGN_TAG_TAG_BASE n.val) + 512 * s.get (F.SHD_RGN_SIZE_PAGES n.val))) ∧
    (∃ (s : State) (p : Partner) (n : Fin 16), (s.admits p R.SHD_COMMIT) ∧ (s.flag F.SHD_STATUS_KEY_BUSY = false) ∧ (∀ k : Fin 16, k < n → regionFault s k.val = none) ∧ (s.flag (F.SHD_RGN_CTRL_EN n.val) = true) ∧ (0 < s.get (F.SHD_RGN_SIZE_PAGES n.val)) ∧ (4096 * (s.get (F.SHD_RGN_BASE_PAGE n.val) + s.get (F.SHD_RGN_SIZE_PAGES n.val)) ≤ extent s) ∧ (s.get (F.SHD_RGN_CTRL_MODE n.val) = 2 → 2048 * s.get (F.SHD_RGN_TAG_TAG_BASE n.val) + 512 * s.get (F.SHD_RGN_SIZE_PAGES n.val) ≤ extent s) ∧ (s.get (F.SHD_RGN_CTRL_MODE n.val) ≠ 0) ∧ (vget s.shd.staged (finOf 15 (s.get (F.SHD_RGN_CTRL_KEY n.val))) = none)) ∧
    (∃ (s : State) (p : Partner) (n : Fin 16) (m : Fin 16), (s.admits p R.SHD_COMMIT) ∧ (s.flag F.SHD_STATUS_KEY_BUSY = false) ∧ (∀ k : Fin 16, k < n → regionFault s k.val = none) ∧ (s.flag (F.SHD_RGN_CTRL_EN n.val) = true) ∧ (0 < s.get (F.SHD_RGN_SIZE_PAGES n.val)) ∧ (4096 * (s.get (F.SHD_RGN_BASE_PAGE n.val) + s.get (F.SHD_RGN_SIZE_PAGES n.val)) ≤ extent s) ∧ (s.get (F.SHD_RGN_CTRL_MODE n.val) = 2) ∧ (2048 * s.get (F.SHD_RGN_TAG_TAG_BASE n.val) + 512 * s.get (F.SHD_RGN_SIZE_PAGES n.val) ≤ extent s) ∧ (vget s.shd.staged (finOf 15 (s.get (F.SHD_RGN_CTRL_KEY n.val))) ≠ none) ∧ (s.flag (F.SHD_RGN_CTRL_EN m.val) = true) ∧ (2048 * s.get (F.SHD_RGN_TAG_TAG_BASE n.val) < 4096 * (s.get (F.SHD_RGN_BASE_PAGE m.val) + s.get (F.SHD_RGN_SIZE_PAGES m.val))) ∧ (4096 * s.get (F.SHD_RGN_BASE_PAGE m.val) < 2048 * s.get (F.SHD_RGN_TAG_TAG_BASE n.val) + 512 * s.get (F.SHD_RGN_SIZE_PAGES n.val))) ∧
    (∃ (s : State), (∀ u : Fin 8, ∀ r ∈ (vget s.mem.subs u).reads ++ (vget s.mem.subs u).writes ++ (vget s.mem.subs u).service.toList, r.prot.version = s.shd.version)) :=
  ⟨⟨State.reset, .svp, 3, by decide⟩,
    ⟨w_shd (fun x => { x with loading := [1] }) State.reset, by decide⟩,
    ⟨State.reset.set F.SHD_STATUS_KEY_BUSY 0, .svp, by decide⟩,
    ⟨(State.reset.set F.SHD_STATUS_KEY_BUSY 1).set F.SHD_STATUS_KEY_BUSY 1, .svp, by decide⟩,
    ⟨(((State.reset.set F.SHD_STATUS_KEY_BUSY 0).set (F.SHD_RGN_CTRL_EN (0 : Fin 16).val) 1).set (F.SHD_RGN_SIZE_PAGES (0 : Fin 16).val) 0).set (F.SHD_RGN_CTRL_EN 0) 1, .svp, 0, by decide⟩,
    ⟨(((State.reset.set F.SHD_STATUS_KEY_BUSY 0).set (F.SHD_RGN_CTRL_EN (0 : Fin 16).val) 1).set (F.SHD_RGN_CTRL_EN 0) 1).set (F.SHD_RGN_SIZE_PAGES 0) 1, .svp, 0, by decide⟩,
    ⟨(((((State.reset.set F.SHD_STATUS_KEY_BUSY 0).set (F.SHD_RGN_CTRL_EN (0 : Fin 16).val) 1).set (F.SHD_RGN_CTRL_EN 0) 1).set (F.SHD_RGN_SIZE_PAGES 0) 1).set (F.MC_CFG_POP 0) 1).set (F.SHD_RGN_CTRL_MODE 0) 1, .svp, 0, by decide⟩,
    ⟨w_shd (fun x => { x with staged := vset x.staged 0 (some []) }) ((((((((State.reset.set F.SHD_STATUS_KEY_BUSY 0).set (F.SHD_RGN_CTRL_EN (0 : Fin 16).val) 1).set (F.SHD_RGN_CTRL_MODE (0 : Fin 16).val) 2).set (F.SHD_RGN_CTRL_EN (0 : Fin 16).val) 1).set (F.SHD_RGN_CTRL_EN 0) 1).set (F.SHD_RGN_SIZE_PAGES 0) 1).set (F.MC_CFG_POP 0) 1).set (F.SHD_RGN_CTRL_MODE 0) 2), .svp, 0, 0, by decide⟩,
    ⟨State.reset.set F.SHD_STATUS_DRAINED 0, by decide⟩⟩

theorem witness_PsiomCommands :
    (∃ (s : State) (p : Partner) (v : Word), (s.admits p R.PSM_CMD) ∧ (s.psm.cmd = none) ∧ (s.rst.bowAt = none) ∧ (s.get F.PSM_ADDR_ADDR % 16 = 0) ∧ (s.get F.PSM_ADDR_ADDR % 4096 + 16 * (F.PSM_CMD_UNITS_M1.of v + 1) ≤ 4096) ∧ (inKeyArea (s.get F.PSM_ADDR_ADDR) = false) ∧ ((psmSector s (s.get F.PSM_ADDR_ADDR / 4096)).state = .erased ∨ (psmSector s (s.get F.PSM_ADDR_ADDR / 4096)).state = .written) ∧ (∀ u : Fin 16, u.val ≤ F.PSM_CMD_UNITS_M1.of v → psmUnit s (s.get F.PSM_ADDR_ADDR / 16 + u.val) = .erased)) ∧
    (∃ (s : State) (p : Partner), (s.admits p R.PSM_CMD) ∧ (s.psm.cmd = none) ∧ (s.psm.suspended = none) ∧ (s.rst.bowAt = none) ∧ (inKeyArea (s.get F.PSM_ADDR_ADDR) = false) ∧ ((psmSector s (s.get F.PSM_ADDR_ADDR / 4096)).state ≠ .erasing)) ∧
    (∃ (s : State) (p : Partner) (v : Word), let k := F.PSM_KEY_CMD_SLOT.of v; let c := (validCopy s k).getD 1; (s.admits p R.PSM_KEY_CMD) ∧ (s.psm.cmd = none) ∧ (s.psm.suspended = none) ∧ (s.rst.bowAt = none) ∧ ((psmSector s (copySector k (1 - c))).state ≠ .erasing)) ∧
    (∃ (s : State) (p : Partner), (s.admits p R.PSM_CMD) ∧ (s.psm.cmd ≠ none)) ∧
    (∃ (s : State) (p : Partner) (v : Word), (s.admits p R.PSM_CMD) ∧ (s.psm.cmd = none) ∧ (s.get F.PSM_ADDR_ADDR % 16 ≠ 0 ∨ 4096 < s.get F.PSM_ADDR_ADDR % 4096 + 16 * (F.PSM_CMD_UNITS_M1.of v + 1))) ∧
    (∃ (s : State) (p : Partner) (v : Word), (s.admits p R.PSM_CMD) ∧ (s.psm.cmd = none) ∧ (s.get F.PSM_ADDR_ADDR % 16 = 0) ∧ (s.get F.PSM_ADDR_ADDR % 4096 + 16 * (F.PSM_CMD_UNITS_M1.of v + 1) ≤ 4096) ∧ (inKeyArea (s.get F.PSM_ADDR_ADDR) = true)) ∧
    (∃ (s : State) (p : Partner) (v : Word) (u : Fin 16), (s.admits p R.PSM_CMD) ∧ (s.psm.cmd = none) ∧ (s.get F.PSM_ADDR_ADDR % 16 = 0) ∧ (s.get F.PSM_ADDR_ADDR % 4096 + 16 * (F.PSM_CMD_UNITS_M1.of v + 1) ≤ 4096) ∧ (inKeyArea (s.get F.PSM_ADDR_ADDR) = false) ∧ ((psmSector s (s.get F.PSM_ADDR_ADDR / 4096)).state = .erased ∨ (psmSector s (s.get F.PSM_ADDR_ADDR / 4096)).state = .written) ∧ (u.val ≤ F.PSM_CMD_UNITS_M1.of v) ∧ (psmUnit s (s.get F.PSM_ADDR_ADDR / 16 + u.val) ≠ .erased) ∧ (∀ i : Fin 16, psmUnit s (s.get F.PSM_ADDR_ADDR / 16 + i.val) ≠ .unverified)) ∧
    (∃ (s : State) (p : Partner) (v : Word), (s.admits p R.PSM_CMD) ∧ (s.psm.cmd = none) ∧ (s.get F.PSM_ADDR_ADDR % 16 = 0) ∧ (s.get F.PSM_ADDR_ADDR % 4096 + 16 * (F.PSM_CMD_UNITS_M1.of v + 1) ≤ 4096) ∧ (inKeyArea (s.get F.PSM_ADDR_ADDR) = false) ∧ ((psmSector s (s.get F.PSM_ADDR_ADDR / 4096)).state ≠ .erased) ∧ ((psmSector s (s.get F.PSM_ADDR_ADDR / 4096)).state ≠ .written)) ∧
    (∃ (s : State) (p : Partner), (s.admits p R.PSM_CMD) ∧ (s.psm.cmd ≠ none ∨ s.psm.suspended ≠ none)) ∧
    (∃ (s : State) (p : Partner), (s.admits p R.PSM_CMD) ∧ (s.psm.cmd = none) ∧ (s.psm.suspended = none) ∧ (inKeyArea (s.get F.PSM_ADDR_ADDR) = true)) ∧
    (∃ (s : State) (p : Partner), (s.admits p R.PSM_CMD) ∧ (s.psm.suspended ≠ none)) ∧
    (∃ (s : State) (p : Partner) (c : PsmCmd), (s.admits p R.PSM_CMD) ∧ (s.psm.suspended = none) ∧ (s.psm.cmd = some c) ∧ (c.op = 2)) ∧
    (∃ (s : State) (p : Partner) (c : PsmCmd), (s.admits p R.PSM_CMD) ∧ (s.psm.suspended = none) ∧ (s.psm.cmd = some c) ∧ (c.op ≠ 2)) ∧
    (∃ (s : State) (p : Partner), (s.admits p R.PSM_CMD) ∧ (s.psm.suspended = none) ∧ (s.psm.cmd = none)) ∧
    (∃ (s : State) (p : Partner) (c : PsmCmd) (k : Nat), (s.admits p R.PSM_CMD) ∧ (s.psm.suspended = some c) ∧ (s.psm.cmd = none) ∧ (s.rst.bowAt = none) ∧ (c.sectors = [k])) ∧
    (∃ (s : State) (p : Partner), (s.admits p R.PSM_CMD) ∧ (s.psm.suspended = none)) ∧
    (∃ (s : State) (p : Partner), (s.admits p R.PSM_CMD) ∧ (s.psm.suspended ≠ none) ∧ (s.psm.cmd ≠ none)) ∧
    (∃ (s : State) (p : Partner) (v : Word), (s.admits p R.PSM_CMD) ∧ (F.PSM_CMD_OP.of v = 0 ∨ 4 < F.PSM_CMD_OP.of v)) ∧
    (∃ (s : State) (p : Partner) (v : Word), (s.admits p R.PSM_KEY_CMD) ∧ (F.PSM_KEY_CMD_OP.of v = 0 ∨ F.PSM_KEY_CMD_OP.of v = 3)) ∧
    (∃ (s : State) (p : Partner) (v : Word), let k := F.PSM_KEY_CMD_SLOT.of v; let gen := ((validCopy s k).map (copyGen s k)).getD 0; let c := if copyValid s k 0 = true ∧ (copyValid s k 1 = false ∨ validCopy s k = some 0) then 1 else 0; (s.admits p R.PSM_KEY_CMD) ∧ (s.psm.cmd = none) ∧ (s.psm.suspended = none) ∧ (s.rst.bowAt = none) ∧ (gen ≠ 0xFFFFFFFF) ∧ ((psmSector s (copySector k c)).state ≠ .erasing)) ∧
    (∃ (s : State) (p : Partner) (v : Word), (s.admits p R.PSM_KEY_CMD) ∧ (s.psm.cmd = none) ∧ (s.psm.suspended = none) ∧ (validCopy s (F.PSM_KEY_CMD_SLOT.of v) = some 0) ∧ (copyGen s (F.PSM_KEY_CMD_SLOT.of v) 0 = 0xFFFFFFFF)) ∧
    (∃ (s : State) (p : Partner), (s.admits p R.PSM_KEY_CMD) ∧ (s.psm.cmd ≠ none ∨ s.psm.suspended ≠ none)) :=
  ⟨⟨(w_cfg (fun x => { x with load := none }) (w_rst (fun x => { x with bowAt := none }) (w_psm (fun x => { x with cmd := none }) State.reset))), .svp, 0, by decide⟩,
    ⟨(w_cfg (fun x => { x with load := none }) (w_rst (fun x => { x with bowAt := none }) (w_psm (fun x => { x with suspended := none }) (w_psm (fun x => { x with cmd := none }) State.reset)))), .svp, by decide⟩,
    ⟨(w_cfg (fun x => { x with load := none }) (w_rst (fun x => { x with bowAt := none }) (w_psm (fun x => { x with suspended := none }) (w_psm (fun x => { x with cmd := none }) State.reset)))), .svp, 0, by decide⟩,
    ⟨w_psm (fun x => { x with cmd := some ⟨2, [1], 0, [], false⟩ }) State.reset, .svp, by decide⟩,
    ⟨(w_psm (fun x => { x with cmd := none }) State.reset).set F.PSM_ADDR_ADDR 1, .svp, 0, by decide⟩,
    ⟨(w_psm (fun x => { x with cmd := none }) State.reset).set F.PSM_ADDR_ADDR 0x7E0000, .svp, 0, by decide⟩,
    ⟨w_psm (fun x => { x with units := [(0, .good)], sectors := [(0, ⟨.written, 1, false⟩)] }) (w_psm (fun x => { x with cmd := none }) State.reset), .svp, 0, ⟨0, by decide⟩, by decide⟩,
    ⟨w_psm (fun x => { x with sectors := [(0, ⟨.incomplete, 1, false⟩)] }) (w_psm (fun x => { x with cmd := none }) State.reset), .svp, 0, by decide⟩,
    ⟨w_psm (fun x => { x with cmd := some ⟨2, [1], 0, [], false⟩ }) State.reset, .svp, by decide⟩,
    ⟨(w_psm (fun x => { x with suspended := none }) (w_psm (fun x => { x with cmd := none }) State.reset)).set F.PSM_ADDR_ADDR 0x7FFFFF, .svp, by decide⟩,
    ⟨w_psm (fun x => { x with suspended := some ⟨2, [1], 0, [], false⟩ }) State.reset, .svp, by decide⟩,
    ⟨(w_psm (fun x => { x with cmd := some (⟨2, [1], 0, [], false⟩ : PsmCmd) }) (w_psm (fun x => { x with suspended := none }) State.reset)), .svp, ⟨2, [1], 0, [], false⟩, by decide⟩,
    ⟨(w_psm (fun x => { x with cmd := some (⟨1, [], 0, [(1, [])], false⟩ : PsmCmd) }) (w_psm (fun x => { x with suspended := none }) State.reset)), .svp, ⟨1, [], 0, [(1, [])], false⟩, by decide⟩,
    ⟨(w_psm (fun x => { x with cmd := none }) (w_psm (fun x => { x with suspended := none }) State.reset)), .svp, by decide⟩,
    ⟨(w_rst (fun x => { x with bowAt := none }) (w_psm (fun x => { x with cmd := none }) (w_psm (fun x => { x with suspended := some (⟨2, [1], 3, [], false⟩ : PsmCmd) }) State.reset))), .svp, ⟨2, [1], 3, [], false⟩, 1, by decide⟩,
    ⟨(w_psm (fun x => { x with suspended := none }) State.reset), .svp, by decide⟩,
    ⟨w_psm (fun x => { x with cmd := some ⟨2, [1], 0, [], false⟩, suspended := some ⟨2, [1], 0, [], false⟩ }) State.reset, .svp, by decide⟩,
    ⟨State.reset, .svp, 0, by decide⟩,
    ⟨State.reset, .svp, 0, by decide⟩,
    ⟨(w_cfg (fun x => { x with load := none }) (w_rst (fun x => { x with bowAt := none }) (w_psm (fun x => { x with suspended := none }) (w_psm (fun x => { x with cmd := none }) State.reset)))), .svp, 0, by decide⟩,
    ⟨w_psm (fun x => { x with bytes := mput psmErased [] (4096 * 2016) ((copyUnits 0 0 0xFFFFFFFF (List.replicate 96 1)).flatMap Prod.snd), units := (List.range 8).map (fun i => (256 * 2016 + i, .good)), sectors := [(2016, ⟨.written, 1, false⟩)] }) (w_psm (fun x => { x with suspended := none }) (w_psm (fun x => { x with cmd := none }) State.reset)), .svp, 0, by decide⟩,
    ⟨w_psm (fun x => { x with cmd := some ⟨2, [1], 0, [], false⟩ }) State.reset, .svp, by decide⟩⟩

theorem witness_PsiomPulses :
    (∃ (s : State) (c : PsmCmd) (u : Nat) (b : List Byte) (rest : List (Nat × List Byte)), (s.psm.cmd = some c) ∧ (c.sectors = []) ∧ (c.units = (u, b) :: rest) ∧ (b.length = 16) ∧ (s.psm.reads = []) ∧ (s.rst.deferred = none) ∧ (s.rst.bowAt = none)) ∧
    (∃ (s : State) (c : PsmCmd) (u : Nat) (b : List Byte) (rest : List (Nat × List Byte)), (s.psm.cmd = some c) ∧ (c.sectors = []) ∧ (c.units = (u, b) :: rest) ∧ (s.psm.reads = [])) ∧
    (∃ (s : State) (c : PsmCmd) (k : Nat), (s.psm.cmd = some c) ∧ (c.sectors = [k]) ∧ (c.units = []) ∧ (c.suspend = false) ∧ (c.op ≠ 3) ∧ (s.psm.reads = []) ∧ (s.rst.deferred = none) ∧ (s.rst.bowAt = none) ∧ (s.psm.sliceAt + 200000 ≤ s.clk.now)) ∧
    (∃ (s : State) (c : PsmCmd) (k : Nat), (s.psm.cmd = some c) ∧ (c.sectors = [k]) ∧ (c.suspend = false) ∧ (c.slices + 1 < 20) ∧ (s.psm.reads = []) ∧ (s.rst.deferred = none) ∧ (s.rst.bowAt = none) ∧ (s.psm.sliceAt + 200000 ≤ s.clk.now)) ∧
    (∃ (s : State), (s.clk.now < s.psm.sliceAt + 200000) ∧ ((s.psm.cmd.map PsmCmd.sectors) ≠ some [])) ∧
    (∃ (s : State) (c : PsmCmd) (k : Nat), (s.psm.cmd = some c) ∧ (c.sectors = [k]) ∧ (20 ≤ c.slices + 1) ∧ (s.psm.reads = []) ∧ (s.rst.deferred = none) ∧ (s.psm.sliceAt + 200000 ≤ s.clk.now)) ∧
    (∃ (s : State) (c : PsmCmd) (k : Nat), (s.psm.cmd = some c) ∧ (c.sectors = [k]) ∧ (c.suspend = true) ∧ (c.slices + 1 < 20) ∧ (s.psm.reads = []) ∧ (s.rst.deferred = none) ∧ (s.psm.sliceAt + 200000 ≤ s.clk.now)) ∧
    (∃ (s : State) (u : Nat), (s.rst.coreUp = true) ∧ (s.flag F.RAS_SCRUB_PSM_EN = true) ∧ (s.psm.cmd = none) ∧ (scanDue s = true) ∧ ((scanUnits s).find? (fun x => decide (s.psm.scan ≤ x)) = some u) ∧ (psmUnit s u = .good)) ∧
    (∃ (s : State) (u : Nat), (s.rst.coreUp = true) ∧ (s.flag F.RAS_SCRUB_PSM_EN = true) ∧ (s.psm.cmd = none) ∧ (scanDue s = true) ∧ ((scanUnits s).find? (fun x => decide (s.psm.scan ≤ x)) = some u) ∧ (psmUnit s u = .correctable)) ∧
    (∃ (s : State) (r : PsmRead) (l : List PsmRead) (o : Origin), (s.psm.reads = r :: l) ∧ (s.psm.cmd = none) ∧ (r.addr + r.len ≤ 2016 * 4096) ∧ (0 < r.len) ∧ (s.flag F.RAS_INJ_CTRL_ARM = false) ∧ (∀ i : Fin 17, psmUnit s (r.addr / 16 + i.val) = .good ∨ psmUnit s (r.addr / 16 + i.val) = .erased) ∧ (r.len ≤ 256) ∧ (∀ i : Fin 2, (psmSector s (r.addr / 4096 + i.val)).state = .erased ∨ (psmSector s (r.addr / 4096 + i.val)).state = .written) ∧ ((s.bb.bursts.find? (fun b => b.req.id == r.id)).map (fun b => b.req.origin) = some o)) ∧
    (∃ (s : State) (r : PsmRead) (l : List PsmRead) (o : Origin), (s.psm.reads = r :: l) ∧ (s.psm.cmd = none) ∧ (2016 * 4096 ≤ r.addr) ∧ (r.addr + r.len ≤ 2048 * 4096) ∧ (0 < r.len) ∧ ((s.bb.bursts.find? (fun b => b.req.id == r.id)).map (fun b => b.req.origin) = some o)) ∧
    (∃ (s : State) (r : PsmRead) (l : List PsmRead) (o : Origin), (s.psm.reads = r :: l) ∧ (s.psm.cmd = none) ∧ (r.addr + r.len ≤ 2016 * 4096) ∧ (0 < r.len) ∧ (r.addr % 16 + r.len ≤ 16) ∧ (s.flag F.RAS_INJ_CTRL_ARM = false) ∧ (psmUnit s (r.addr / 16) = .uncorrectable) ∧ ((psmSector s (r.addr / 4096)).state = .written ∨ (psmSector s (r.addr / 4096)).state = .erased) ∧ ((s.bb.bursts.find? (fun b => b.req.id == r.id)).map (fun b => b.req.origin) = some o)) :=
  ⟨⟨(w_rst (fun x => { x with bowAt := none }) (w_rst (fun x => { x with deferred := none }) (w_psm (fun x => { x with reads := [] }) (w_psm (fun x => { x with cmd := some (⟨1, [], 0, [(5, List.replicate 16 7)], false⟩ : PsmCmd) }) State.reset)))), ⟨1, [], 0, [(5, List.replicate 16 7)], false⟩, 5, List.replicate 16 7, [], by decide⟩,
    ⟨(w_psm (fun x => { x with reads := [] }) (w_psm (fun x => { x with cmd := some (⟨1, [], 0, [(5, List.replicate 16 7)], false⟩ : PsmCmd) }) State.reset)), ⟨1, [], 0, [(5, List.replicate 16 7)], false⟩, 5, List.replicate 16 7, [], by decide⟩,
    ⟨w_clk (fun c => { c with now := 200000 }) (w_psm (fun x => { x with cmd := some ⟨2, [9], 3, [], false⟩ }) State.reset), ⟨2, [9], 3, [], false⟩, 9, by decide⟩,
    ⟨w_clk (fun c => { c with now := 200000 }) (w_psm (fun x => { x with cmd := some ⟨2, [9], 3, [], false⟩ }) State.reset), ⟨2, [9], 3, [], false⟩, 9, by decide⟩,
    ⟨State.reset, by decide⟩,
    ⟨w_clk (fun c => { c with now := 200000 }) (w_psm (fun x => { x with cmd := some ⟨2, [9], 19, [], false⟩ }) State.reset), ⟨2, [9], 19, [], false⟩, 9, by decide⟩,
    ⟨w_clk (fun c => { c with now := 200000 }) (w_psm (fun x => { x with cmd := some ⟨2, [9], 3, [], true⟩ }) State.reset), ⟨2, [9], 3, [], true⟩, 9, by decide⟩,
    ⟨w_tt (fun x => { x with run := 64000000000000000000 }) (w_psm (fun x => { x with units := [(5, .good)], sectors := [(0, ⟨.written, 0, false⟩)] }) ((State.reset.set F.RAS_SCRUB_PSM_EN 1).set F.RAS_SCRUB_PSM_INTERVAL_H 1)), 5, by decide⟩,
    ⟨w_tt (fun x => { x with run := 64000000000000000000 }) (w_psm (fun x => { x with units := [(5, .correctable)], sectors := [(0, ⟨.written, 0, false⟩)] }) ((State.reset.set F.RAS_SCRUB_PSM_EN 1).set F.RAS_SCRUB_PSM_INTERVAL_H 1)), 5, by decide⟩,
    ⟨w_bb (fun x => { x with bursts := [⟨⟨1, 64, false, 0x00F800000010, 4, [], [], 0, 5, 0, 0, .fabric 64⟩, 1, .ok, []⟩] }) (w_psm (fun x => { x with reads := [⟨1, 0x10, 4⟩] }) State.reset), ⟨1, 0x10, 4⟩, [], .fabric 64, by decide⟩,
    ⟨w_bb (fun x => { x with bursts := [⟨⟨1, 64, false, 0x00F8007E0000, 4, [], [], 0, 5, 0, 0, .fabric 64⟩, 1, .ok, []⟩] }) (w_psm (fun x => { x with reads := [⟨1, 0x7E0000, 4⟩] }) State.reset), ⟨1, 0x7E0000, 4⟩, [], .fabric 64, by decide⟩,
    ⟨w_psm (fun x => { x with units := [(1, .uncorrectable)] }) (w_bb (fun x => { x with bursts := [⟨⟨1, 64, false, 0x00F800000010, 4, [], [], 0, 5, 0, 0, .fabric 64⟩, 1, .ok, []⟩] }) (w_psm (fun x => { x with reads := [⟨1, 0x10, 4⟩] }) State.reset)), ⟨1, 0x10, 4⟩, [], .fabric 64, by decide⟩⟩

theorem witness_PsiomWindowWrite :
    (∃ (s : State) (m : Fin 128) (addr : BitVec 23), (masterMay s m.val = true) ∧ (masterGate s m.val (0x00F800000000 + addr.toNat) = none) ∧ (rulesPass s m.val (0x00F800000000 + addr.toNat) true = true)) :=
  ⟨State.reset, 1, 0, by decide⟩

theorem witness_MemoryLines :
    (∃ (s : State) (sc : Fin 8) (r : MemReq), ((vget s.mem.subs sc).service = some r) ∧ (r.write = true) ∧ (allOn r.be = true) ∧ (r.master ≠ 3) ∧ (r.prot.mode = 0) ∧ (r.data.length = 64) ∧ (r.line % 64 = 0) ∧ (s.flag F.RAS_INJ_CTRL_ARM = false)) ∧
    (∃ (s : State) (sc : Fin 8) (r : MemReq) (k : List Byte), ((vget s.mem.subs sc).service = some r) ∧ (r.write = true) ∧ (allOn r.be = true) ∧ (r.master ≠ 3) ∧ (r.prot.mode = 1 ∨ r.prot.mode = 3) ∧ (r.prot.key = some k) ∧ ((encryptLine r.prot k r.line r.data).length = 64) ∧ (r.line % 64 = 0) ∧ (s.flag F.RAS_INJ_CTRL_ARM = false)) ∧
    (∃ (s : State) (sc : Fin 8) (r : MemReq), ((vget s.mem.subs sc).service = some r) ∧ (r.write = true) ∧ (allOn r.be = true) ∧ (r.master ≠ 3) ∧ (r.prot.mode ≠ 0) ∧ (r.prot.key = none)) ∧
    (∃ (s : State) (sc : Fin 8) (r : MemReq), ((vget s.mem.subs sc).service = some r) ∧ (r.write = true) ∧ (allOn r.be = false) ∧ (r.master ≠ 3) ∧ (r.prot.mode = 0) ∧ (r.line % 64 = 0) ∧ ((lineAttr s r.line).spare = false) ∧ ((lineAttr s r.line).mark = none)) ∧
    (∃ (s : State) (sc : Fin 8) (r : MemReq), ((vget s.mem.subs sc).service = some r) ∧ (r.write = true) ∧ (allOn r.be = false) ∧ (r.master ≠ 3) ∧ (r.prot.mode = 0) ∧ ((lineAttr s r.line).spare = false) ∧ ((lineAttr s r.line).mark = some .poison ∨ (lineAttr s r.line).mark = some (.uncorrectable true) ∨ (lineAttr s r.line).mark = some (.uncorrectable false))) ∧
    (∃ (s : State) (sc : Fin 8) (r : MemReq) (b : Burst), ((vget s.mem.subs sc).service = some r) ∧ (r.write = false) ∧ (r.master ≠ 3) ∧ (r.prot.mode = 0) ∧ ((vget s.mem.subs sc).writes = []) ∧ (engineOf r.line = sc.val) ∧ ((lineAttr s r.line).spare = false) ∧ ((lineAttr s r.line).mark = none) ∧ (s.bb.bursts.find? (fun b => b.req.id == r.id) = some b) ∧ (b.req.write = false)) ∧
    (∃ (s : State) (sc : Fin 8) (r : MemReq) (b : Burst), ((vget s.mem.subs sc).service = some r) ∧ (r.write = false) ∧ (r.master ≠ 3) ∧ (r.prot.mode = 0) ∧ ((vget s.mem.subs sc).writes = []) ∧ (engineOf r.line = sc.val) ∧ ((lineAttr s r.line).spare = false) ∧ ((lineAttr s r.line).mark = some (.uncorrectable true) ∨ (lineAttr s r.line).mark = some (.uncorrectable false)) ∧ (s.bb.bursts.find? (fun b => b.req.id == r.id) = some b) ∧ (b.req.write = false) ∧ (b.status = .ok)) ∧
    (∃ (s : State) (sc : Fin 8) (r : MemReq) (b : Burst) (k : List Byte), ((vget s.mem.subs sc).service = some r) ∧ (r.write = false) ∧ (r.master ≠ 3) ∧ (r.prot.mode = 1) ∧ (r.prot.key = some k) ∧ ((vget s.mem.subs sc).writes = []) ∧ (engineOf r.line = sc.val) ∧ ((lineAttr s r.line).spare = false) ∧ ((lineAttr s r.line).mark = none) ∧ (s.bb.bursts.find? (fun b => b.req.id == r.id) = some b) ∧ (b.req.write = false)) ∧
    (∃ (s : State) (sc : Fin 8) (r : MemReq) (b : Burst) (k : List Byte), ((vget s.mem.subs sc).service = some r) ∧ (r.write = false) ∧ (r.master ≠ 3) ∧ (r.prot.mode = 3) ∧ (r.prot.key = some k) ∧ ((vget s.mem.subs sc).writes = []) ∧ (engineOf r.line = sc.val) ∧ ((lineAttr s r.line).spare = true) ∧ ((lineAttr s r.line).mark = none) ∧ ((lineAttr s r.line).tag ≠ tagOf r.prot k r.line (memBytes s r.line 64)) ∧ (s.flag F.RAS_INJ_CTRL_ARM = false) ∧ (s.bb.bursts.find? (fun b => b.req.id == r.id) = some b) ∧ (b.req.write = false) ∧ (b.status = .ok)) ∧
    (∃ (s : State) (b : Burst), (s.bb.bursts.find? (fun b => !b.req.write && b.left == 0) = some b) ∧ (s.bb.bursts.find? (fun x => x.req.id == b.req.id) = some b)) :=
  ⟨⟨w_mem (fun x => { x with subs := vset x.subs 0 { vget x.subs 0 with service := some ⟨1, 64, true, 64, List.replicate 64 9, List.replicate 64 true, ⟨16, 0, false, none, 0, 0, 4096, 0, 0⟩, 5⟩ } }) (State.reset.set F.RAS_INJ_CTRL_ARM 0), 0, ⟨1, 64, true, 64, List.replicate 64 9, List.replicate 64 true, ⟨16, 0, false, none, 0, 0, 4096, 0, 0⟩, 5⟩, by decide⟩,
    ⟨w_mem (fun x => { x with subs := vset x.subs 0 { vget x.subs 0 with service := some ⟨1, 64, true, 64, List.replicate 64 9, List.replicate 64 true, ⟨1, 1, false, some (List.replicate 96 1), 0, 0, 4096, 0, 0⟩, 5⟩ } }) (State.reset.set F.RAS_INJ_CTRL_ARM 0), 0, ⟨1, 64, true, 64, List.replicate 64 9, List.replicate 64 true, ⟨1, 1, false, some (List.replicate 96 1), 0, 0, 4096, 0, 0⟩, 5⟩, List.replicate 96 1, by decide⟩,
    ⟨w_mem (fun x => { x with subs := vset x.subs 0 { vget x.subs 0 with service := some ⟨1, 64, true, 64, List.replicate 64 9, List.replicate 64 true, ⟨1, 1, false, none, 0, 0, 4096, 0, 0⟩, 5⟩ } }) State.reset, 0, ⟨1, 64, true, 64, List.replicate 64 9, List.replicate 64 true, ⟨1, 1, false, none, 0, 0, 4096, 0, 0⟩, 5⟩, by decide⟩,
    ⟨w_mem (fun x => { x with subs := vset x.subs 0 { vget x.subs 0 with service := some ⟨1, 64, true, 64, List.replicate 64 9, [false, true], ⟨16, 0, false, none, 0, 0, 4096, 0, 0⟩, 5⟩ } }) State.reset, 0, ⟨1, 64, true, 64, List.replicate 64 9, [false, true], ⟨16, 0, false, none, 0, 0, 4096, 0, 0⟩, 5⟩, by decide⟩,
    ⟨w_mem (fun x => { x with attr := [(64, ⟨false, [], some .poison⟩)], subs := vset x.subs 0 { vget x.subs 0 with service := some ⟨1, 64, true, 64, List.replicate 64 9, [false], ⟨16, 0, false, none, 0, 0, 4096, 0, 0⟩, 5⟩ } }) State.reset, 0, ⟨1, 64, true, 64, List.replicate 64 9, [false], ⟨16, 0, false, none, 0, 0, 4096, 0, 0⟩, 5⟩, by decide⟩,
    ⟨w_bb (fun x => { x with bursts := [⟨⟨1, 64, false, 64, 64, [], [], 0, 5, 0, 0, .fabric 64⟩, 1, .ok, []⟩] }) (w_mem (fun x => { x with subs := vset x.subs 0 { vget x.subs 0 with service := some ⟨1, 64, false, 64, [], [], ⟨16, 0, false, none, 0, 0, 4096, 0, 0⟩, 5⟩ } }) State.reset), 0, ⟨1, 64, false, 64, [], [], ⟨16, 0, false, none, 0, 0, 4096, 0, 0⟩, 5⟩, ⟨⟨1, 64, false, 64, 64, [], [], 0, 5, 0, 0, .fabric 64⟩, 1, .ok, []⟩, by decide⟩,
    ⟨w_bb (fun x => { x with bursts := [⟨⟨1, 64, false, 64, 64, [], [], 0, 5, 0, 0, .fabric 64⟩, 1, .ok, []⟩] }) (w_mem (fun x => { x with attr := [(64, ⟨false, [], some (.uncorrectable false)⟩)], subs := vset x.subs 0 { vget x.subs 0 with service := some ⟨1, 64, false, 64, [], [], ⟨16, 0, false, none, 0, 0, 4096, 0, 0⟩, 5⟩ } }) State.reset), 0, ⟨1, 64, false, 64, [], [], ⟨16, 0, false, none, 0, 0, 4096, 0, 0⟩, 5⟩, ⟨⟨1, 64, false, 64, 64, [], [], 0, 5, 0, 0, .fabric 64⟩, 1, .ok, []⟩, by decide⟩,
    ⟨w_bb (fun x => { x with bursts := [⟨⟨1, 64, false, 64, 64, [], [], 0, 5, 0, 0, .fabric 64⟩, 1, .ok, []⟩] }) (w_mem (fun x => { x with subs := vset x.subs 0 { vget x.subs 0 with service := some ⟨1, 64, false, 64, [], [], ⟨1, 1, true, some [], 0, 0, 4096, 0, 0⟩, 5⟩ } }) State.reset), 0, ⟨1, 64, false, 64, [], [], ⟨1, 1, true, some [], 0, 0, 4096, 0, 0⟩, 5⟩, ⟨⟨1, 64, false, 64, 64, [], [], 0, 5, 0, 0, .fabric 64⟩, 1, .ok, []⟩, [], by decide⟩,
    ⟨w_bb (fun x => { x with bursts := [⟨⟨1, 64, false, 64, 64, [], [], 0, 5, 0, 0, .fabric 64⟩, 1, .ok, []⟩] }) (w_mem (fun x => { x with attr := [(64, ⟨true, [], none⟩)], subs := vset x.subs 0 { vget x.subs 0 with service := some ⟨1, 64, false, 64, [], [], ⟨1, 3, true, some (List.replicate 96 1), 0, 0, 4096, 0, 0⟩, 5⟩ } }) (State.reset.set F.RAS_INJ_CTRL_ARM 0)), 0, ⟨1, 64, false, 64, [], [], ⟨1, 3, true, some (List.replicate 96 1), 0, 0, 4096, 0, 0⟩, 5⟩, ⟨⟨1, 64, false, 64, 64, [], [], 0, 5, 0, 0, .fabric 64⟩, 1, .ok, []⟩, List.replicate 96 1, by decide⟩,
    ⟨w_bb (fun x => { x with bursts := [⟨⟨1, 64, false, 64, 64, [], [], 0, 5, 0, 0, .fabric 64⟩, 0, .ok, []⟩] }) State.reset, ⟨⟨1, 64, false, 64, 64, [], [], 0, 5, 0, 0, .fabric 64⟩, 0, .ok, []⟩, by decide⟩⟩

theorem witness_Arbitration :
    (∃ (s : State) (m : Fin 128) (write : Bool) (addr : LocalAddr) (len : Nat) (data : List Byte) (be : List Bool), (masterMay s m.val = true) ∧ (burstLegal write addr.toNat len data be = true) ∧ (portRoom s m.val write = true) ∧ (masterGate s m.val addr.toNat = none) ∧ (isShut s m.val = false) ∧ (rulesPass s m.val addr.toNat write = true)) ∧
    (∃ (s : State) (m : Fin 128) (write : Bool) (addr : LocalAddr) (len : Nat) (data : List Byte) (be : List Bool), (masterMay s m.val = true) ∧ (burstLegal write addr.toNat len data be = true) ∧ (portRoom s m.val write = true) ∧ (4 ≤ m.val) ∧ (isShut s m.val = false) ∧ (rulesPass s m.val addr.toNat write = false)) ∧
    (∃ (s : State) (k : Fin 21) (r : Req), (InWindow s k) ∧ ((vget s.bb.points k).owner = none) ∧ ((vget s.bb.points k).pending = [r]) ∧ (r.write = true) ∧ (TakesPart s k.val r) ∧ (s.flag F.RAS_INJ_CTRL_ARM = false)) ∧
    (∃ (s : State) (k : Fin 21) (r : Req) (q : Req), (InWindow s k) ∧ ((vget s.bb.points k).owner = none) ∧ ((vget s.bb.points k).pending = [r, q] ∨ (vget s.bb.points k).pending = [q, r]) ∧ (r.master ≠ q.master) ∧ (r.write = true) ∧ (r.cls < 4) ∧ (q.cls < 4) ∧ (TakesPart s k.val r) ∧ (TakesPart s k.val q) ∧ (Beats s k.val r q) ∧ (s.flag F.RAS_INJ_CTRL_ARM = false)) ∧
    (∃ (s : State) (k : Fin 21) (o : Own) (w : Req), (InWindow s k) ∧ (k.val < 20) ∧ ((vget s.bb.points k).owner = some o) ∧ ((vget s.bb.points k).next = none) ∧ ((vget s.bb.points k).pending = [w]) ∧ (o.req.write = true) ∧ (o.withheld = false) ∧ (o.req.displaced < 3) ∧ (o.req.master ≠ w.master) ∧ (inPanic s o.req.master = false) ∧ (s.clk.now + 1 < o.ends) ∧ (s.bb.bursts.any (fun b => b.req.id == o.req.id) = true) ∧ (w.write = true) ∧ (TakesPart s k.val w) ∧ (s.flag F.RAS_INJ_CTRL_ARM = false) ∧ (inPanic s w.master = true ∨ (s.flag (F.BB_PT_CTRL_MODE k.val) = true ∧ w.deadline < o.req.deadline ∧ w.deadline ≤ s.deadlineIn (s.get (F.BB_PT_GUARD_GUARD_NS k.val))))) ∧
    (∃ (s : State) (k : Fin 21) (o : Own), (InWindow s k) ∧ ((vget s.bb.points k).owner = some o) ∧ (3 ≤ o.req.displaced ∨ inPanic s o.req.master = true ∨ o.ends ≤ s.clk.now + 1)) ∧
    (∃ (s : State) (k : Fin 21) (o : Own), (8 ≤ k.val) ∧ (k.val < 20) ∧ ((vget s.bb.points k).owner = some o) ∧ ((vget s.bb.points k).next = none) ∧ (o.req.write = true) ∧ (o.withheld = false) ∧ (o.ends ≤ s.clk.now) ∧ (bankState s (o.req.addr % 2 ^ 32 / 0x100000) = 0)) ∧
    (∃ (s : State) (k : Fin 21) (w0 : Nat), ((vget s.bb.points k).winAt = some w0) ∧ (w0 + s.get (F.BB_PT_CTRL_WIN_NS k.val) ≤ s.elapsed)) ∧
    (∃ (s : State) (p : Partner) (k : Fin 21), s.admits p (R.BB_PT_CTRL k.val)) ∧
    (∃ (s : State) (k : Fin 21) (o : Own), (s.works = true) ∧ ((vget s.bb.points k).owner = some o) ∧ (o.req.write = true) ∧ (o.withheld = true) ∧ (o.start + s.get F.BB_LOCKUP_CFG_CYCLES ≤ s.clk.now) ∧ (64 ≤ o.req.master) ∧ (o.req.master < 88) ∧ (s.flag (F.RGN_CTRL_FAULT_RESET (o.req.master - 64)) = false) ∧ (s.get (F.RGN_STATUS_STATE (o.req.master - 64)) ≠ 2)) :=
  ⟨⟨State.reset, 16, true, 0, 1, [5], [true], by decide⟩,
    ⟨w_bb (fun x => { x with enforce := true }) State.reset, 16, false, 0, 4, [], [], by decide⟩,
    ⟨w_bb (fun x => { x with points := vset x.points 8 { vget x.points 8 with winAt := some 0, pending := [⟨7, 16, true, 0x008000000000, 4, [1,1,1,1], [true,true,true,true], 1, 0, 0, 0, .fabric 16⟩] } }) (State.reset.set F.RAS_INJ_CTRL_ARM 0), 8, ⟨7, 16, true, 0x008000000000, 4, [1,1,1,1], [true,true,true,true], 1, 0, 0, 0, .fabric 16⟩, by decide⟩,
    ⟨w_bb (fun x => { x with points := vset x.points 8 { vget x.points 8 with winAt := some 0, pending := [⟨8, 17, true, 0x008000000000, 4, [], [], 2, 0, 0, 0, .fabric 17⟩, ⟨7, 16, true, 0x008000000000, 4, [], [], 1, 0, 0, 0, .fabric 16⟩] } }) (State.reset.set F.RAS_INJ_CTRL_ARM 0), 8, ⟨7, 16, true, 0x008000000000, 4, [], [], 1, 0, 0, 0, .fabric 16⟩, ⟨8, 17, true, 0x008000000000, 4, [], [], 2, 0, 0, 0, .fabric 17⟩, by decide⟩,
    ⟨w_bb (fun x => { x with bursts := [⟨⟨7, 16, true, 0x008000000000, 200, [], [], 1, 500, 0, 0, .fabric 16⟩, 1, .ok, []⟩], points := vset x.points 8 { vget x.points 8 with winAt := some 0, owner := some ⟨⟨7, 16, true, 0x008000000000, 200, [], [], 1, 500, 0, 0, .fabric 16⟩, 0, false⟩, pending := [⟨8, 17, true, 0x008000000000, 4, [], [], 2, 5, 0, 0, .fabric 17⟩] } }) ((State.reset.set F.RAS_INJ_CTRL_ARM 0).set (F.BB_PT_CTRL_MODE 8) 1), 8, ⟨⟨7, 16, true, 0x008000000000, 200, [], [], 1, 500, 0, 0, .fabric 16⟩, 0, false⟩, ⟨8, 17, true, 0x008000000000, 4, [], [], 2, 5, 0, 0, .fabric 17⟩, by decide⟩,
    ⟨w_bb (fun x => { x with points := vset x.points 8 { vget x.points 8 with winAt := some 0, owner := some ⟨⟨7, 16, true, 0x008000000000, 200, [], [], 1, 500, 3, 0, .fabric 16⟩, 0, false⟩ } }) State.reset, 8, ⟨⟨7, 16, true, 0x008000000000, 200, [], [], 1, 500, 3, 0, .fabric 16⟩, 0, false⟩, by decide⟩,
    ⟨w_clk (fun c => { c with now := 100 }) (w_bb (fun x => { x with points := vset x.points 8 { vget x.points 8 with winAt := some 0, owner := some ⟨⟨7, 16, true, 0x008000000000, 200, [], [], 1, 500, 3, 0, .fabric 16⟩, 0, false⟩ } }) State.reset), 8, ⟨⟨7, 16, true, 0x008000000000, 200, [], [], 1, 500, 3, 0, .fabric 16⟩, 0, false⟩, by decide⟩,
    ⟨w_tt (fun x => { x with run := 128000 }) (w_bb (fun x => { x with points := vset x.points 8 { vget x.points 8 with winAt := some 0 } }) State.reset), 8, 0, by decide⟩,
    ⟨State.reset, .svp, 0, by decide⟩,
    ⟨w_clk (fun c => { c with now := 10000 }) (w_bb (fun x => { x with points := vset x.points 8 { vget x.points 8 with winAt := some 0, owner := some ⟨⟨7, 64, true, 0x008000000000, 200, [], [], 1, 500, 3, 0, .fabric 64⟩, 0, true⟩ } }) (State.reset.set (F.RGN_CTRL_FAULT_RESET ((⟨⟨7, 64, true, 0x008000000000, 200, [], [], 1, 500, 3, 0, .fabric 64⟩, 0, true⟩ : Own).req.master - 64)) 0)), 8, ⟨⟨7, 64, true, 0x008000000000, 200, [], [], 1, 500, 3, 0, .fabric 64⟩, 0, true⟩, by decide⟩⟩

theorem witness_RulesAndLocks :
    (∃ (s : State) (p : Partner), s.admits p R.BB_RULE_COMMIT) ∧
    (∃ (s : State), (∀ x ∈ s.bb.inFlight, x.2 = s.bb.version)) ∧
    (∃ (s : State), (∃ x ∈ s.bb.inFlight, x.2 ≠ s.bb.version)) ∧
    (∃ (s : State) (m : Fin 128) (k : Fin 64), (masterMay s m.val = true) ∧ (masterGate s m.val (R.BB_LOCK k.val) = none) ∧ (rulesPass s m.val (R.BB_LOCK k.val) false = true) ∧ ((vget s.bb.locks k).owner = none)) ∧
    (∃ (s : State) (m : Fin 128) (k : Fin 64) (o : Nat), (masterMay s m.val = true) ∧ (masterGate s m.val (R.BB_LOCK k.val) = none) ∧ (rulesPass s m.val (R.BB_LOCK k.val) false = true) ∧ ((vget s.bb.locks k).owner = some o)) ∧
    (∃ (s : State) (m : Fin 128) (k : Fin 64) (v : Word), (masterMay s m.val = true) ∧ (masterGate s m.val (R.BB_LOCK k.val) = none) ∧ (rulesPass s m.val (R.BB_LOCK k.val) true = true) ∧ ((vget s.bb.locks k).owner = some m.val) ∧ (v.getLsbD 1 = false)) ∧
    (∃ (s : State) (m : Fin 128) (k : Fin 64) (v : Word), (masterMay s m.val = true) ∧ (masterGate s m.val (R.BB_LOCK k.val) = none) ∧ (rulesPass s m.val (R.BB_LOCK k.val) true = true) ∧ ((vget s.bb.locks k).owner ≠ some m.val) ∧ (v.getLsbD 1 = false)) ∧
    (∃ (s : State) (m : Fin 128) (k : Fin 64) (v : Word), (masterMay s m.val = true) ∧ (masterGate s m.val (R.BB_LOCK k.val) = none) ∧ (rulesPass s m.val (R.BB_LOCK k.val) true = true) ∧ ((vget s.bb.locks k).owner ≠ none) ∧ (v &&& 0xFF00 = 0xA500)) ∧
    (∃ (s : State) (m : Fin 128) (k : Fin 64) (v : Word), (masterMay s m.val = true) ∧ (masterGate s m.val (R.BB_LOCK k.val) = none) ∧ (rulesPass s m.val (R.BB_LOCK k.val) true = true) ∧ ((vget s.bb.locks k).owner = none ∧ v &&& 0xFF00 = 0xA500 ∨ v &&& 0xFF01 = 0xA400)) ∧
    (∃ (s : State) (port : Fin 32) (a : SlvAcc) (q : Nat), (s.fab.slv.find? (fun x => x.port == port.val) = some a) ∧ (regionRunning s (regionOfPort port.val) = true) ∧ ((s.bb.bursts.find? (fun b => b.req.id == a.id)).map (fun b => b.req.origin) = some (.fabric q))) ∧
    (∃ (s : State) (port : Fin 32) (a : SlvAcc) (q : Nat), (s.fab.slv.find? (fun x => x.port == port.val) = some a) ∧ (a.since + 10000 ≤ s.clk.now) ∧ ((s.bb.bursts.find? (fun b => b.req.id == a.id)).map (fun b => b.req.origin) = some (.fabric q))) ∧
    (∃ (s : State) (port : Fin 32) (a : SlvAcc) (q : Nat), (s.fab.slv.find? (fun x => x.port == port.val) = some a) ∧ (regionRunning s (regionOfPort port.val) = false) ∧ ((s.bb.bursts.find? (fun b => b.req.id == a.id)).map (fun b => b.req.origin) = some (.fabric q))) ∧
    (∃ (s : State) (port : Fin 32), s.fab.slv.find? (fun x => x.port == port.val) = none) ∧
    (∃ (s : State) (port : Fin 32) (a : SlvAcc), (s.fab.slv.find? (fun x => x.port == port.val) = some a) ∧ (s.clk.now < a.since + 10000)) :=
  ⟨⟨State.reset, .svp, by decide⟩,
    ⟨State.reset, by decide⟩,
    ⟨w_bb (fun x => { x with inFlight := [(1, 7)] }) State.reset, by decide⟩,
    ⟨State.reset, 8, 0, by decide⟩,
    ⟨w_bb (fun x => { x with locks := vset x.locks 0 ⟨some 9, false⟩ }) State.reset, 8, 0, 9, by decide⟩,
    ⟨w_bb (fun x => { x with locks := vset x.locks 0 ⟨some 8, false⟩ }) State.reset, 8, 0, 0, by decide⟩,
    ⟨State.reset, 8, 0, 0, by decide⟩,
    ⟨w_bb (fun x => { x with locks := vset x.locks 0 ⟨some 9, false⟩ }) State.reset, 8, 0, 0xA500, by decide⟩,
    ⟨State.reset, 8, 0, 0xA500, by decide⟩,
    ⟨w_bb (fun x => { x with bursts := [⟨⟨3, 64, false, 0x009000000000, 4, [], [], 0, 5, 0, 0, .fabric 64⟩, 1, .ok, []⟩] }) (w_fab (fun x => { x with slv := [⟨0, 3, 0⟩] }) (State.reset.set (F.RGN_STATUS_STATE 0) 1)), 0, ⟨0, 3, 0⟩, 64, by decide⟩,
    ⟨w_bb (fun x => { x with bursts := [⟨⟨3, 64, false, 0x009000000000, 4, [], [], 0, 5, 0, 0, .fabric 64⟩, 1, .ok, []⟩] }) (w_fab (fun x => { x with slv := [⟨0, 3, 0⟩] }) (w_clk (fun c => { c with now := 10000 }) State.reset)), 0, ⟨0, 3, 0⟩, 64, by decide⟩,
    ⟨w_bb (fun x => { x with bursts := [⟨⟨3, 64, false, 0x009000000000, 4, [], [], 0, 5, 0, 0, .fabric 64⟩, 1, .ok, []⟩] }) (w_fab (fun x => { x with slv := [⟨0, 3, 0⟩] }) State.reset), 0, ⟨0, 3, 0⟩, 64, by decide⟩,
    ⟨State.reset, 0, by decide⟩,
    ⟨w_bb (fun x => { x with bursts := [⟨⟨3, 64, false, 0x009000000000, 4, [], [], 0, 5, 0, 0, .fabric 64⟩, 1, .ok, []⟩] }) (w_fab (fun x => { x with slv := [⟨0, 3, 0⟩] }) (State.reset.set (F.RGN_STATUS_STATE 0) 1)), 0, ⟨0, 3, 0⟩, by decide⟩⟩

theorem witness_TaperAlu :
    (∃ (s : State) (n : Fin 8) (d : Fin 8) (a : Fin 8) (b : Fin 8), let c := vget s.tpr n; let x := c.regs[a.val]; let y := c.regs[b.val]; Fetches s n (.add d.val a.val b.val)) ∧
    (∃ (s : State) (n : Fin 8) (d : Fin 8) (a : Fin 8) (b : Fin 8), let c := vget s.tpr n; let x := c.regs[a.val]; let y := c.regs[b.val]; Fetches s n (.sub d.val a.val b.val)) ∧
    (∃ (s : State) (n : Fin 8) (d : Fin 8) (a : Fin 8) (b : Fin 8), let c := vget s.tpr n; let x := c.regs[a.val]; let y := c.regs[b.val]; Fetches s n (.and d.val a.val b.val)) ∧
    (∃ (s : State) (n : Fin 8) (d : Fin 8) (a : Fin 8) (b : Fin 8), let c := vget s.tpr n; let x := c.regs[a.val]; let y := c.regs[b.val]; Fetches s n (.or d.val a.val b.val)) ∧
    (∃ (s : State) (n : Fin 8) (d : Fin 8) (a : Fin 8) (b : Fin 8), let c := vget s.tpr n; let x := c.regs[a.val]; let y := c.regs[b.val]; Fetches s n (.xor d.val a.val b.val)) ∧
    (∃ (s : State) (n : Fin 8) (d : Fin 8) (a : Fin 8) (k : Fin 16), let c := vget s.tpr n; let x := c.regs[a.val]; Fetches s n (.shl d.val a.val k.val)) ∧
    (∃ (s : State) (n : Fin 8) (d : Fin 8) (a : Fin 8) (k : Fin 16), let c := vget s.tpr n; let x := c.regs[a.val]; Fetches s n (.shr d.val a.val k.val)) ∧
    (∃ (s : State) (n : Fin 8) (d : Fin 8) (a : Fin 8) (k : Fin 16), let c := vget s.tpr n; let x := c.regs[a.val]; Fetches s n (.shra d.val a.val k.val)) ∧
    (∃ (s : State) (n : Fin 8) (d : Fin 8) (a : Fin 8) (imm : BitVec 16), let c := vget s.tpr n; let x := c.regs[a.val]; Fetches s n (.addi d.val a.val imm.toNat)) ∧
    (∃ (s : State) (n : Fin 8) (a : Fin 8) (b : Fin 8), let c := vget s.tpr n; let x := c.regs[a.val]; let y := c.regs[b.val]; Fetches s n (.cmp a.val b.val)) ∧
    (∃ (s : State) (n : Fin 8) (d : Fin 8) (a : Fin 8) (k : Fin 16) (r : BitVec 16), let c := vget s.tpr n; let x := c.regs[a.val]; (Fetches s n (.brev d.val a.val k.val)) ∧ (∀ i : Fin 16, r.getLsbD i.val = decide (i.val ≤ k.val ∧ x.getLsbD (k.val - i.val) = true))) ∧
    (∃ (s : State) (n : Fin 8) (d : Fin 8) (a : Fin 8), let c := vget s.tpr n; let x := c.regs[a.val]; Fetches s n (.popc d.val a.val)) :=
  ⟨⟨w_tpr 0 (fun x => { x with pram := [(0, 0xD0000000)] }) (State.reset.set (F.TPR_STATUS_STATE 0) 1), 0, 0, 0, 0, by decide⟩,
    ⟨w_tpr 0 (fun x => { x with pram := [(0, 0xD4000000)] }) (State.reset.set (F.TPR_STATUS_STATE 0) 1), 0, 0, 0, 0, by decide⟩,
    ⟨w_tpr 0 (fun x => { x with pram := [(0, 0xD8000000)] }) (State.reset.set (F.TPR_STATUS_STATE 0) 1), 0, 0, 0, 0, by decide⟩,
    ⟨w_tpr 0 (fun x => { x with pram := [(0, 0xDC000000)] }) (State.reset.set (F.TPR_STATUS_STATE 0) 1), 0, 0, 0, 0, by decide⟩,
    ⟨w_tpr 0 (fun x => { x with pram := [(0, 0xE0000000)] }) (State.reset.set (F.TPR_STATUS_STATE 0) 1), 0, 0, 0, 0, by decide⟩,
    ⟨w_tpr 0 (fun x => { x with pram := [(0, 0xE4000000)] }) (State.reset.set (F.TPR_STATUS_STATE 0) 1), 0, 0, 0, 0, by decide⟩,
    ⟨w_tpr 0 (fun x => { x with pram := [(0, 0xE8000000)] }) (State.reset.set (F.TPR_STATUS_STATE 0) 1), 0, 0, 0, 0, by decide⟩,
    ⟨w_tpr 0 (fun x => { x with pram := [(0, 0xEC000000)] }) (State.reset.set (F.TPR_STATUS_STATE 0) 1), 0, 0, 0, 0, by decide⟩,
    ⟨w_tpr 0 (fun x => { x with pram := [(0, 0xF0000000)] }) (State.reset.set (F.TPR_STATUS_STATE 0) 1), 0, 0, 0, 0, by decide⟩,
    ⟨w_tpr 0 (fun x => { x with pram := [(0, 0xF4000000)] }) (State.reset.set (F.TPR_STATUS_STATE 0) 1), 0, 0, 0, by decide⟩,
    ⟨w_tpr 0 (fun x => { x with pram := [(0, 0xF8000000)] }) (State.reset.set (F.TPR_STATUS_STATE 0) 1), 0, 0, 0, 0, 0, by decide⟩,
    ⟨w_tpr 0 (fun x => { x with pram := [(0, 0xFC000000)] }) (State.reset.set (F.TPR_STATUS_STATE 0) 1), 0, 0, 0, by decide⟩⟩

theorem witness_TaperAccumulators :
    (∃ (s : State) (n : Fin 8) (d : Fin 2) (e : Fin 2), let c := vget s.tpr n; let x := (vget c.acc d).toInt; let y := (vget c.acc e).toInt; Fetches s n (.adda d.val e.val)) ∧
    (∃ (s : State) (n : Fin 8) (d : Fin 2) (e : Fin 2), let c := vget s.tpr n; let x := (vget c.acc d).toInt; let y := (vget c.acc e).toInt; Fetches s n (.suba d.val e.val)) ∧
    (∃ (s : State) (n : Fin 8) (d : Fin 2), let c := vget s.tpr n; Fetches s n (.zero d.val)) ∧
    (∃ (s : State) (n : Fin 8) (d : Fin 2), let c := vget s.tpr n; let x := (vget c.acc d).toInt; Fetches s n (.neg d.val)) ∧
    (∃ (s : State) (n : Fin 8) (d : Fin 2), let c := vget s.tpr n; let x := (vget c.acc d).toInt; Fetches s n (.abs d.val)) ∧
    (∃ (s : State) (n : Fin 8) (d : Fin 2), let c := vget s.tpr n; let x := (vget c.acc d).toInt; let h := (if (vget c.regs 9).getLsbD 13 = true ∧ x % 65536 = 0x8000 ∧ x / 65536 % 2 = 0 then 0 else 0x8000 : Int); Fetches s n (.round d.val)) ∧
    (∃ (s : State) (n : Fin 8) (d : Fin 2), let c := vget s.tpr n; let x := (vget c.acc d).toInt; Fetches s n (.clip d.val)) ∧
    (∃ (s : State) (n : Fin 8) (d : Fin 2) (m : Int), let c := vget s.tpr n; let x := (vget c.acc d).toInt; Fetches s n (.sha d.val m)) ∧
    (∃ (s : State) (n : Fin 8) (d : Fin 2) (r : Fin 8) (q : Fin 8), let c := vget s.tpr n; let x := (vget c.acc d).toInt; let q := (c.regs[r.val]).toInt; let m := if q < -32 then -32 else if 31 < q then 31 else q; Fetches s n (.shav d.val r.val)) ∧
    (∃ (s : State) (n : Fin 8) (e : Fin 2) (r : Fin 8) (k : Fin 40), let c := vget s.tpr n; let x := vget c.acc e; (Fetches s n (.norm r.val e.val)) ∧ (∀ i : Fin 39, i.val < k.val → x.getLsbD (38 - i.val) = x.getLsbD 39) ∧ (k.val = 39 ∨ x.getLsbD (38 - k.val) ≠ x.getLsbD 39)) ∧
    (∃ (s : State) (n : Fin 8) (d : Fin 2) (e : Fin 2), let c := vget s.tpr n; let x := (vget c.acc d).toInt; let y := (vget c.acc e).toInt; Fetches s n (.cmpa d.val e.val)) ∧
    (∃ (s : State) (n : Fin 8) (d : Fin 2) (e : Fin 2), let c := vget s.tpr n; let y := (vget c.acc e).toInt; Fetches s n (.mova d.val e.val)) ∧
    (∃ (s : State) (n : Fin 8) (d : Fin 2) (r : Fin 8) (q : Fin 8), let c := vget s.tpr n; let v := c.regs[r.val] ++ c.regs[q.val]; Fetches s n (.pack d.val r.val q.val)) ∧
    (∃ (s : State) (n : Fin 8) (d : Fin 2) (r : Fin 8), let c := vget s.tpr n; let v := BitVec.setWidth 8 (c.regs[r.val]) ++ BitVec.setWidth 32 (vget c.acc d); Fetches s n (.putg d.val r.val)) ∧
    (∃ (s : State) (n : Fin 8) (e : Fin 2) (r : Fin 8), let c := vget s.tpr n; let v := (vget c.acc e).toInt / 2 ^ 32; Fetches s n (.getg r.val e.val)) ∧
    (∃ (s : State) (n : Fin 8) (e : Fin 2) (r : Fin 8) (p : Fin 25), let c := vget s.tpr n; let v := (vget c.acc e).toInt / 2 ^ p.val; let cut := (vget c.regs 9).getLsbD 10 && decide (v < -32768 ∨ 32767 < v); Fetches s n (.ext r.val e.val p.val)) :=
  ⟨⟨w_tpr 0 (fun x => { x with pram := [(0, 0xA0000000)] }) (State.reset.set (F.TPR_STATUS_STATE 0) 1), 0, 0, 0, by decide⟩,
    ⟨w_tpr 0 (fun x => { x with pram := [(0, 0xA4000000)] }) (State.reset.set (F.TPR_STATUS_STATE 0) 1), 0, 0, 0, by decide⟩,
    ⟨w_tpr 0 (fun x => { x with pram := [(0, 0xA8000000)] }) (State.reset.set (F.TPR_STATUS_STATE 0) 1), 0, 0, by decide⟩,
    ⟨w_tpr 0 (fun x => { x with pram := [(0, 0xAC000000)] }) (State.reset.set (F.TPR_STATUS_STATE 0) 1), 0, 0, by decide⟩,
    ⟨w_tpr 0 (fun x => { x with pram := [(0, 0xB0000000)] }) (State.reset.set (F.TPR_STATUS_STATE 0) 1), 0, 0, by decide⟩,
    ⟨w_tpr 0 (fun x => { x with pram := [(0, 0xB4000000)] }) (State.reset.set (F.TPR_STATUS_STATE 0) 1), 0, 0, by decide⟩,
    ⟨w_tpr 0 (fun x => { x with pram := [(0, 0xB8000000)] }) (State.reset.set (F.TPR_STATUS_STATE 0) 1), 0, 0, by decide⟩,
    ⟨w_tpr 0 (fun x => { x with pram := [(0, 0xBC000000)] }) (State.reset.set (F.TPR_STATUS_STATE 0) 1), 0, 0, 0, by decide⟩,
    ⟨w_tpr 0 (fun x => { x with pram := [(0, 0xC0000000)] }) (State.reset.set (F.TPR_STATUS_STATE 0) 1), 0, 0, 0, 0, by decide⟩,
    ⟨w_tpr 0 (fun x => { x with pram := [(0, 0xC4000000)] }) (State.reset.set (F.TPR_STATUS_STATE 0) 1), 0, 0, 0, 39, by decide⟩,
    ⟨w_tpr 0 (fun x => { x with pram := [(0, 0xC8000000)] }) (State.reset.set (F.TPR_STATUS_STATE 0) 1), 0, 0, 0, by decide⟩,
    ⟨w_tpr 0 (fun x => { x with pram := [(0, 0xCC000000)] }) (State.reset.set (F.TPR_STATUS_STATE 0) 1), 0, 0, 0, by decide⟩,
    ⟨w_tpr 0 (fun x => { x with pram := [(0, 0x6C000000)] }) (State.reset.set (F.TPR_STATUS_STATE 0) 1), 0, 0, 0, 0, by decide⟩,
    ⟨w_tpr 0 (fun x => { x with pram := [(0, 0x74000000)] }) (State.reset.set (F.TPR_STATUS_STATE 0) 1), 0, 0, 0, by decide⟩,
    ⟨w_tpr 0 (fun x => { x with pram := [(0, 0x70000000)] }) (State.reset.set (F.TPR_STATUS_STATE 0) 1), 0, 0, 0, by decide⟩,
    ⟨w_tpr 0 (fun x => { x with pram := [(0, 0x68000000)] }) (State.reset.set (F.TPR_STATUS_STATE 0) 1), 0, 0, 0, 0, by decide⟩⟩

theorem witness_TaperParallel :
    (∃ (s : State) (n : Fin 8) (f : ParF), let c := vget s.tpr n; (Fetches s n (.par .par f)) ∧ (ParReadable c f)) ∧
    (∃ (s : State) (n : Fin 8) (f : ParF), let c := vget s.tpr n; let p := productOf c f false; (Fetches s n (.par .mul f)) ∧ (ParReadable c f)) ∧
    (∃ (s : State) (n : Fin 8) (f : ParF), let c := vget s.tpr n; let p := productOf c f false; let x := (vget c.acc (Fin.ofNat 2 f.a)).toInt; (Fetches s n (.par .mac f)) ∧ (ParReadable c f)) ∧
    (∃ (s : State) (n : Fin 8) (f : ParF), let c := vget s.tpr n; let p := productOf c f false; let x := (vget c.acc (Fin.ofNat 2 f.a)).toInt; (Fetches s n (.par .msb f)) ∧ (ParReadable c f)) ∧
    (∃ (s : State) (n : Fin 8) (f : ParF), let c := vget s.tpr n; let p := productOf c f false; let x := (vget c.acc (Fin.ofNat 2 f.a)).toInt; let out := decide (x + p.1 < -549755813888 ∨ 549755813887 < x + p.1); let y := (vget (withAcc c (Fin.ofNat 2 f.a) (x + p.1) false false true).acc (Fin.ofNat 2 f.a)).toInt; let h := (if (vget c.regs 9).getLsbD 13 = true ∧ y % 65536 = 0x8000 ∧ y / 65536 % 2 = 0 then 0 else 0x8000 : Int); let k := if out = true then { c with regs := vset c.regs 9 (vget c.regs 9 ||| 0x80) } else c; (Fetches s n (.par .macrn f)) ∧ (ParReadable c f)) ∧
    (∃ (s : State) (n : Fin 8) (f : ParF), let c := vget s.tpr n; let p := productOf c f true; let x := (vget c.acc (Fin.ofNat 2 f.a)).toInt; (Fetches s n (.par .macmx f)) ∧ (ParReadable c f)) ∧
    (∃ (s : State) (n : Fin 8) (f : ParF), let c := vget s.tpr n; let x := (vget c.acc (Fin.ofNat 2 f.a)).toInt; let h := (c.d f.s1).toInt * 65536; (Fetches s n (.par .addh f)) ∧ (ParReadable c f)) ∧
    (∃ (s : State) (n : Fin 8) (f : ParF), let c := vget s.tpr n; let x := (vget c.acc (Fin.ofNat 2 f.a)).toInt; let h := (c.d f.s1).toInt * 65536; (Fetches s n (.par .subh f)) ∧ (ParReadable c f)) ∧
    (∃ (s : State) (n : Fin 8) (f : ParF), let c := vget s.tpr n; (Fetches s n (.par .mac f)) ∧ (f.xm ≠ 7) ∧ ((c.address f.xp f.xm).1 ∈ c.badX)) :=
  ⟨⟨w_tpr 0 (fun x => { x with pram := [(0, 0x80000000)] }) (State.reset.set (F.TPR_STATUS_STATE 0) 1), 0, ⟨0, 0, 0, 0, 0, 0, 0, 0, 0, false⟩, by decide⟩,
    ⟨w_tpr 0 (fun x => { x with pram := [(0, 0x84000000)] }) (State.reset.set (F.TPR_STATUS_STATE 0) 1), 0, ⟨0, 0, 0, 0, 0, 0, 0, 0, 0, false⟩, by decide⟩,
    ⟨w_tpr 0 (fun x => { x with pram := [(0, 0x88000000)] }) (State.reset.set (F.TPR_STATUS_STATE 0) 1), 0, ⟨0, 0, 0, 0, 0, 0, 0, 0, 0, false⟩, by decide⟩,
    ⟨w_tpr 0 (fun x => { x with pram := [(0, 0x8C000000)] }) (State.reset.set (F.TPR_STATUS_STATE 0) 1), 0, ⟨0, 0, 0, 0, 0, 0, 0, 0, 0, false⟩, by decide⟩,
    ⟨w_tpr 0 (fun x => { x with pram := [(0, 0x90000000)] }) (State.reset.set (F.TPR_STATUS_STATE 0) 1), 0, ⟨0, 0, 0, 0, 0, 0, 0, 0, 0, false⟩, by decide⟩,
    ⟨w_tpr 0 (fun x => { x with pram := [(0, 0x94000000)] }) (State.reset.set (F.TPR_STATUS_STATE 0) 1), 0, ⟨0, 0, 0, 0, 0, 0, 0, 0, 0, false⟩, by decide⟩,
    ⟨w_tpr 0 (fun x => { x with pram := [(0, 0x98000000)] }) (State.reset.set (F.TPR_STATUS_STATE 0) 1), 0, ⟨0, 0, 0, 0, 0, 0, 0, 0, 0, false⟩, by decide⟩,
    ⟨w_tpr 0 (fun x => { x with pram := [(0, 0x9C000000)] }) (State.reset.set (F.TPR_STATUS_STATE 0) 1), 0, ⟨0, 0, 0, 0, 0, 0, 0, 0, 0, false⟩, by decide⟩,
    ⟨w_tpr 0 (fun x => { x with pram := [(0, 0x88000000)], badX := [0] }) (State.reset.set (F.TPR_STATUS_STATE 0) 1), 0, ⟨0, 0, 0, 0, 0, 0, 0, 0, 0, false⟩, by decide⟩⟩

theorem witness_TaperMoves :
    (∃ (s : State) (n : Fin 8) (r : Fin 40) (imm : BitVec 16), let c := vget s.tpr n; Fetches s n (.movi r.val imm.toNat)) ∧
    (∃ (s : State) (n : Fin 8) (r : Fin 40) (q : Fin 40), let c := vget s.tpr n; Fetches s n (.mov r.val q.val)) ∧
    (∃ (s : State) (n : Fin 8) (r : Fin 40) (y : Bool) (k : Fin 8) (m : Fin 8), let c := vget s.tpr n; (Fetches s n (.ld r.val y k.val m.val)) ∧ (addrOf c k m ∉ (if y = true then c.badY else c.badX))) ∧
    (∃ (s : State) (n : Fin 8) (r : Fin 40) (y : Bool) (a : Fin 16384), let c := vget s.tpr n; (Fetches s n (.ldi r.val y a.val)) ∧ (a.val ∉ (if y = true then c.badY else c.badX))) ∧
    (∃ (s : State) (n : Fin 8) (r : Fin 40) (y : Bool) (k : Fin 8) (m : Fin 8), let c := vget s.tpr n; Fetches s n (.st r.val y k.val m.val)) ∧
    (∃ (s : State) (n : Fin 8) (r : Fin 40) (y : Bool) (a : Fin 16384), let c := vget s.tpr n; Fetches s n (.sti r.val y a.val)) ∧
    (∃ (s : State) (n : Fin 8) (k : Fin 8) (m : Fin 8) (i : Fin 4), let c := vget s.tpr n; (Fetches s n (.ldp i.val k.val m.val)) ∧ (addrOf c k m ∉ c.badP)) ∧
    (∃ (s : State) (n : Fin 8) (k : Fin 8) (m : Fin 8) (i : Fin 4), let c := vget s.tpr n; (Fetches s n (.stp i.val k.val m.val)) ∧ (∀ x ∈ c.stale, x.addr ≠ addrOf c k m)) ∧
    (∃ (s : State) (n : Fin 8) (k : Fin 8) (m : Fin 8), let c := vget s.tpr n; Fetches s n (.lea k.val m.val)) ∧
    (∃ (s : State) (n : Fin 8) (mask : BitVec 8) (v : BitVec 8), let c := vget s.tpr n; Fetches s n (.mode mask.toNat v.toNat)) ∧
    (∃ (s : State) (n : Fin 8) (r : Fin 40) (y : Bool) (k : Fin 8) (m : Fin 8), let c := vget s.tpr n; (Fetches s n (.ld r.val y k.val m.val)) ∧ (addrOf c k m ∈ (if y = true then c.badY else c.badX))) :=
  ⟨⟨w_tpr 0 (fun x => { x with pram := [(0, 0x44000000)] }) (State.reset.set (F.TPR_STATUS_STATE 0) 1), 0, 0, 0, by decide⟩,
    ⟨w_tpr 0 (fun x => { x with pram := [(0, 0x48000000)] }) (State.reset.set (F.TPR_STATUS_STATE 0) 1), 0, 0, 0, by decide⟩,
    ⟨w_tpr 0 (fun x => { x with pram := [(0, 0x4C000000)] }) (State.reset.set (F.TPR_STATUS_STATE 0) 1), 0, 0, false, 0, 0, by decide⟩,
    ⟨w_tpr 0 (fun x => { x with pram := [(0, 0x54000000)] }) (State.reset.set (F.TPR_STATUS_STATE 0) 1), 0, 0, false, 0, by decide⟩,
    ⟨w_tpr 0 (fun x => { x with pram := [(0, 0x50000000)] }) (State.reset.set (F.TPR_STATUS_STATE 0) 1), 0, 0, false, 0, 0, by decide⟩,
    ⟨w_tpr 0 (fun x => { x with pram := [(0, 0x58000000)] }) (State.reset.set (F.TPR_STATUS_STATE 0) 1), 0, 0, false, 0, by decide⟩,
    ⟨w_tpr 0 (fun x => { x with pram := [(0, 0x5C000000)] }) (State.reset.set (F.TPR_STATUS_STATE 0) 1), 0, 0, 0, 0, by decide⟩,
    ⟨w_tpr 0 (fun x => { x with pram := [(0, 0x60000000)] }) (State.reset.set (F.TPR_STATUS_STATE 0) 1), 0, 0, 0, 0, by decide⟩,
    ⟨w_tpr 0 (fun x => { x with pram := [(0, 0x64000000)] }) (State.reset.set (F.TPR_STATUS_STATE 0) 1), 0, 0, 0, by decide⟩,
    ⟨w_tpr 0 (fun x => { x with pram := [(0, 0x38000000)] }) (State.reset.set (F.TPR_STATUS_STATE 0) 1), 0, 0, 0, by decide⟩,
    ⟨w_tpr 0 (fun x => { x with pram := [(0, 0x4C000000)], badX := [0] }) (State.reset.set (F.TPR_STATUS_STATE 0) 1), 0, 0, false, 0, 0, by decide⟩⟩

theorem witness_TaperControl :
    (∃ (s : State) (n : Fin 8), let c := vget s.tpr n; Fetches s n .nop) ∧
    (∃ (s : State) (n : Fin 8) (l : Loop) (rest : List Loop), (Fetches s n .nop) ∧ ((vget s.tpr n).loops = l :: rest) ∧ (l.last = tprPc s n.val) ∧ (1 < l.count) ∧ (l.count < 65536)) ∧
    (∃ (s : State) (n : Fin 8) (l : Loop) (rest : List Loop), (Fetches s n .nop) ∧ ((vget s.tpr n).loops = l :: rest) ∧ (l.last = tprPc s n.val) ∧ (l.count = 1) ∧ ((rest.all fun x => x.last != tprPc s n.val) = true)) ∧
    (∃ (s : State) (n : Fin 8), (Fetches s n .halt) ∧ ((vget s.tpr n).loops = [])) ∧
    (∃ (s : State) (n : Fin 8), (Fetches s n .bkpt) ∧ ((vget s.tpr n).loops = [])) ∧
    (∃ (s : State) (n : Fin 8) (k : Fin 16) (a : Fin 16384), let c := vget s.tpr n; Fetches s n (.j k.val a.val)) ∧
    (∃ (s : State) (n : Fin 8) (k : Fin 16) (a : Fin 16384), let c := vget s.tpr n; (Fetches s n (.call k.val a.val)) ∧ (c.calls.length < 8 ∨ ¬ Holds c.regs[9] k.val)) ∧
    (∃ (s : State) (n : Fin 8) (k : Fin 16) (a : Fin 16384), let c := vget s.tpr n; (Fetches s n (.call k.val a.val)) ∧ (8 ≤ c.calls.length) ∧ (Holds c.regs[9] k.val)) ∧
    (∃ (s : State) (n : Fin 8) (k : Fin 16) (ra : Nat) (cs : List Nat), let c := vget s.tpr n; (Fetches s n (.ret k.val)) ∧ (c.calls = ra :: cs)) ∧
    (∃ (s : State) (n : Fin 8) (k : Fin 16), let c := vget s.tpr n; (Fetches s n (.ret k.val)) ∧ (c.calls = [])) ∧
    (∃ (s : State) (n : Fin 8) (d : Fin 8), let c := vget s.tpr n; Fetches s n (.jr d.val)) ∧
    (∃ (s : State) (n : Fin 8) (imm : BitVec 16) (body : Fin 1024), let c := vget s.tpr n; (Fetches s n (.loop imm.toNat body.val)) ∧ (imm ≠ 0) ∧ (c.loops.length < 4)) ∧
    (∃ (s : State) (n : Fin 8) (imm : BitVec 16) (body : Fin 1024), let c := vget s.tpr n; (Fetches s n (.loop imm.toNat body.val)) ∧ (imm = 0)) ∧
    (∃ (s : State) (n : Fin 8) (imm : BitVec 16) (body : Fin 1024), let c := vget s.tpr n; (Fetches s n (.loop imm.toNat body.val)) ∧ (imm ≠ 0) ∧ (4 ≤ c.loops.length)) ∧
    (∃ (s : State) (n : Fin 8) (body : Fin 1024) (r : Fin 40), let c := vget s.tpr n; (Fetches s n (.loopr r.val body.val)) ∧ (c.reg (tprPc s n.val) r.val ≠ 0) ∧ (c.loops.length < 4)) ∧
    (∃ (s : State) (n : Fin 8) (body : Fin 1024) (r : Fin 40), let c := vget s.tpr n; (Fetches s n (.loopr r.val body.val)) ∧ (c.reg (tprPc s n.val) r.val = 0)) ∧
    (∃ (s : State) (n : Fin 8) (l : Loop) (rest : List Loop), let c := vget s.tpr n; (Fetches s n .leave) ∧ (c.loops = l :: rest)) ∧
    (∃ (s : State) (n : Fin 8) (d : Fin 8) (nb : Bool) (ev : Nat), let c := vget s.tpr n; (Fetches s n (.waitev d.val nb)) ∧ (s.evc.lowestFor (1 + n.val) = some ev)) ∧
    (∃ (s : State) (n : Fin 8) (d : Fin 8) (nb : Bool), let c := vget s.tpr n; (Fetches s n (.waitev d.val nb)) ∧ (s.evc.lowestFor (1 + n.val) = none) ∧ (s.flag (F.TPR_MAILBOX_DOORBELL n.val) = true)) ∧
    (∃ (s : State) (n : Fin 8) (d : Fin 8), let c := vget s.tpr n; (Fetches s n (.waitev d.val true)) ∧ (s.evc.lowestFor (1 + n.val) = none) ∧ (s.flag (F.TPR_MAILBOX_DOORBELL n.val) = false)) ∧
    (∃ (s : State) (n : Fin 8) (d : Fin 8), let c := vget s.tpr n; (Fetches s n (.waitev d.val false)) ∧ (s.evc.lowestFor (1 + n.val) = none) ∧ (s.flag (F.TPR_MAILBOX_DOORBELL n.val) = false)) ∧
    (∃ (s : State) (n : Fin 8) (d : Fin 8) (nb : Bool) (ev : Nat), let c := vget s.tpr n; (Waits s n (.waitev d.val nb)) ∧ (s.evc.lowestFor (1 + n.val) = some ev)) ∧
    (∃ (s : State) (n : Fin 8) (d : Fin 8) (nb : Bool), let c := vget s.tpr n; (Waits s n (.waitev d.val nb)) ∧ (s.evc.lowestFor (1 + n.val) = none) ∧ (s.flag (F.TPR_MAILBOX_DOORBELL n.val) = true)) ∧
    (∃ (s : State) (n : Fin 8) (d : Fin 8), (Waits s n (.waitev d.val false)) ∧ (s.evc.lowestFor (1 + n.val) = none) ∧ (s.flag (F.TPR_MAILBOX_DOORBELL n.val) = false)) ∧
    (∃ (s : State) (n : Fin 8) (d : Fin 8), let c := vget s.tpr n; Fetches s n (.evend d.val)) ∧
    (∃ (s : State) (n : Fin 8) (code : Byte), let c := vget s.tpr n; Fetches s n (.signal code.toNat)) ∧
    (∃ (s : State) (n : Fin 8), let c := vget s.tpr n; Fetches s n .wdog) ∧
    (∃ (s : State) (n : Fin 8) (d : Fin 8) (ch : Fin 2), (Fetches s n (.dma ch.val d.val)) ∧ ((vget (vget s.tpr n).chans ch).busy = true)) ∧
    (∃ (s : State) (n : Fin 8) (d : Fin 8) (ch : Fin 2) (desc : Nat), let c := vget s.tpr n; (Fetches s n (.dma ch.val d.val)) ∧ (desc = (vget c.regs (Fin.ofNat 40 (16 + d.val))).toNat % 16384) ∧ ((vget c.chans ch).busy = false) ∧ (c.badY = []) ∧ ((c.yWord ((desc + 3) % 16384)).toNat % 4 = 0) ∧ ((c.yWord ((desc + 3) % 16384)) ≠ 0) ∧ (c.yWord ((desc + 4) % 16384) = 0) ∧ ((c.yWord ((desc + 5) % 16384)).toNat < 0xC000) ∧ ((c.yWord ((desc + 6) % 16384)).toNat < 8)) ∧
    (∃ (s : State) (n : Fin 8) (ch : Fin 2), let c := vget s.tpr n; (Fetches s n (.dmaw ch.val)) ∧ ((vget c.chans ch).busy = false)) ∧
    (∃ (s : State) (n : Fin 8) (ch : Fin 2), (Fetches s n (.dmaw ch.val)) ∧ ((vget (vget s.tpr n).chans ch).busy = true)) ∧
    (∃ (s : State) (n : Fin 8), (tprMay s n.val = true) ∧ (tprState s n.val = 1) ∧ ((tprFetch s n.val).2 = false) ∧ (decodeTaper (tprFetch s n.val).1 = none)) :=
  ⟨⟨w_tpr 0 (fun x => { x with pram := [(0, 0x00000000)] }) ((State.reset.set (F.TPR_STATUS_STATE 0) 1)), 0, by decide⟩,
    ⟨w_tpr 0 (fun x => { x with pram := [(0, 0x00000000)], loops := [⟨2, 0, 0, false⟩] }) ((State.reset.set (F.TPR_STATUS_STATE 0) 1)), 0, ⟨2, 0, 0, false⟩, [], by decide⟩,
    ⟨w_tpr 0 (fun x => { x with pram := [(0, 0x00000000)], loops := [⟨1, 0, 0, false⟩] }) ((State.reset.set (F.TPR_STATUS_STATE 0) 1)), 0, ⟨1, 0, 0, false⟩, [], by decide⟩,
    ⟨w_tpr 0 (fun x => { x with pram := [(0, 0x04000000)] }) ((State.reset.set (F.TPR_STATUS_STATE 0) 1)), 0, by decide⟩,
    ⟨w_tpr 0 (fun x => { x with pram := [(0, 0x08000000)] }) ((State.reset.set (F.TPR_STATUS_STATE 0) 1)), 0, by decide⟩,
    ⟨w_tpr 0 (fun x => { x with pram := [(0, 0x0C000000)] }) ((State.reset.set (F.TPR_STATUS_STATE 0) 1)), 0, 0, 0, by decide⟩,
    ⟨w_tpr 0 (fun x => { x with pram := [(0, 0x10000000)] }) ((State.reset.set (F.TPR_STATUS_STATE 0) 1)), 0, 0, 0, by decide⟩,
    ⟨w_tpr 0 (fun x => { x with pram := [(0, 0x10000000)], calls := List.replicate 8 0 }) ((State.reset.set (F.TPR_STATUS_STATE 0) 1)), 0, 0, 0, by decide⟩,
    ⟨w_tpr 0 (fun x => { x with pram := [(0, 0x14000000)], calls := [3] }) ((State.reset.set (F.TPR_STATUS_STATE 0) 1)), 0, 0, 3, [], by decide⟩,
    ⟨w_tpr 0 (fun x => { x with pram := [(0, 0x14000000)] }) ((State.reset.set (F.TPR_STATUS_STATE 0) 1)), 0, 0, by decide⟩,
    ⟨w_tpr 0 (fun x => { x with pram := [(0, 0x18000000)] }) ((State.reset.set (F.TPR_STATUS_STATE 0) 1)), 0, 0, by decide⟩,
    ⟨w_tpr 0 (fun x => { x with pram := [(0, 0x1C000400)] }) ((State.reset.set (F.TPR_STATUS_STATE 0) 1)), 0, 1, 0, by decide⟩,
    ⟨w_tpr 0 (fun x => { x with pram := [(0, 0x1C000000)] }) ((State.reset.set (F.TPR_STATUS_STATE 0) 1)), 0, 0, 0, by decide⟩,
    ⟨w_tpr 0 (fun x => { x with pram := [(0, 0x1C000400)], loops := List.replicate 4 ⟨1, 0, 9, false⟩ }) ((State.reset.set (F.TPR_STATUS_STATE 0) 1)), 0, 1, 0, by decide⟩,
    ⟨w_tpr 0 (fun x => { x with pram := [(0, 0x20000000)], regs := vset x.regs 0 1 }) ((State.reset.set (F.TPR_STATUS_STATE 0) 1)), 0, 0, 0, by decide⟩,
    ⟨w_tpr 0 (fun x => { x with pram := [(0, 0x20000000)] }) ((State.reset.set (F.TPR_STATUS_STATE 0) 1)), 0, 0, 0, by decide⟩,
    ⟨w_tpr 0 (fun x => { x with pram := [(0, 0x24000000)], loops := [⟨2, 0, 5, false⟩] }) ((State.reset.set (F.TPR_STATUS_STATE 0) 1)), 0, ⟨2, 0, 5, false⟩, [], by decide⟩,
    ⟨w_evc (fun x => { x with src := [(5, { State.reset.evc.source 5 with target := 1, state := .pending })] }) (w_tpr 0 (fun x => { x with pram := [(0, 0x28000000)] }) ((State.reset.set (F.TPR_STATUS_STATE 0) 1))), 0, 0, false, 5, by decide⟩,
    ⟨w_tpr 0 (fun x => { x with pram := [(0, 0x28000000)] }) (((State.reset.set (F.TPR_MAILBOX_DOORBELL (0 : Fin 8).val) 1).set (F.TPR_STATUS_STATE 0) 1).set (F.TPR_MAILBOX_DOORBELL 0) 1), 0, 0, false, by decide⟩,
    ⟨w_tpr 0 (fun x => { x with pram := [(0, 0x28000001)] }) (((State.reset.set (F.TPR_MAILBOX_DOORBELL (0 : Fin 8).val) 0).set (F.TPR_STATUS_STATE 0) 1)), 0, 0, by decide⟩,
    ⟨w_tpr 0 (fun x => { x with pram := [(0, 0x28000000)] }) (((State.reset.set (F.TPR_MAILBOX_DOORBELL (0 : Fin 8).val) 0).set (F.TPR_STATUS_STATE 0) 1)), 0, 0, by decide⟩,
    ⟨w_evc (fun x => { x with src := [(5, ⟨.pending, false, true, false, 1, 1⟩)] }) (w_tpr 0 (fun x => { x with pram := [(0, 0x28000000)] }) (State.reset.set (F.TPR_STATUS_STATE 0) 2)), 0, 0, false, 5, by decide⟩,
    ⟨w_tpr 0 (fun x => { x with pram := [(0, 0x28000000)] }) ((State.reset.set (F.TPR_STATUS_STATE 0) 2).set (F.TPR_MAILBOX_DOORBELL 0) 1), 0, 0, false, by decide⟩,
    ⟨w_tpr 0 (fun x => { x with pram := [(0, 0x28000000)] }) (State.reset.set (F.TPR_STATUS_STATE 0) 2), 0, 0, by decide⟩,
    ⟨w_tpr 0 (fun x => { x with pram := [(0, 0x2C000000)] }) ((State.reset.set (F.TPR_STATUS_STATE 0) 1)), 0, 0, by decide⟩,
    ⟨w_tpr 0 (fun x => { x with pram := [(0, 0x30000000)] }) ((State.reset.set (F.TPR_STATUS_STATE 0) 1)), 0, 0, by decide⟩,
    ⟨w_tpr 0 (fun x => { x with pram := [(0, 0x34000000)] }) ((State.reset.set (F.TPR_STATUS_STATE 0) 1)), 0, by decide⟩,
    ⟨w_tpr 0 (fun x => { x with pram := [(0, 0x3C000000)], chans := Vector.replicate 2 { vget x.chans 0 with busy := true } }) ((State.reset.set (F.TPR_STATUS_STATE 0) 1)), 0, 0, 0, by decide⟩,
    ⟨w_tpr 0 (fun x => { x with pram := [(0, 0x3C000000)], yram := [(3, 4)] }) ((State.reset.set (F.TPR_STATUS_STATE 0) 1)), 0, 0, 0, 0, by decide⟩,
    ⟨w_tpr 0 (fun x => { x with pram := [(0, 0x40000000)] }) ((State.reset.set (F.TPR_STATUS_STATE 0) 1)), 0, 0, by decide⟩,
    ⟨w_tpr 0 (fun x => { x with pram := [(0, 0x40000000)], chans := Vector.replicate 2 { vget x.chans 0 with busy := true } }) ((State.reset.set (F.TPR_STATUS_STATE 0) 1)), 0, 0, by decide⟩,
    ⟨w_tpr 0 (fun x => { x with pram := [(0, 0x78000000)] }) (State.reset.set (F.TPR_STATUS_STATE 0) 1), 0, by decide⟩⟩

theorem witness_TaperHost :
    (∃ (s : State) (p : Partner) (n : Fin 8) (v : Word), (s.admits p (R.TPR_CTRL n.val)) ∧ (0x20 + n.val ∉ s.rst.engines) ∧ (tprState s n.val = 0) ∧ (v.getLsbD 30 = false)) ∧
    (∃ (s : State) (p : Partner) (n : Fin 8) (v : Word), (s.admits p (R.TPR_CTRL n.val)) ∧ (0x20 + n.val ∈ s.rst.engines) ∧ (v.getLsbD 30 = false)) ∧
    (∃ (s : State) (p : Partner) (n : Fin 8) (v : Word), (s.admits p (R.TPR_CTRL n.val)) ∧ (0x20 + n.val ∉ s.rst.engines) ∧ (tprState s n.val ≠ 0) ∧ (v.getLsbD 30 = false)) ∧
    (∃ (v : Word), v.getLsbD 30 = true) ∧
    (∃ (v : Word), (v.getLsbD 30 = false) ∧ (v.getLsbD 31 = true)) ∧
    (∃ (s : State) (p : Partner) (n : Fin 8) (v : Word), (s.admits p (R.TPR_CTRL n.val)) ∧ (0x20 + n.val ∈ s.rst.engines) ∧ (v.getLsbD 30 = false) ∧ (v.getLsbD 31 = false)) ∧
    (∃ (s : State) (p : Partner) (n : Fin 8), (s.admits p (R.TPR_CTRL n.val)) ∧ (tprState s n.val ≠ 0)) ∧
    (∃ (s : State) (p : Partner) (n : Fin 8), (s.admits p (R.TPR_CTRL n.val)) ∧ (tprState s n.val = 0)) ∧
    (∃ (s : State) (p : Partner) (n : Fin 8) (v : Word), (s.admits p (R.TPR_CTRL n.val)) ∧ (0x20 + n.val ∉ s.rst.engines) ∧ (tprState s n.val = 0) ∧ (v.getLsbD 30 = false) ∧ (v.getLsbD 31 = false) ∧ ((tprFetch s n.val).2 = false) ∧ (decodeTaper (tprFetch s n.val).1 = some .nop) ∧ ((vget s.tpr n).loops = [])) ∧
    (∃ (s : State) (p : Partner) (n : Fin 8) (v : Word), (s.admits p (R.TPR_CTRL n.val)) ∧ (0x20 + n.val ∉ s.rst.engines) ∧ (tprState s n.val = 0) ∧ (v.getLsbD 30 = false) ∧ (v.getLsbD 31 = false) ∧ ((tprFetch s n.val).2 = false) ∧ (decodeTaper (tprFetch s n.val).1 = some .halt) ∧ ((vget s.tpr n).loops = [])) ∧
    (∃ (s : State) (p : Partner) (n : Fin 8) (v : Word), (s.admits p (R.TPR_CTRL n.val)) ∧ (0x20 + n.val ∉ s.rst.engines) ∧ (tprState s n.val ≠ 0) ∧ (v.getLsbD 30 = false) ∧ (v.getLsbD 31 = false)) ∧
    (∃ (s : State) (p : Partner) (n : Fin 8), s.admits p (R.TPR_MAILBOX n.val)) ∧
    (∃ (s : State) (n : Fin 8) (ac : TprAcc), (s.quiet) ∧ ((vget s.tpr n).access.head? = some ac) ∧ (ac.write = true) ∧ (0x10000 ≤ ac.off) ∧ (ac.off % 2 = 0) ∧ (ac.off + ac.len ≤ 0x18000) ∧ (ac.len % 2 = 0) ∧ (s.flag F.RAS_INJ_CTRL_ARM = false)) ∧
    (∃ (s : State) (n : Fin 8) (ac : TprAcc) (q : Nat), (s.quiet) ∧ ((vget s.tpr n).access.head? = some ac) ∧ (ac.write = false) ∧ (0x10000 ≤ ac.off) ∧ (ac.off % 2 = 0) ∧ (ac.off + ac.len ≤ 0x18000) ∧ (ac.len % 2 = 0) ∧ ((vget s.tpr n).badX = []) ∧ ((s.bb.bursts.find? (fun b => b.req.id == ac.id)).map (fun b => b.req.origin) = some (.fabric q))) ∧
    (∃ (s : State) (n : Fin 8) (ch : Fin 2), let k := vget (vget s.tpr n).chans ch; (s.works = true) ∧ (s.bb.done = []) ∧ (k.busy = true) ∧ (k.issued = k.done) ∧ (k.len ≤ k.done) ∧ (k.chain = false) ∧ (∀ r ∈ s.stg.portB, r.agent ≠ 2 * n.val + ch.val)) ∧
    (∃ (s : State) (n : Fin 8), (s.works = true) ∧ (tprState s n.val = 1) ∧ (s.get (F.TPR_WDOG_LIMIT_US n.val) ≠ 0) ∧ (1000 * s.get (F.TPR_WDOG_LIMIT_US n.val) ≤ tprCounted s n.val) ∧ (s.flag (F.TPR_CTRL_LOCKUP_ACT n.val) = false)) ∧
    (∃ (s : State) (n : Fin 8), (s.works = true) ∧ (tprState s n.val = 1) ∧ (s.get (F.TPR_WDOG_LIMIT_US n.val) ≠ 0) ∧ (1000 * s.get (F.TPR_WDOG_LIMIT_US n.val) ≤ tprCounted s n.val) ∧ (s.flag (F.TPR_CTRL_LOCKUP_ACT n.val) = true) ∧ (s.flag (F.TPR_STATUS_ENABLE_PENDING n.val) = false)) :=
  ⟨⟨(w_rst (fun x => { x with engines := [] }) State.reset), .svp, 0, 0, by decide⟩,
    ⟨w_rst (fun x => { x with engines := [0x20] }) State.reset, .svp, 0, 0, by decide⟩,
    ⟨State.reset.set (F.TPR_STATUS_STATE 0) 1, .svp, 0, 0, by decide⟩,
    ⟨0x40000000, by decide⟩,
    ⟨0x85000008, by decide⟩,
    ⟨w_rst (fun x => { x with engines := [0x20] }) State.reset, .svp, 0, 0, by decide⟩,
    ⟨State.reset.set (F.TPR_STATUS_STATE 0) 1, .svp, 0, by decide⟩,
    ⟨State.reset, .svp, 0, by decide⟩,
    ⟨(w_rst (fun x => { x with engines := [] }) State.reset), .svp, 0, 0, by decide⟩,
    ⟨w_tpr 0 (fun x => { x with pram := [(0, 0x04000000)] }) (w_rst (fun x => { x with engines := [] }) State.reset), .svp, 0, 0, by decide⟩,
    ⟨(w_rst (fun x => { x with engines := [] }) State.reset).set (F.TPR_STATUS_STATE 0) 1, .svp, 0, 0, by decide⟩,
    ⟨State.reset, .svp, 0, by decide⟩,
    ⟨w_tpr 0 (fun x => { x with access := [⟨3, 0x10004, true, [1, 2], 2⟩] }) (State.reset.set F.RAS_INJ_CTRL_ARM 0), 0, ⟨3, 0x10004, true, [1, 2], 2⟩, by decide⟩,
    ⟨w_bb (fun x => { x with bursts := [⟨⟨3, 64, false, 0, 2, [], [], 0, 5, 0, 0, .fabric 64⟩, 1, .ok, []⟩] }) (w_tpr 0 (fun x => { x with access := [⟨3, 0x10004, false, [], 2⟩] }) State.reset), 0, ⟨3, 0x10004, false, [], 2⟩, 64, by decide⟩,
    ⟨w_tpr 0 (fun x => { x with chans := Vector.replicate 2 { vget x.chans 0 with busy := true } }) (w_bb (fun x => { x with done := [] }) State.reset), 0, 0, by decide⟩,
    ⟨w_tt (fun x => { x with run := 640000 }) (((State.reset.set (F.TPR_STATUS_STATE 0) 1).set (F.TPR_WDOG_LIMIT_US 0) 1).set (F.TPR_CTRL_LOCKUP_ACT 0) 0), 0, by decide⟩,
    ⟨w_tt (fun x => { x with run := 640000 }) (((State.reset.set (F.TPR_STATUS_STATE 0) 1).set (F.TPR_WDOG_LIMIT_US 0) 1).set (F.TPR_CTRL_LOCKUP_ACT 0) 1), 0, by decide⟩⟩

theorem witness_RegisterWrites :
    (∃ (s : State) (p : Partner) (addr : LocalAddr) (whole : Bool), (s.admits p addr.toNat) ∧ (isRegPage addr.toNat = true) ∧ (addr.toNat % 4 ≠ 0 ∨ whole = false)) ∧
    (∃ (s : State) (p : Partner) (addr : LocalAddr), (s.admits p addr.toNat) ∧ (isRegPage addr.toNat = true) ∧ (addr.toNat % 4 = 0) ∧ (findRow addr.toNat = none)) ∧
    (∃ (s : State) (m : Fin 128) (addr : LocalAddr), (4 ≤ m.val) ∧ (masterMay s m.val = true) ∧ (isRegPage addr.toNat = true) ∧ (rulesPass s m.val addr.toNat true = true) ∧ (addr.toNat % 4 = 0) ∧ (findRow addr.toNat = none)) ∧
    (∃ (s : State) (m : Fin 128) (addr : LocalAddr) (whole : Bool), (4 ≤ m.val) ∧ (masterMay s m.val = true) ∧ (isRegPage addr.toNat = true) ∧ (rulesPass s m.val addr.toNat true = true) ∧ (addr.toNat % 4 ≠ 0 ∨ whole = false)) ∧
    (∃ (s : State) (m : Fin 128) (addr : LocalAddr), (4 ≤ m.val) ∧ (masterMay s m.val = true) ∧ (isRegPage addr.toNat = true) ∧ (rulesPass s m.val addr.toNat true = false)) ∧
    (∃ (s : State) (p : Partner), s.admits p R.BB_SLACK) ∧
    (∃ (s : State) (p : Partner), s.admits p R.BB_VIOL_INFO) ∧
    (∃ (s : State) (p : Partner) (n : Fin 8), s.admits p (R.TPR_MAILBOX n.val)) ∧
    (∃ (s : State) (p : Partner), s.admits p (R.BB_FENCED 0)) ∧
    (∃ (s : State) (p : Partner) (addr : LocalAddr), (s.admits p addr.toNat) ∧ (addr.toNat % 4 = 0) ∧ (findRow addr.toNat ≠ none) ∧ (¬ (R.CFG_FIFO 0 ≤ addr.toNat ∧ addr.toNat < 0x00F000050000))) ∧
    (∃ (s : State) (m : Fin 128) (addr : LocalAddr), (4 ≤ m.val) ∧ (masterMay s m.val = true) ∧ (rulesPass s m.val addr.toNat true = true) ∧ (addr.toNat % 4 = 0) ∧ (findRow addr.toNat ≠ none) ∧ (¬ (R.CFG_FIFO 0 ≤ addr.toNat ∧ addr.toNat < 0x00F000050000))) ∧
    (∃ (s : State) (p : Partner) (addr : LocalAddr), (s.admits p addr.toNat) ∧ (addr.toNat % 4 = 0) ∧ (findRow addr.toNat ≠ none) ∧ (R.CFG_FIFO 0 ≤ addr.toNat) ∧ (addr.toNat < 0x00F000050000)) ∧
    (∃ (s : State) (p : Partner) (addr : LocalAddr), (s.admits p addr.toNat) ∧ (PlainReg addr.toNat)) ∧
    (∃ (s : State) (m : Fin 128) (addr : LocalAddr), (4 ≤ m.val) ∧ (masterMay s m.val = true) ∧ (rulesPass s m.val addr.toNat true = true) ∧ (PlainReg addr.toNat)) ∧
    (∃ (s : State) (q : Fin 4) (addr : LocalAddr), let u := vget s.fab.uarts q; (s.fabricOn = true) ∧ (s.flag F.CFG_STATUS_DONE = true) ∧ (addr.toNat % 4 = 0) ∧ (addr.toNat ≤ 0x18)) ∧
    (∃ (s : State) (q : Fin 4), uartOn s q.val = false) ∧
    (∃ (s : State), (s.fabricOn = true) ∧ (s.flag F.CFG_STATUS_DONE = true)) ∧
    (∃ (addr : LocalAddr), isRegPage addr.toNat = false) :=
  ⟨⟨State.reset, .svp, 0x00F000000001, false, by decide⟩,
    ⟨State.reset, .svp, 0x00F0000000F0, by decide⟩,
    ⟨State.reset, 8, 0x00F0000000F0, by decide⟩,
    ⟨State.reset, 8, 0x00F000000002, false, by decide⟩,
    ⟨w_bb (fun x => { x with enforce := true }) State.reset, 8, 0x00F000600004, by decide⟩,
    ⟨State.reset, .svp, by decide⟩,
    ⟨State.reset, .svp, by decide⟩,
    ⟨State.reset, .svp, 0, by decide⟩,
    ⟨State.reset, .svp, by decide⟩,
    ⟨State.reset, .svp, 0x00F000000000, by decide⟩,
    ⟨State.reset, 8, 0x00F000000000, by decide⟩,
    ⟨State.reset, .svp, 0x00F000041000, by decide⟩,
    ⟨State.reset, .svp, 0x00F000600810, by decide⟩,
    ⟨State.reset, 8, 0x00F000600810, by decide⟩,
    ⟨State.reset.set F.CFG_STATUS_DONE 1, 0, 0, by decide⟩,
    ⟨State.reset, 0, by decide⟩,
    ⟨(State.reset.set F.CFG_STATUS_DONE 1).set F.CFG_STATUS_DONE 1, by decide⟩,
    ⟨5, by decide⟩⟩

theorem witness_PartnerGate :
    (∃ (s : State) (c : Instr) (p : Partner) (a : Nat), (partnerTarget c = some (p, a)) ∧ (s.reaches p = false)) ∧
    (∃ (s : State) (c : Instr) (p : Partner) (a : Nat), (partnerTarget c = some (p, a)) ∧ (s.reaches p = true) ∧ (s.halted = true)) ∧
    (∃ (s : State) (c : Instr) (p : Partner) (a : Nat), (partnerTarget c = some (p, a)) ∧ (s.reaches p = true) ∧ (s.halted = false) ∧ (s.owner ≠ p)) ∧
    (∃ (s : State) (c : Instr) (p : Partner) (a : Nat), (partnerTarget c = some (p, a)) ∧ (s.reaches p = true) ∧ (s.halted = false) ∧ (s.owner = p) ∧ (s.nightlight = true) ∧ (inRestricted a = false)) :=
  ⟨⟨State.reset, .lanternEnable .fil 0 0, .fil, R.LNT_CTRL 0, by decide⟩,
    ⟨State.reset.set F.SHD_STATUS_HALTED 1, .lanternEnable .svp 0 0, .svp, R.LNT_CTRL 0, by decide⟩,
    ⟨w_fil (fun x => { x with addr := 1 }) (State.reset.set F.OWN_STATUS_OWNER 1), .lanternEnable .svp 0 0, .svp, R.LNT_CTRL 0, by decide⟩,
    ⟨State.reset.set F.RST_FAIL_NIGHTLIGHT 1, .lanternEnable .svp 0 0, .svp, R.LNT_CTRL 0, by decide⟩⟩

theorem witness_SettleQuiet : State.reset.quiet := ⟨by decide, by decide, by decide⟩

theorem witness_EveryStepKeepsForm : ∃ t, State.reset.canonical = true ∧ step State.reset = .next t := ⟨tick State.reset, by decide, rfl⟩

end Sys2Proof.Machine
end

section
/-!
PROOF. Tester Time (02_tester_time.md): what a partner's read answers when its request may act, which register page a read
belongs to, and the two halves of TT_NOW (R42).
-/

namespace Sys2Proof.Machine

/-! ### A partner's request that may act -/

/-- A partner's read that is admitted answers the value read, on the state the read leaves (R7, R32, R187). -/
theorem viaPartnerRead_of_admits {s : State} {p : Partner} {a : Nat} (read : State → Word × State)
    (h : s.admits p a) :
    viaPartnerRead p a read s = (read s).2.answer (.partner p) .ok (read s).1 := by
  obtain ⟨hreach, hgate⟩ := h
  simp only [viaPartnerRead, hreach, hgate, if_true]

/-! ### Reads of the TT page -/

/-- Every address of the first register page is read by the rules of Tester Time (R95, R972). -/
theorem pageRead_eq_ttRead (m : Nat) {a : Nat} (s : State) (ha : a < 0x00F000010000) :
    pageRead m a s = ttRead a s := by
  have hp : (a - 0x00F000000000) / 0x10000 = 0 := by omega
  simp only [pageRead, hp, if_true]

/-- A read of TT_NOW_LO gives the low half of TT and latches the high half. -/
@[simp] theorem ttRead_TT_NOW_LO (s : State) :
    ttRead R.TT_NOW_LO s =
      (s.tt.tt.setWidth 32, { s with tt := { s.tt with latchHi := (s.tt.tt >>> 32).setWidth 32 } }) :=
  if_pos rfl

/-- A read of TT_NOW_HI gives the latched half and has no effect. -/
@[simp] theorem ttRead_TT_NOW_HI (s : State) : ttRead R.TT_NOW_HI s = (s.tt.latchHi, s) := by
  have hne : R.TT_NOW_HI ≠ R.TT_NOW_LO := by decide
  simp only [ttRead, hne, if_false, if_true]

/-- TT_NOW_LO_READ is a partner's read of TT_NOW_LO by the rules of the TT page. -/
theorem exec_ttNowLoRead (p : Partner) (s : State) :
    exec (.ttNowLoRead p) s = .next (viaPartnerRead p R.TT_NOW_LO (ttRead R.TT_NOW_LO) s) := rfl

/-- Settles O1: the read of TT_NOW_LO is admitted and so has the effect of its page, and TT_NOW_HI lies on the same page. -/
theorem ttNowLatch : Obligations.TtNowLatch := by
  unfold Obligations.TtNowLatch
  intro s p
  constructor
  · intro hadmits
    rw [exec_ttNowLoRead, viaPartnerRead_of_admits _ hadmits, ttRead_TT_NOW_LO]
  · rw [pageRead_eq_ttRead _ s (by decide), ttRead_TT_NOW_HI]

end Sys2Proof.Machine
end

section
/-!
PROOF. The Psiom store (17_psiom_store.md): what answers a write to the store's read window (R844).
-/

namespace Sys2Proof.Machine

/-- A write to the store's read window that passes the checks on its way (the master may issue it, the gate and the access rules
let it pass) is answered BUS_ERR, and the answer is its only effect (R844). -/
theorem storeWrite_of_rulesPass {s : State} {m off : Nat} (hmay : masterMay s m = true)
    (hgate : masterGate s m (0x00F800000000 + off) = none)
    (hrules : rulesPass s m (0x00F800000000 + off) true = true) :
    storeWrite m off s = s.answer (answerTo m) .busErr 0 := by
  simp only [storeWrite, hmay, hgate, hrules, if_true]

/-- PSM_WINDOW_WRITE is a write of the store's window at the offset it names. -/
theorem exec_psmWindowWrite (m : Fin 128) (addr : BitVec 23) (s : State) :
    exec (.psmWindowWrite m addr) s = .next (storeWrite m.val addr.toNat s) := rfl

/-- Settles O44: the premises are the three checks of a window write, and behind them stands BUS_ERR alone. -/
theorem psiomWindowWrite : Obligations.PsiomWindowWrite := by
  unfold Obligations.PsiomWindowWrite
  intro s m addr hmay hgate hrules
  rw [exec_psmWindowWrite, storeWrite_of_rulesPass hmay hgate hrules]

end Sys2Proof.Machine
end

section
/-!
PROOF. The Event Controller (18_event_controller.md): a partner's write when its request may act, the fields of a written word, and
the source that a write to EVC_RAISE raises (R878).
-/

namespace Sys2Proof.Machine

/-! ### A partner's request that may act -/

/-- A partner's write that is admitted has its effect and is answered OK (R7, R32, R187). -/
theorem viaPartner_of_admits {s : State} {p : Partner} {a : Nat} (effect : State → State) (h : s.admits p a) :
    viaPartner p a effect s = (effect s).answer (.partner p) .ok 0 := by
  obtain ⟨hreach, hgate⟩ := h
  simp only [viaPartner, hreach, hgate, if_true]

/-! ### Fields of a word being written -/

/-- A field that begins at bit 0 takes the written word's low bits as a number. -/
theorem Field.of_eq_mod (f : Field) (v : Word) (hlo : f.lo = 0) (hhi : f.hi < 32) :
    f.of v = v.toNat % 2 ^ (f.hi + 1) := by
  rw [Field.of, fieldGet, hlo, BitVec.ushiftRight_zero, and_ones_toNat _ _ (by omega), Nat.sub_zero]

/-- A field of one bit is on in a written word when that bit is set. -/
theorem Field.on_eq_getLsbD (f : Field) (v : Word) (hbit : f.hi = f.lo) :
    f.on v = v.getLsbD f.lo := by
  have hof : f.of v = (v.getLsbD f.lo).toNat := by
    rw [Field.of, fieldGet, hbit, and_ones_toNat _ _ (by omega), BitVec.toNat_ushiftRight,
      Nat.add_sub_cancel_left, pow_one, BitVec.getLsbD, Nat.toNat_testBit, Nat.shiftRight_eq_div_pow]
  rw [Field.on, hof]
  cases v.getLsbD f.lo <;> rfl

/-! ### EVC_RAISE -/

/-- A written word raises the source of its low eight bits when its top bit is set, and has no effect otherwise (R878). -/
theorem evcRaiseWrite_eq (v : Word) (s : State) :
    evcRaiseWrite v s = if v.getLsbD 31 then raise (v.toNat % 256) s else s := by
  have hgo : F.EVC_RAISE_GO.on v = v.getLsbD 31 := Field.on_eq_getLsbD _ v rfl
  have hsource : F.EVC_RAISE_SOURCE.of v = v.toNat % 256 := Field.of_eq_mod _ v rfl (by decide)
  rw [evcRaiseWrite, hgo, hsource]

/-- EVC_RAISE is a partner's write of EVC_RAISE by the rule of that register. -/
theorem exec_evcRaise (p : Partner) (v : Word) (s : State) :
    exec (.evcRaise p v) s = .next (viaPartner p R.EVC_RAISE (evcRaiseWrite v) s) := rfl

/-- Settles O6: the write is admitted and so has its register's effect, which the bits of GO and SOURCE decide. -/
theorem evcRaise : Obligations.EvcRaise := by
  unfold Obligations.EvcRaise
  intro s p v hadmits
  rw [exec_evcRaise, viaPartner_of_admits _ hadmits, evcRaiseWrite_eq]

end Sys2Proof.Machine
end
